-- ==== Sys2Proof/Word.lean ====
section
/-! DEFINITION. The words of the MW2630: bytes and epochs (12, R183; 03, section 3.2). -/

namespace Sys2Proof

/-- One byte of a frame's payload, of the configuration image or of a view (12, R183). -/
abbrev Byte := BitVec 8

/-- An epoch of drivership: 0 to 65,535, wrapping (03, section 3.2). -/
abbrev Epoch := BitVec 16

end Sys2Proof
end

