-- ==== Sys2Proof/Syntax.lean ====
section
/-! DEFINITION. The commands of the MW2630: one constructor for each row of spec/opcode_table.json, with
the operands the event carries. The table gives the rows no bits and no fields; the operands are the
model's reading of what each event brings (log entries 18 to 20, 29, 31, 32, 34 and 35). -/

namespace Sys2Proof

/-- Levels of the strap pins SN0 to SN4 and ADR0, ADR1, the bit of a number being the pin's (R160). R160 says so of SN0 and
SN4; that ADR0 is the less significant bit of the address offset is the model's choice (DESIGN CHOICE, log entry 41). -/
structure Straps where
  sn  : BitVec 5
  adr : BitVec 2
  deriving DecidableEq, Repr

/-- Outcome of one measurement of a temperature channel (R76). -/
inductive Measurement where
  | value (raw : Int)
  | openCircuit
  | shorted
  deriving DecidableEq, Repr

/-- The role field of a drive role and of a STATUS (Table 3-2, Table 12-2). -/
inductive RoleKind where
  | primary
  | standby
  deriving DecidableEq, Repr

/-- Drive states (Table 2-7). -/
inductive DriveState where
  | released
  | spinUp
  | tracking
  | stopped
  | failsafe
  deriving DecidableEq, Repr

/-- Group condition (R31). -/
inductive Condition where
  | normal
  | degraded
  | failed
  deriving DecidableEq, Repr

/-- Reason of a demand level (R96). -/
inductive Reason where
  | curve
  | channelFault
  | compensation
  deriving DecidableEq, Repr

/-- Alert kinds (R137). -/
inductive AlertKind where
  | critical
  | saturation
  | saturationClear
  deriving DecidableEq, Repr

/-- Frame kinds (Table 8-1). -/
inductive FrameKind where
  | alert
  | takeover
  | handback
  | yield
  | status
  | demand
  deriving DecidableEq, Repr

/-- One entry of a DEMAND (Table 12-2). -/
structure DemandItem where
  group  : Nat
  level  : Nat
  reason : Reason
  deriving DecidableEq, Repr

/-- Content of a STATUS (Table 2-9). -/
structure StatusContent where
  group     : Nat
  epoch     : Epoch
  role      : RoleKind
  drive     : DriveState
  level     : Nat
  condition : Condition
  speeds    : List Nat
  deriving DecidableEq, Repr

/-- Kind and content of a frame (Table 8-1). -/
inductive Payload where
  | demand (items : List DemandItem)
  | status (content : StatusContent)
  | takeover (group : Nat) (epoch : Epoch)
  | handback (group : Nat) (epochSeen : Epoch)
  | yield (group : Nat) (newEpoch : Epoch) (addressed : Nat) (level : Nat)
  | alert (kind : AlertKind) (subject : Nat) (value : Int)
  deriving DecidableEq, Repr

/-- A frame as its cells stood on the wire (R128, Table 12-1): header fields, payload bytes, CRC. -/
structure WireFrame where
  cls     : BitVec 2
  sender  : BitVec 5
  kind    : BitVec 3
  length  : BitVec 5
  payload : List Byte
  crc     : BitVec 16
  deriving DecidableEq, Repr

/-- What the receiver measured when it looked for a pulse error (R125 to R127), in nanoseconds. -/
inductive Pulse where
  /-- The low of a start mark lasted this long. -/
  | startLow (ns : Nat)
  /-- The low of a bit cell lasted this long. -/
  | cellLow (ns : Nat)
  /-- The first cell's edge came this long after the start mark's falling edge, or had not come by then. -/
  | firstEdge (ns : Nat)
  /-- A later cell's edge came this long after the previous cell's edge, or had not come by then. -/
  | nextEdge (ns : Nat)
  deriving DecidableEq, Repr

/-- What a contender met in its own frame (R130): a cell whose sample differs from the bit it sent
(cells are counted from 1), or a pulse error. -/
inductive Mismatch where
  | cell (n : Nat)
  | pulse (p : Pulse)
  deriving DecidableEq, Repr

/-- The commands: one constructor for each row of spec/opcode_table.json. -/
inductive Instr where
  /-- RESET_HELD_ENTRY (R157, R169): a read in progress at the service port had delivered this many bytes (none if
  nothing is said). -/
  | resetHeldEntry (delivered : Nat := 0)
  /-- RESET_HELD_END (R157, R160): the straps are read. -/
  | resetHeldEnd (straps : Straps)
  /-- MEMORY_ANSWER_TIMEOUT (R161). -/
  | memoryAnswerTimeout
  /-- SLOT_READ_COMPLETE (R161): what the memory answers. Its status byte, where the slot's read has not begun (ready if
  nothing is said), and bytes of the slot, after those that came before; the read ends with them, or goes on. -/
  | slotReadComplete (bytes : List Byte) (status : Byte := 0) (ended : Bool := true)
  /-- JOIN_WINDOW_EXPIRY (R165). -/
  | joinWindowExpiry
  /-- ROUND_COMPLETE (R75): the round's measurements of T0 to T7. -/
  | roundComplete (measurements : List Measurement)
  /-- CRITICAL_ALERT_REPEAT_EXPIRY (R86). -/
  | criticalAlertRepeatExpiry (channel : Nat)
  /-- CLAIM_EXPIRY (R12). -/
  | claimExpiry (role : Nat) (station : Nat)
  /-- JOIN_GRACE_END (R14). -/
  | joinGraceEnd (role : Nat)
  /-- PEAK_EXPIRY (R19). -/
  | peakExpiry (role : Nat)
  /-- TACH_MEASUREMENT (R27): one fan channel's window closes with these falling edges, in µs from its opening. -/
  | tachMeasurement (channel : Nat) (edges : List Nat)
  /-- RAMP_TIMER_EXPIRY (R37). -/
  | rampTimerExpiry (role : Nat)
  /-- STOP_DELAY_EXPIRY (R39). -/
  | stopDelayExpiry (role : Nat)
  /-- SPIN_UP_EXPIRY (R41). -/
  | spinUpExpiry (role : Nat)
  /-- STATUS_TIMER_EXPIRY (R45). -/
  | statusTimerExpiry (role : Nat)
  /-- SILENCE_TIMER_EXPIRY (R62). -/
  | silenceTimerExpiry (role : Nat)
  /-- OTHER_SILENCE_EXPIRY (R57). -/
  | otherSilenceExpiry (role : Nat)
  /-- DISPLACED_HOLD_EXPIRY (R56). -/
  | displacedHoldExpiry (role : Nat)
  /-- HANDBACK_WAIT_EXPIRY (R58). -/
  | handbackWaitExpiry (role : Nat)
  /-- REFRESH_TIMER_EXPIRY (R101). -/
  | refreshTimerExpiry
  /-- VIEW_STALE (R108). -/
  | viewStale (group : Nat)
  /-- SATURATION_ALERT_REPEAT_EXPIRY (R113): of the demand group for this fan group. -/
  | saturationAlertRepeatExpiry (group : Nat)
  /-- BOARD_RENEWAL_EXPIRY (R117). -/
  | boardRenewalExpiry (group : Nat) (station : Nat)
  /-- ROSTER_SILENT (R151). -/
  | rosterSilent (station : Nat)
  /-- ROSTER_LOSS (R151). -/
  | rosterLoss (station : Nat)
  /-- LINK_SILENCE_EXPIRY (R153). -/
  | linkSilenceExpiry
  /-- DEMAND_FRAME (R8). -/
  | demandFrame (sender : Nat) (items : List DemandItem)
  /-- STATUS_FRAME (R107). -/
  | statusFrame (sender : Nat) (content : StatusContent)
  /-- TAKEOVER_FRAME (R51). -/
  | takeoverFrame (sender : Nat) (group : Nat) (epoch : Epoch)
  /-- HANDBACK_FRAME (R64). -/
  | handbackFrame (sender : Nat) (group : Nat) (epochSeen : Epoch)
  /-- YIELD_FRAME (R59). -/
  | yieldFrame (sender : Nat) (group : Nat) (newEpoch : Epoch) (addressed : Nat) (level : Nat)
  /-- ALERT_FRAME (R116, R117, R120). -/
  | alertFrame (sender : Nat) (kind : AlertKind) (subject : Nat) (value : Int)
  /-- BAD_FRAME_RECEIVED (R138): the frame as it stood on the wire. -/
  | badFrameReceived (frame : WireFrame)
  /-- PULSE_ERROR (R127): what was measured. -/
  | pulseError (pulse : Pulse)
  /-- LINE_IDLE (R124): whether the edge of a peer's start mark falls at the same instant and is taken first (no if
  nothing is said). -/
  | lineIdle (peerFirst : Bool := false)
  /-- CONTENTION_LOSS (R129): the cell of the precedence field, 1 to 7, at which 0 was sampled. -/
  | contentionLoss (cell : Nat)
  /-- OVERLAP (R130). -/
  | overlap (mismatch : Mismatch)
  /-- LINE_STUCK (R132). -/
  | lineStuck
  /-- FRAME_TRANSMITTED (R128). -/
  | frameTransmitted
  /-- RESTART (R159): the straps are read again. -/
  | restart (straps : Straps)
  /-- TAKE_NOTICE (R173). -/
  | takeNotice
  /-- CLEAR_LATCHES (R174). -/
  | clearLatches
  /-- STATION_VIEW (R171). -/
  | stationView
  /-- CHANNEL_VIEW (R171). -/
  | channelView (index : Byte)
  /-- FAN_VIEW (R171). -/
  | fanView (index : Byte)
  /-- ROLE_VIEW (R171). -/
  | roleView (index : Byte)
  /-- CLAIMS_VIEW (R171). -/
  | claimsView (index : Byte)
  /-- GROUPVIEW_VIEW (R171). -/
  | groupviewView (index : Byte)
  /-- ROSTER_VIEW (R171). -/
  | rosterView
  /-- DEMAND_VIEW (R171). -/
  | demandView
  /-- SATBOARD_VIEW (R171). -/
  | satboardView
  /-- NOTICE_VIEW (R171). -/
  | noticeView
  /-- COUNTS_VIEW (R171). -/
  | countsView
  /-- WRITE_REFUSED (R169, R170): a write transaction to this address brings these bytes, and is ended after them by a STOP
  or a repeated START (if nothing else is said), or goes on. -/
  | writeRefused (address : BitVec 7) (bytes : List Byte) (ended : Bool := true)
  /-- READ_TRANSACTION (R172): a read transaction of this address, of this many bytes. -/
  | readTransaction (address : BitVec 7) (count : Nat)
  /-- START_MARK (R123). -/
  | startMark
  deriving DecidableEq, Repr

end Sys2Proof
end

