-- ==== Sys2Proof/WellFormed.lean ====
section
/-! DEFINITION. Which commands have operands in the ranges the spec gives (00 Table 0-3, 08 R138, 11 R171).
A meaning is total all the same: an operand out of range names no channel, role, group or entry, or spells a
frame that the reception checks discard. -/

namespace Sys2Proof

/-- A station number that a frame may carry (00, Table 0-3; R138). -/
def stationOk (n : Nat) : Bool := 1 ≤ n && n ≤ 30

/-- A fan group (00, Table 0-3). -/
def groupOk (n : Nat) : Bool := n ≤ 15

/-- A level (00, Table 0-3). -/
def levelOk (n : Nat) : Bool := n ≤ 100

/-- Ranges of one DEMAND entry (R138). -/
def DemandItem.wf (d : DemandItem) : Bool := groupOk d.group && levelOk d.level

/-- Ranges of a STATUS: 1 to 4 speeds, and a drive state that has a frame code (R136, R138, Table 12-2). -/
def StatusContent.wf (c : StatusContent) : Bool :=
  groupOk c.group && levelOk c.level && c.drive != .released
    && 1 ≤ c.speeds.length && c.speeds.length ≤ 4 && c.speeds.all (fun v => decide (v ≤ 25000))

/-- The addressed primary of a YIELD (R138): a byte other than 0 and 31, so that 1 to 30 and 32 to 255 are in range. No frame
can carry a number above 255 (log entry 36). -/
def addresseeOk (n : Nat) : Bool := n != 0 && n != 31 && decide (n ≤ 255)

/-- Ranges of a frame's content (R138). -/
def Payload.wf : Payload → Bool
  | .demand items => decide (items.length ≤ 8) && items.all DemandItem.wf && decide ((items.map (·.group)).Nodup)
  | .status c => c.wf
  | .takeover g _ => groupOk g
  | .handback g _ => groupOk g
  | .yield g _ a l => groupOk g && addresseeOk a && levelOk l
  | .alert .critical c v => decide (c ≤ 7) && decide (-40 ≤ v) && decide (v ≤ 150)
  | .alert .saturation g v => groupOk g && v == 0
  | .alert .saturationClear g v => groupOk g && v == 0

/-- Well-formed commands: operands in the ranges of the spec. -/
def Instr.wf : Instr → Bool
  | .slotReadComplete bytes _ _ => decide (bytes.length ≤ 512)
  | .roundComplete ms => ms.length == 8
  | .criticalAlertRepeatExpiry c => decide (c ≤ 7)
  | .claimExpiry r n => decide (r ≤ 3) && stationOk n
  | .joinGraceEnd r => decide (r ≤ 3)
  | .peakExpiry r => decide (r ≤ 3)
  | .tachMeasurement c edges => decide (c ≤ 5) && edges.all (fun e => decide (e ≤ 500000)) && decide (edges.Pairwise (· < ·))
  | .rampTimerExpiry r => decide (r ≤ 3)
  | .stopDelayExpiry r => decide (r ≤ 3)
  | .spinUpExpiry r => decide (r ≤ 3)
  | .statusTimerExpiry r => decide (r ≤ 3)
  | .silenceTimerExpiry r => decide (r ≤ 3)
  | .otherSilenceExpiry r => decide (r ≤ 3)
  | .displacedHoldExpiry r => decide (r ≤ 3)
  | .handbackWaitExpiry r => decide (r ≤ 3)
  | .viewStale g => groupOk g
  | .saturationAlertRepeatExpiry g => groupOk g
  | .boardRenewalExpiry g n => groupOk g && stationOk n
  | .rosterSilent n => stationOk n
  | .rosterLoss n => stationOk n
  | .demandFrame n items => stationOk n && (Payload.demand items).wf
  | .statusFrame n c => stationOk n && c.wf
  | .takeoverFrame n g _ => stationOk n && groupOk g
  | .handbackFrame n g _ => stationOk n && groupOk g
  | .yieldFrame n g e a l => stationOk n && (Payload.yield g e a l).wf
  | .alertFrame n k c v => stationOk n && (Payload.alert k c v).wf
  | .badFrameReceived w => w.payload.length == w.length.toNat
  | .contentionLoss c => decide (1 ≤ c) && decide (c ≤ 7)
  | .overlap (.cell c) => decide (1 ≤ c)
  | .overlap (.pulse _) => true
  | .channelView i => decide (i.toNat ≤ 7)
  | .fanView i => decide (i.toNat ≤ 5)
  | .roleView i => decide (i.toNat ≤ 3)
  | .claimsView i => decide (i.toNat ≤ 3)
  | .groupviewView i => decide (i.toNat ≤ 15)
  | .resetHeldEntry _ | .resetHeldEnd _ | .memoryAnswerTimeout | .joinWindowExpiry | .refreshTimerExpiry
  | .linkSilenceExpiry | .pulseError _ | .lineIdle _ | .lineStuck | .frameTransmitted | .restart _ | .takeNotice
  | .clearLatches | .stationView | .rosterView | .demandView | .satboardView | .noticeView | .countsView
  | .writeRefused _ _ _ | .readTransaction _ _ | .startMark => true

end Sys2Proof
end

