-- ==== Sys2Proof/Decode.lean ====
section
/-! DEFINITION. The opcode table gives no row any bits ("fields": [] on every row), so no word spells a
command. Frames on the Zone Link are decoded in Machine/Frames.lean, writes on the service port in
Machine/Service.lean, the configuration image in Machine/Image.lean. -/

namespace Sys2Proof

/-- The command a word spells by the table's bits: none, for no row has bits. -/
def decodeTableWord (_nbits _w : Nat) : Option Instr := none

end Sys2Proof
end

