-- ==== Sys2Proof/Config.lean ====
section
/-! DEFINITION. What the spec leaves open and the model leaves free. -/

namespace Sys2Proof

/-- FREE VALUE (log entry 5). At one received frame, does the Peer Unit take the frame before the Claim
Unit or the Drivership Unit does? R154 (09) says "in either order", and 00 says that events that reach
different blocks are not ordered. Consulted with a counter of State, so each frame has its own answer. -/
opaque Config.peerUnitFirst : Nat → Bool

end Sys2Proof
end

