-- ==== Sys2Proof/Machine/State.lean ====
section
/-! DEFINITION. Everything the spec gives the MW2630, as plain data, and the machine right after reset. -/

namespace Sys2Proof.Machine

/-- A timer: stopped, running to an instant of `State.now` (ms), or frozen with the ms it has left (03, section 3.1). -/
inductive Timer where
  | stopped
  | running (due : Nat)
  | frozen (left : Nat)
  deriving DecidableEq, Repr

/-! ### Configuration (12, Table 12-3) -/

/-- Station timing section of the image (Tables 3-1, 5-3, 6-1, 9-1). -/
structure Timing where
  /-- Refresh interval, tenths of a second. -/
  refreshTenths : Nat
  /-- Change threshold. -/
  threshold     : Nat
  /-- Isolation time, s. -/
  isolationS    : Nat
  solitary      : Bool
  shareThrottle : Bool
  /-- Takeover time, s. -/
  takeoverS     : Nat
  /-- Saturation time, s. -/
  saturationS   : Nat
  /-- Release margin. -/
  margin        : Nat
  /-- Enclosure list. -/
  enclosure     : List Nat
  deriving DecidableEq, Repr

/-- Notice modes (Table 4-5). -/
inductive NoticeMode where
  | quiet
  | rise
  | riseFall
  deriving DecidableEq, Repr

/-- Configuration of a temperature channel (Table 4-1). -/
structure ChannelCfg where
  offset : Int
  high   : Int
  rel    : Int
  crit   : Int
  mode   : NoticeMode
  deriving DecidableEq, Repr

/-- Configuration of a fan channel (Table 2-1). -/
structure FanCfg where
  pulses   : Nat
  minSpeed : Nat
  deriving DecidableEq, Repr

/-- Configuration of a drive role (Tables 1-1, 2-5, 3-1). Times in ms. -/
structure RoleCfg where
  group         : Nat
  kind          : RoleKind
  stopPermitted : Bool
  partner       : Option Nat
  channels      : List Nat
  rampStep      : Nat
  upMs          : Nat
  downMs        : Nat
  startUp       : Nat
  spinUpMs      : Nat
  stopDelayMs   : Nat
  checkLevel    : Nat
  floor         : Nat
  claimMs       : Nat
  lostLevel     : Nat
  required      : List Nat
  deriving DecidableEq, Repr

/-- Curve of one channel in one demand group (Table 5-2). -/
structure Curve where
  channel : Nat
  t1 : Int
  t2 : Int
  t3 : Int
  t4 : Int
  l0 : Nat
  l1 : Nat
  l2 : Nat
  l3 : Nat
  l4 : Nat
  deriving DecidableEq, Repr

/-- Configuration of a demand group (Table 5-1). -/
structure DemandCfg where
  group      : Nat
  curves     : List Curve
  neighbours : List Nat
  boost      : Nat
  faultLevel : Nat
  deriving DecidableEq, Repr

/-- A configuration image (Table 10-2). A channel record is none when the image marks it unused. -/
structure Image where
  generation : Nat
  timing     : Timing
  channels   : List (Option ChannelCfg)
  fans       : List FanCfg
  roles      : List RoleCfg
  demands    : List DemandCfg
  deriving DecidableEq, Repr

/-! ### Station Control (10) -/

/-- Station states (Table 10-1). -/
inductive StationState where
  | resetHeld
  | loading
  | joining
  | running
  | faulted
  deriving DecidableEq, Repr

/-- Fault causes (Table 12-6). -/
inductive Cause where
  | badStrap
  | memoryAbsent
  | imageCrc
  | imageFormat
  | imageContent
  | duplicateStation
  deriving DecidableEq, Repr

/-- Slots of the serial memory (10, section 10.3). -/
inductive Slot where
  | a
  | b
  deriving DecidableEq, Repr

/-- Result of one slot (R161). -/
inductive SlotResult where
  | notRead
  | valid
  | bad (cause : Cause) (item : Nat)
  deriving DecidableEq, Repr

/-- The reading of the slots in LOADING (R161), and the Memory Port, which holds nothing between starts (00). -/
structure Load where
  /-- The slot being read. -/
  slot     : Slot
  /-- Slot A's image, if valid. -/
  imageA   : Option Image
  /-- The 100 ms in which the memory is to answer ready, from the slot's first query; stopped once it has. -/
  answer   : Timer
  /-- MSEL selects the memory: the read of the slot goes on (12, section 12.3; a status query is one event, log entry 29). -/
  msel     : Bool
  /-- What the port has sent on MDO in the slot's latest command; none before the first. -/
  request  : List Byte
  /-- What the memory has returned on MDI in that command. -/
  returned : List Byte
  deriving DecidableEq, Repr

/-- Station Control (R157). -/
structure Control where
  state      : StationState
  cause      : Option Cause
  item       : Nat
  /-- Station number read from the straps; none while unread. -/
  station    : Option Nat
  /-- Service port address offset; none while unread. -/
  offset     : Option Nat
  /-- Levels of the strap pins as last given (log entry 18). -/
  straps     : Straps
  /-- Slot taken and generation of its image. -/
  taken      : Option (Slot × Nat)
  slotA      : SlotResult
  slotB      : SlotResult
  load       : Option Load
  /-- Instant of the last start: the time base counts whole seconds from it (R158). -/
  startAt    : Nat
  joinWindow : Timer
  deriving DecidableEq, Repr

/-! ### Temperature Unit (04) -/

/-- Health of a temperature channel, and kind of a measurement (R77). -/
inductive Health where
  | valid
  | openCircuit
  | shorted
  deriving DecidableEq, Repr

/-- Watch state (Table 4-2). -/
inductive Watch where
  | below
  | above
  deriving DecidableEq, Repr

/-- Temperature channel record (Table 4-2). -/
structure TempChannel where
  used        : Bool
  cfg         : ChannelCfg
  health      : Health
  reading     : Option Int
  prev        : Option Health
  watch       : Watch
  latch       : Bool
  critCount   : Nat
  critical    : Bool
  repeatTimer : Timer
  deriving DecidableEq, Repr

/-! ### Demand Unit (05, 06 section 6.3) -/

/-- Saturation states (R110). -/
inductive SatState where
  | clear
  | counting
  | saturated
  deriving DecidableEq, Repr

/-- Demand record entry (Table 5-4) with its saturation monitor (R110). -/
structure DemandEntry where
  cfg       : DemandCfg
  level     : Nat
  reason    : Reason
  curvePart : Nat
  faultPart : Nat
  boosted   : Bool
  /-- Last posted level and reason. -/
  last      : Option (Nat × Reason)
  sat       : SatState
  /-- Saturation count, quarter seconds. -/
  satCount  : Nat
  satRepeat : Timer
  deriving DecidableEq, Repr

/-- The Demand Unit: record, refresh timer, and whether a DEMAND has been transmitted (R98) and a computation
made (R97) since the entry into JOINING. -/
structure DemandUnit where
  entries  : List DemandEntry
  refresh  : Timer
  sent     : Bool
  computed : Bool
  deriving DecidableEq, Repr

/-! ### Roles: Claim Unit (01), Drive Unit (02), Drivership Unit (03) -/

/-- Claim kinds (Table 1-2). -/
inductive ClaimKind where
  | own
  | required
  | ordinary
  deriving DecidableEq, Repr

/-- What a LIVE claim holds: level, reason, and the instant it was last made LIVE or refreshed (0 for OWN, whose age is not kept). -/
structure LiveClaim where
  level  : Nat
  reason : Reason
  since  : Nat
  deriving DecidableEq, Repr

/-- Claim entry (Table 1-2): LIVE when `live` is some, AWAITED when none. -/
structure ClaimEntry where
  station      : Nat
  kind         : ClaimKind
  live         : Option LiveClaim
  lossReported : Bool
  deriving DecidableEq, Repr

/-- Claim table of one role: entries in table order, unrecorded peak, join grace (R1, R14, R18). -/
structure ClaimTable where
  entries    : List ClaimEntry
  peak       : Nat
  peakTimer  : Timer
  grace      : Timer
  graceEnded : Bool
  deriving DecidableEq, Repr

/-- The ramp timer and its direction (Table 2-6). -/
inductive Ramp where
  | stopped
  | up (due : Nat)
  | down (due : Nat)
  deriving DecidableEq, Repr

/-- FAILSAFE causes, a set (R42). -/
structure Causes where
  isolated    : Bool
  groupFailed : Bool
  critical    : Bool
  deriving DecidableEq, Repr

/-- Drive record (Table 2-6). -/
structure Drive where
  state       : DriveState
  target      : Nat
  level       : Nat
  ramp        : Ramp
  spinUp      : Timer
  spinUpLevel : Nat
  stopDelay   : Timer
  condition   : Condition
  causes      : Causes
  statusTimer : Timer
  /-- The model's own mark (log entry 7): a STATUS is to be queued at the end of the present event. Clear between events. -/
  statusDue   : Bool
  deriving DecidableEq, Repr

/-- Role machine states (Table 3-2). -/
inductive RoleMachine where
  | listen
  | own
  | displaced
  | reclaim
  | watch
  | claiming
  | act
  deriving DecidableEq, Repr

/-- Forcing mark (Table 3-2). -/
inductive Forcing where
  | clear
  | silence
  | attempts
  deriving DecidableEq, Repr

/-- Role record (Table 3-2); role and partner stand in the configuration. -/
structure Ship where
  machine       : RoleMachine
  epoch         : Option Epoch
  /-- Highest-known epoch. -/
  known         : Option Epoch
  /-- Acting other. -/
  other         : Option (Nat × Epoch)
  joinMark      : Bool
  attempts      : Nat
  forcing       : Forcing
  pendingExpiry : Bool
  silence       : Timer
  otherSilence  : Timer
  hold          : Timer
  wait          : Timer
  deriving DecidableEq, Repr

/-- One drive role: configuration, claim table, drive record, role record. -/
structure Role where
  cfg    : RoleCfg
  claims : ClaimTable
  drive  : Drive
  ship   : Ship
  deriving DecidableEq, Repr

/-- Fan health (Table 2-2). -/
inductive FanHealth where
  | unchecked
  | ok
  | slow
  | failed
  deriving DecidableEq, Repr

/-- The present run of measurements: below the minimum or not, and the instant of its first (Table 2-2). -/
structure Run where
  below : Bool
  since : Nat
  deriving DecidableEq, Repr

/-- Fan channel record (Table 2-2). -/
structure FanChannel where
  cfg           : FanCfg
  role          : Option Nat
  /-- FOUTn: none is released, some d is driven at duty d. -/
  output        : Option Nat
  speed         : Nat
  health        : FanHealth
  run           : Option Run
  faultReported : Bool
  /-- End of the open measurement window (R27). -/
  window        : Timer
  deriving DecidableEq, Repr

/-! ### Peer Unit (06, 09) -/

/-- Group view (Table 6-2) that is present. -/
structure GroupView where
  driver    : Nat
  epoch     : Epoch
  role      : RoleKind
  drive     : DriveState
  level     : Nat
  condition : Condition
  speeds    : List Nat
  takenAt   : Nat
  stale     : Bool
  deriving DecidableEq, Repr

/-- Roster entry (Table 9-2). -/
structure RosterEntry where
  station    : Nat
  firstHeard : Nat
  lastHeard  : Nat
  /-- Instant of the latest valid frame, for the unheard time. -/
  heardAt    : Nat
  silent     : Bool
  deriving DecidableEq, Repr

/-- Member of a saturation board set, with the instant its renewal timer ends (R116). -/
structure Member where
  station : Nat
  due     : Nat
  deriving DecidableEq, Repr

/-- Critical-peer list entry (R120). -/
structure CritPeer where
  station : Nat
  channel : Nat
  reading : Int
  listed  : Bool
  deriving DecidableEq, Repr

/-- The Peer Unit. -/
structure PeerUnit where
  roster     : List RosterEntry
  views      : List (Option GroupView)
  board      : List (List Member)
  critPeers  : List CritPeer
  isolated   : Bool
  /-- Instant at which the present or latest isolation was declared (R154). -/
  isolatedAt : Nat
  linkTimer  : Timer
  /-- Sender of the last valid frame the roster took since the start, 0 for none (R153). -/
  lastSender : Nat
  deriving DecidableEq, Repr

/-! ### Link Controller (07, 08) -/

/-- Line states (R123). -/
inductive LineState where
  | notIdle
  | idle
  | frame
  | stuck
  deriving DecidableEq, Repr

/-- The line as the Link Controller reads it (R123, R132). -/
structure Line where
  state     : LineState
  stuckOpen : Bool
  deriving DecidableEq, Repr

/-- Transmit queue entry (Table 8-2). `stamp` is its queued-at instant, a number that rises with each queueing. -/
structure QEntry where
  payload   : Payload
  stamp     : Nat
  overlaps  : Nat
  onWire    : Bool
  /-- STATUS only: content queued while the frame is on the wire, with its queued-at instant (R144). -/
  successor : Option (StatusContent × Nat)
  deriving DecidableEq, Repr

/-! ### Service Port (11) -/

/-- Notice kinds, in the order of Table 11-3. -/
inductive NoticeKind where
  | restarted | imageSlotBad | joined | fault
  | limitRise | limitFall | critical | channelFault | channelRecovered
  | fanFault | fanRecovered
  | contributorLost | contributorBack | tableFull
  | takeover | handbackDone | displaced | driverConflict
  | saturated | saturationCleared | peerCritical | peerSaturated
  | peerJoined | peerLost | isolated | rejoined
  | linkStuck
  | txOverflow
  deriving DecidableEq, Repr

/-- Notice record (Table 11-2). -/
structure Notice where
  seq     : BitVec 16
  time    : Nat
  kind    : NoticeKind
  subject : Nat
  value   : Option Int
  deriving DecidableEq, Repr

/-- The notice queue, head first, the next sequence number, the dropped count, and the ALERT line (R176, R181). -/
structure Notices where
  queue     : List Notice
  next      : BitVec 16
  dropped   : Nat
  alertLine : Bool
  deriving DecidableEq, Repr

/-- Views (Table 11-1). -/
inductive View where
  | station
  | channel (index : Nat)
  | fan (index : Nat)
  | role (index : Nat)
  | claims (index : Nat)
  | groupview (index : Nat)
  | roster
  | demand
  | satboard
  | notice
  | counts
  deriving DecidableEq, Repr

/-- The transaction in progress at the service port (R169): none, a write with the bytes it has brought so far, each with its
acknowledgement (R170), or a read. Without one, and from the entry into RESET_HELD, the port leaves SDA released. -/
inductive Transfer where
  | idle
  | write (bytes : List (Byte × Bool))
  | read
  deriving DecidableEq, Repr

/-- The service port: the selection, the snapshot of the latest read, the bytes that read returned (R171, R172), and the
transaction in progress (R169). -/
structure Port where
  selection : View
  snapshot  : List Byte
  sent      : List Byte
  transfer  : Transfer
  deriving DecidableEq, Repr

/-! ### The station -/

/-- Everything the spec gives the MW2630, and the queue of the commands that wait. -/
structure State where
  /-- Commands that wait, first in, first out. -/
  pending    : List Instr
  /-- The model's clock, ms (log entry 1). -/
  now        : Nat
  /-- Counter of the free choices taken (log entry 5). -/
  choices    : Nat
  /-- Counter of queueings (log entry 6). -/
  stamp      : Nat
  ctl        : Control
  timing     : Option Timing
  temps      : List TempChannel
  roundTimer : Timer
  demand     : DemandUnit
  roles      : List Role
  fans       : List FanChannel
  peers      : PeerUnit
  line       : Line
  txq        : List QEntry
  badCount   : Nat
  shutdown   : Bool
  throttle   : Bool
  notices    : Notices
  port       : Port
  deriving DecidableEq, Repr

/-- Reasons for a stop by fault: none. The spec names no event that stops the block (INVENTORY.md, Faults). -/
inductive Fault where
  deriving DecidableEq, Repr

/-- Reasons for a refusal. -/
inductive Refusal where
  /-- Raised by exec's arm of a command that has no meaning yet; safe, for nothing is then claimed of it. No arm raises it. -/
  | notModelled (mnemonic : String)
  deriving DecidableEq, Repr

/-! ### Reset -/

/-- Configuration an unused channel shows (R89). -/
def ChannelCfg.unused : ChannelCfg := ⟨0, 0, 0, 0, .quiet⟩

/-- A channel record at power-on (R74). -/
def TempChannel.reset : TempChannel := ⟨false, .unused, .valid, none, none, .below, false, 0, false, .stopped⟩

/-- A fan channel record at every start (R26). -/
def FanChannel.reset : FanChannel := ⟨⟨0, 0⟩, none, none, 0, .unchecked, none, false, .stopped⟩

/-- The Demand Unit at every start (R91). -/
def DemandUnit.reset : DemandUnit := ⟨[], .stopped, false, false⟩

/-- The Peer Unit at every start (R106, R116, R120, R149, R152). -/
def PeerUnit.reset : PeerUnit :=
  ⟨[], List.replicate 16 none, List.replicate 16 [], [], false, 0, .stopped, 0⟩

/-- A slot's turn to be read (R161): its 100 ms run from the first query, and MSEL is released. -/
def Load.start (slot : Slot) (imageA : Option Image) (now : Nat) : Load := ⟨slot, imageA, .running (now + 100), false, [], []⟩

/-- The notice queue after the entry into RESET_HELD (R180, R181). -/
def Notices.reset : Notices := ⟨[], 0, 0, false⟩

/-- Station Control in RESET_HELD (R157). -/
def Control.reset : Control :=
  ⟨.resetHeld, none, 0, none, none, ⟨0, 0⟩, none, .notRead, .notRead, none, 0, .stopped⟩

/-- The station right after power-on: RESET_HELD, every block at the values its chapter gives. -/
def State.reset : State where
  pending    := []
  now        := 0
  choices    := 0
  stamp      := 0
  ctl        := .reset
  timing     := none
  temps      := List.replicate 8 .reset
  roundTimer := .stopped
  demand     := .reset
  roles      := []
  fans       := List.replicate 6 .reset
  peers      := .reset
  line       := ⟨.notIdle, false⟩
  txq        := []
  badCount   := 0
  shutdown   := false
  throttle   := false
  notices    := .reset
  port       := ⟨.station, [], [], .idle⟩

end Sys2Proof.Machine
end

