-- ==== Sys2Proof/Machine/Operands.lean ====
section
/-! DEFINITION. What the operands of the commands mean: epochs compared (00, 03 section 3.2), measured values
(R76), pulses (R125 to R127), tachometer windows (R27). -/

namespace Sys2Proof.Machine

/-- Epoch A is newer than epoch B when (A − B) modulo 65,536 lies in 1 to 32,767 (00, Table 0-3; R51). -/
def newer (a b : Epoch) : Bool :=
  let d := (a - b).toNat
  decide (1 ≤ d) && decide (d ≤ 32767)

/-- An epoch against a highest-known epoch that may be unknown (R51): unknown is older than every epoch. -/
def newerThanKnown (e : Epoch) : Option Epoch → Bool
  | none => true
  | some k => newer e k

/-- The epoch taken at the end of LISTEN and built into a TAKEOVER (R52). -/
def nextEpoch : Option Epoch → Epoch
  | none => 1
  | some k => k + 1

/-- The highest-known epoch after an epoch was heard or taken (R51). -/
def noteEpoch (e : Epoch) (known : Option Epoch) : Option Epoch :=
  if newerThanKnown e known then some e else known

/-- The measurement's value: raw value plus offset, held to −40 to +150 (R76). -/
def measuredValue (offset raw : Int) : Int := max (-40) (min 150 (raw + offset))

/-- The kind of a measurement (R77). -/
def measuredKind : Measurement → Health
  | .value _ => .valid
  | .openCircuit => .openCircuit
  | .shorted => .shorted

/-- The window in which a cell's edge is accepted, in ns (Table 7-1, R125): for the first cell after the start mark's falling
edge, for a later one after the previous cell's edge. -/
def inEdgeWindow (first : Bool) (ns : Nat) : Bool :=
  if first then decide (30000 ≤ ns) && decide (ns ≤ 34000) else decide (7000 ≤ ns) && decide (ns ≤ 9000)

/-- Is what was measured a pulse error (Table 7-1, R125, R127)? -/
def pulseIsError : Pulse → Bool
  | .startLow ns => decide (ns < 20000) || decide (28000 < ns)
  | .cellLow ns => decide (ns < 1000) || (decide (3000 < ns) && decide (ns < 5000)) || decide (7000 < ns)
  | .firstEdge ns => !inEdgeWindow true ns
  | .nextEdge ns => !inEdgeWindow false ns

/-- The recorded edges of a window: an edge less than 100 µs after the previously recorded one is ignored (R27; log entry 10). -/
def recordedEdges : Option Nat → List Nat → List Nat
  | _, [] => []
  | none, e :: es => e :: recordedEdges (some e) es
  | some p, e :: es => if e < p + 100 then recordedEdges (some p) es else e :: recordedEdges (some e) es

/-- The speed of one window (R27): with k recorded edges, first to last apart by `span` µs, the mean period is
span / (k − 1), and the speed is 60,000,000 divided by it times the pulses per revolution, rounded down, at most 25,000. -/
def tachSpeed (pulses : Nat) (edges : List Nat) : Nat :=
  let es := recordedEdges none edges
  if es.length < 2 then 0
  else
    let span := es.getLastD 0 - es.headD 0
    min 25000 (60000000 * (es.length - 1) / (span * pulses))

/-- What is left of a timer, in ms: 0 while stopped, its remaining time while frozen (R49, R72). -/
def Timer.left (now : Nat) : Timer → Nat
  | .stopped => 0
  | .running due => due - now
  | .frozen l => l

/-- Tenths of a second, rounded up, of a time that counts down (R183). -/
def tenthsUp (ms : Nat) : Nat := (ms + 99) / 100

/-- Tenths of a second, rounded down, of an age (R183). -/
def tenthsDown (ms : Nat) : Nat := ms / 100

/-- A timer frozen with what it has left (03, section 3.1; R69). -/
def Timer.freeze (now : Nat) : Timer → Timer
  | .running due => .frozen (due - now)
  | t => t

/-- A frozen timer that runs on from what it had left (03, section 3.1; R69). -/
def Timer.unfreeze (now : Nat) : Timer → Timer
  | .frozen l => .running (now + l)
  | t => t

end Sys2Proof.Machine
end

