-- ==== Sys2Proof/Machine/Flags.lean ====
section
/-! DEFINITION. The code values of frames, views and notices (12), and the conditions that marks and lines stand for:
the group condition (R31), checked channels (R28), missing contributors (R16), THROTTLE (R118). -/

namespace Sys2Proof.Machine

/-! ### Codes -/

/-- Reason codes (12, section 12.2). -/
def reasonCode : Reason → Nat
  | .curve => 0
  | .channelFault => 1
  | .compensation => 2

/-- Reason of a code; 3 is not assigned. -/
def reasonOf : Nat → Option Reason
  | 0 => some .curve
  | 1 => some .channelFault
  | 2 => some .compensation
  | _ => none

/-- Drive state codes (12, section 12.2; RELEASED 4 in views, Table 12-6). -/
def driveCode : DriveState → Nat
  | .spinUp => 0
  | .tracking => 1
  | .stopped => 2
  | .failsafe => 3
  | .released => 4

/-- Drive state of a frame code; the two bits have no code for RELEASED. -/
def driveOf : Nat → DriveState
  | 0 => .spinUp
  | 1 => .tracking
  | 2 => .stopped
  | _ => .failsafe

/-- Condition codes (12, section 12.2). -/
def conditionCode : Condition → Nat
  | .normal => 0
  | .degraded => 1
  | .failed => 2

/-- Condition of a code; 3 is not assigned. -/
def conditionOfCode : Nat → Option Condition
  | 0 => some .normal
  | 1 => some .degraded
  | 2 => some .failed
  | _ => none

/-- Role codes (12, section 12.2). -/
def roleCode : RoleKind → Nat
  | .primary => 0
  | .standby => 1

/-- Alert kind codes (12, section 12.2). -/
def alertCode : AlertKind → Nat
  | .critical => 0
  | .saturation => 1
  | .saturationClear => 2

/-- Alert kind of a code; above 2 is not assigned. -/
def alertOf : Nat → Option AlertKind
  | 0 => some .critical
  | 1 => some .saturation
  | 2 => some .saturationClear
  | _ => none

/-- Frame kind codes (Table 12-1). -/
def kindCode : FrameKind → Nat
  | .alert => 1
  | .takeover => 2
  | .handback => 3
  | .yield => 4
  | .status => 5
  | .demand => 6

/-- Station state codes (Table 12-6). -/
def stateCode : StationState → Nat
  | .resetHeld => 0
  | .loading => 1
  | .joining => 2
  | .running => 3
  | .faulted => 4

/-- Fault cause codes (Table 12-6). -/
def causeCode : Cause → Nat
  | .badStrap => 1
  | .memoryAbsent => 2
  | .imageCrc => 3
  | .imageFormat => 4
  | .imageContent => 5
  | .duplicateStation => 6

/-- Slot result codes (Table 12-6). -/
def slotCode : SlotResult → Nat
  | .notRead => 0
  | .valid => 7
  | .bad c _ => causeCode c

/-- Health codes (Table 12-6); OPEN 1 and SHORTED 2 are also the values of CHANNEL_FAULT (12, section 12.4). -/
def healthCode : Health → Nat
  | .valid => 0
  | .openCircuit => 1
  | .shorted => 2

/-- Previous measurement codes (Table 12-4). -/
def prevCode : Option Health → Nat
  | none => 0
  | some .valid => 1
  | some .openCircuit => 2
  | some .shorted => 3

/-- Watch codes (Table 12-6). -/
def watchCode : Watch → Nat
  | .below => 0
  | .above => 1

/-- Notice mode codes (Table 12-3). -/
def modeCode : NoticeMode → Nat
  | .quiet => 0
  | .rise => 1
  | .riseFall => 2

/-- Fan health codes (Table 12-6). -/
def fanHealthCode : FanHealth → Nat
  | .unchecked => 0
  | .ok => 1
  | .slow => 2
  | .failed => 3

/-- Role machine codes (Table 12-6). -/
def machineCode : RoleMachine → Nat
  | .listen => 0
  | .own => 1
  | .displaced => 2
  | .reclaim => 3
  | .watch => 4
  | .claiming => 5
  | .act => 6

/-- Forcing mark codes (Table 12-6). -/
def forcingCode : Forcing → Nat
  | .clear => 0
  | .silence => 1
  | .attempts => 2

/-- Claim kind codes (Table 12-6). -/
def claimKindCode : ClaimKind → Nat
  | .own => 0
  | .required => 1
  | .ordinary => 2

/-- Saturation state codes (Table 12-6). -/
def satCode : SatState → Nat
  | .clear => 0
  | .counting => 1
  | .saturated => 2

/-- Line state codes (Table 12-6). -/
def lineCode : LineState → Nat
  | .notIdle => 0
  | .idle => 1
  | .frame => 2
  | .stuck => 3

/-- Slot codes (12, section 12.4). -/
def slotNumber : Slot → Nat
  | .a => 0
  | .b => 1

/-- Notice kinds, 1 to 28 in the order of Table 11-3 (Table 12-5). -/
def noticeCode : NoticeKind → Nat
  | .restarted => 1 | .imageSlotBad => 2 | .joined => 3 | .fault => 4
  | .limitRise => 5 | .limitFall => 6 | .critical => 7 | .channelFault => 8 | .channelRecovered => 9
  | .fanFault => 10 | .fanRecovered => 11
  | .contributorLost => 12 | .contributorBack => 13 | .tableFull => 14
  | .takeover => 15 | .handbackDone => 16 | .displaced => 17 | .driverConflict => 18
  | .saturated => 19 | .saturationCleared => 20 | .peerCritical => 21 | .peerSaturated => 22
  | .peerJoined => 23 | .peerLost => 24 | .isolated => 25 | .rejoined => 26
  | .linkStuck => 27
  | .txOverflow => 28

/-- A mark as a view byte. -/
def flagCode (b : Bool) : Nat := if b then 1 else 0

/-! ### Frames' classes and subjects (Tables 7-2, 8-1) -/

/-- The kind of a frame's content. -/
def payloadKind : Payload → FrameKind
  | .demand _ => .demand
  | .status _ => .status
  | .takeover _ _ => .takeover
  | .handback _ _ => .handback
  | .yield _ _ _ _ => .yield
  | .alert _ _ _ => .alert

/-- The precedence class of a kind (Table 7-2, R135). -/
def kindClass : FrameKind → Nat
  | .alert => 0
  | .takeover => 1
  | .handback => 1
  | .yield => 1
  | .status => 2
  | .demand => 3

/-- The precedence class of a frame (R135). -/
def payloadClass (p : Payload) : Nat := kindClass (payloadKind p)

/-- The group of a frame, or the subject of an ALERT; 0 for a DEMAND (R146, R148). -/
def payloadSubject : Payload → Nat
  | .demand _ => 0
  | .status c => c.group
  | .takeover g _ => g
  | .handback g _ => g
  | .yield g _ _ _ => g
  | .alert _ n _ => n

/-- The source of a queued frame (Table 8-2): whom a transmitted event or a discard is reported to. The ALERTs go to
no block in either case (R147). -/
inductive Source where
  | demandUnit
  | driveUnit (group : Nat)
  | drivershipUnit (group : Nat)
  | temperatureUnit (channel : Nat)
  | saturationMonitor (group : Nat)
  deriving DecidableEq, Repr

/-- The source of a queued frame (Table 8-2), read from its content. -/
def payloadSource : Payload → Source
  | .demand _ => .demandUnit
  | .status c => .driveUnit c.group
  | .takeover g _ => .drivershipUnit g
  | .handback g _ => .drivershipUnit g
  | .yield g _ _ _ => .drivershipUnit g
  | .alert .critical n _ => .temperatureUnit n
  | .alert .saturation n _ => .saturationMonitor n
  | .alert .saturationClear n _ => .saturationMonitor n

/-! ### Conditions -/

/-- The percentage of each PWM period in which a fan output pulls its line low (R25): none when it is released. -/
def pwmLow : Option Nat → Nat
  | none => 0
  | some duty => 100 - duty

/-- The condition of a group from the health of its role's channels; UNCHECKED ones are left out (R31, Table 2-4). -/
def groupCondition (healths : List FanHealth) : Condition :=
  let judged := healths.filter (· != .unchecked)
  if judged != [] && judged.all (· == .failed) then .failed
  else if judged.any (· == .failed) then .degraded
  else .normal

/-- A role's channels are checked in TRACKING or FAILSAFE at or above the check level (R28). -/
def Drive.checks (cfg : RoleCfg) (d : Drive) : Bool :=
  match d.state with
  | .tracking | .failsafe => decide (cfg.checkLevel ≤ d.level)
  | .released | .spinUp | .stopped => false

/-- What a role's outputs do (R33): released in RELEASED, else driven at the commanded level. -/
def Drive.output (d : Drive) : Option Nat :=
  match d.state with
  | .released => none
  | .spinUp | .tracking | .stopped | .failsafe => some d.level

/-- The acting states of a role machine (Table 3-2). -/
def RoleMachine.acting : RoleMachine → Bool
  | .own | .act => true
  | .listen | .displaced | .reclaim | .watch | .claiming => false

/-- Is the set of FAILSAFE causes empty (R42)? -/
def Causes.empty (c : Causes) : Bool := !c.isolated && !c.groupFailed && !c.critical

/-- A role has missing contributors after its join grace while a REQUIRED entry is AWAITED (R16). -/
def ClaimTable.missing (t : ClaimTable) : Bool :=
  t.graceEnded && t.entries.any (fun e => e.kind == .required && e.live.isNone)

/-- THROTTLE's condition (R118): an own demand group is SATURATED, or share-throttle is configured and the board lists
a peer for an own demand group. -/
def throttleCondition (s : State) : Bool :=
  s.demand.entries.any (fun e => e.sat == .saturated)
    || ((s.timing.map (·.shareThrottle)).getD false
        && s.demand.entries.any (fun e => s.peers.board.getD e.cfg.group [] != []))

end Sys2Proof.Machine
end

