-- ==== Sys2Proof/Machine/Frames.lean ====
section
/-! DEFINITION. Zone Link frames on the wire: the CRC (R182), the layouts of Tables 12-1 and 12-2, the reception
checks (R138), and the frame the station sends (R128, R135). -/

namespace Sys2Proof.Machine

/-! ### CRC (R182) -/

/-- One bit of the CRC: generator 1021 (hex), most significant bit first. -/
def crcBit (reg : BitVec 16) (b : Bool) : BitVec 16 :=
  if Bool.xor b reg.msb then (reg <<< 1) ^^^ 0x1021#16 else reg <<< 1

/-- The CRC of a bit sequence: all ones at the first bit, no final inversion. -/
def crcOf (bits : List Bool) : BitVec 16 := bits.foldl crcBit 0xFFFF#16

/-- The bits of a field, most significant first (12, opening). -/
def fieldBits {w : Nat} (v : BitVec w) : List Bool := (List.range w).map v.getMsbD

/-- The bits of a byte sequence. -/
def bytesBits (bytes : List Byte) : List Bool := bytes.flatMap fieldBits

/-- The bits the frame CRC covers: precedence, kind, length and payload fields, in order (R182). -/
def coveredBits (w : WireFrame) : List Bool :=
  fieldBits w.cls ++ fieldBits w.sender ++ fieldBits w.kind ++ fieldBits w.length ++ bytesBits w.payload

/-- The cells of a frame after its start mark (R128): the covered fields, then the CRC. -/
def wireCells (w : WireFrame) : List Bool := coveredBits w ++ fieldBits w.crc

/-! ### Start mark and cells on the line (R122, R125, R126, R128; 07 section 7.4) -/

/-- The level of the line: high only while every station releases it (R122). -/
def lineLevel (released : List Bool) : Bool := released.all id

/-- How long a contender holds the line low in a cell, in ns (R126). -/
def cellLow (bit : Bool) : Nat := if bit then 2000 else 6000

/-- The bit of a good cell by the length of its low in ns (R126); none when the low is a pulse error (R127). -/
def cellBit (low : Nat) : Option Bool :=
  if 1000 ≤ low ∧ low ≤ 3000 then some true else if 5000 ≤ low ∧ low ≤ 7000 then some false else none

/-- How long a contender holds the line low for its start mark, in ns from its own start (R125). -/
def startLow : Nat := 24000

/-- The low of a start mark on the line, in ns (R125): from the earliest contender's start to the latest contender's release,
where the others start with these delays after the earliest. -/
def startMarkLow (delays : List Nat) : Nat := delays.foldr max 0 + startLow

/-- When a contender's own edge is due, in ns (R125): for the first cell after the start mark's falling edge, for a later one
after the line's previous edge. -/
def edgeDue (first : Bool) : Nat := if first then 32000 else 8000

/-- The edge with which a cell starts at a contender, in ns after the edge before it (R125), where the line falls at `fall`
before: a fall within the accepted window and before the own edge is the cell's start, and else the own edge is; one before
the window is a pulse error (R127), and the contender drives no cell. -/
def cellEdge (first : Bool) (fall : Option Nat) : Option Nat :=
  match fall with
  | none => some (edgeDue first)
  | some ns =>
    if edgeDue first ≤ ns then some (edgeDue first) else if inEdgeWindow first ns then some ns else none

/-- The lows that a contender drives for its cells (R125, R126), each with its edge and its length in ns, where the edge before
them is at `t` and the line falls before its own edges at `falls`. -/
def cellLows (first : Bool) (t : Nat) : List Bool → List (Option Nat) → List (Nat × Nat)
  | [], _ => []
  | bit :: cells, falls =>
    match cellEdge first (falls.headD none) with
    | none => []
    | some ns => (t + ns, cellLow bit) :: cellLows false (t + ns) cells falls.tail

/-- The lows that a contender drives for its start mark and its cells, in ns from the start mark's falling edge on the line,
where its own start comes with a delay after that (R125, R126). -/
def drivenLows (delay : Nat) (cells : List Bool) (falls : List (Option Nat)) : List (Nat × Nat) :=
  (delay, startLow) :: cellLows true 0 cells falls

/-- The length of a frame on the wire in µs, start mark included (R128). -/
def frameMicros (payloadBytes : Nat) : Nat := 32 + 8 * (31 + 8 * payloadBytes)

/-- The cell, counted from 1, at which a contender sends 1 and samples the 0 of another (R129); none where the other has
lost at a cell before, and drives no further cell. -/
def lostCell : List Bool → List Bool → Option Nat
  | a :: own, b :: other =>
    if a && !lineLevel [a, b] then some 1
    else if b && !lineLevel [a, b] then none
    else (lostCell own other).map (· + 1)
  | _, _ => none

/-- The seven cells of a precedence field: class, then sender (R128). -/
def precedenceCells (cls : BitVec 2) (sender : BitVec 5) : List Bool := fieldBits cls ++ fieldBits sender

/-! ### Payload bytes (Table 12-2, R183) -/

/-- A number in one byte. -/
def byteOf (n : Nat) : Byte := BitVec.ofNat 8 n

/-- A number in two bytes, most significant first. -/
def bytes2 (n : Nat) : List Byte := [byteOf (n / 256), byteOf n]

/-- A temperature or a signed value in two bytes, two's complement (R183). -/
def bytesInt (i : Int) : List Byte := bytes2 (BitVec.ofInt 16 i).toNat

/-- The two bytes of a DEMAND entry (Table 12-2). -/
def itemBytes (d : DemandItem) : List Byte := [byteOf (reasonCode d.reason * 16 + d.group), byteOf d.level]

/-- The payload bytes of a frame (Table 12-2). -/
def payloadBytes : Payload → List Byte
  | .demand items => byteOf items.length :: items.flatMap itemBytes
  | .status c =>
      byteOf (c.group * 16 + driveCode c.drive * 4 + conditionCode c.condition)
        :: (bytes2 c.epoch.toNat ++ byteOf (roleCode c.role * 128 + c.level) :: c.speeds.flatMap bytes2)
  | .takeover g e => byteOf g :: bytes2 e.toNat
  | .handback g e => byteOf g :: bytes2 e.toNat
  | .yield g e a l => byteOf g :: (bytes2 e.toNat ++ [byteOf a, byteOf l])
  | .alert k n v => byteOf (alertCode k) :: byteOf n :: bytesInt v

/-- The frame a station sends (R128, R135): class of the kind, sender, kind, length, payload, CRC. -/
def wireOf (sender : Nat) (p : Payload) : WireFrame :=
  let bare : WireFrame :=
    { cls := BitVec.ofNat 2 (payloadClass p), sender := BitVec.ofNat 5 sender, kind := BitVec.ofNat 3 (kindCode (payloadKind p)),
      length := BitVec.ofNat 5 (payloadBytes p).length, payload := payloadBytes p, crc := 0 }
  { bare with crc := crcOf (coveredBits bare) }

/-! ### Reading a payload (Table 12-2) -/

/-- DEMAND entries, two bytes each; bits 7 and 6 of the first are not assigned and are ignored (R183). -/
def readItems : List Nat → Option (List DemandItem)
  | [] => some []
  | b :: l :: rest =>
    match reasonOf (b / 16 % 4), readItems rest with
    | some r, some items => some (⟨b % 16, l, r⟩ :: items)
    | _, _ => none
  | [_] => none

/-- Speeds, two bytes each. -/
def readSpeeds : List Nat → Option (List Nat)
  | [] => some []
  | h :: l :: rest => (readSpeeds rest).map (fun vs => (h * 256 + l) :: vs)
  | [_] => none

/-- An epoch of two bytes. -/
def epochOf (h l : Nat) : Epoch := BitVec.ofNat 16 (h * 256 + l)

/-- A two's complement value of two bytes (R183). -/
def intOf (h l : Nat) : Int := (BitVec.ofNat 16 (h * 256 + l)).toInt

/-- The content of a payload of a kind code, by the layout of Table 12-2; none where the kind, the length or a code is
not one the table gives (R138). Ranges are checked by `Payload.wf`. -/
def readPayload (kind : Nat) (bytes : List Nat) : Option Payload :=
  match kind, bytes with
  | 1, [k, n, h, l] => (alertOf k).map (fun kd => .alert kd n (intOf h l))
  | 2, [g, h, l] => some (.takeover g (epochOf h l))
  | 3, [g, h, l] => some (.handback g (epochOf h l))
  | 4, [g, h, l, a, v] => some (.yield g (epochOf h l) a v)
  | 5, b :: h :: l :: v :: rest =>
    match conditionOfCode (b % 4), readSpeeds rest with
    | some c, some speeds =>
      some (.status { group := b / 16, epoch := epochOf h l, role := if v / 128 = 0 then .primary else .standby,
                      drive := driveOf (b / 4 % 4), level := v % 128, condition := c, speeds := speeds })
    | _, _ => none
  | 6, n :: rest =>
    if rest.length = 2 * n then (readItems rest).map Payload.demand else none
  | _, _ => none

/-- The reception checks on a whole frame (R138): the sender and content of a valid frame, none for one to be discarded. -/
def receptionCheck (w : WireFrame) : Option (Nat × Payload) :=
  if w.crc ≠ crcOf (coveredBits w) then none
  else if w.length.toNat ≠ w.payload.length then none
  else if !stationOk w.sender.toNat then none
  else
    match readPayload w.kind.toNat (w.payload.map BitVec.toNat) with
    | none => none
    | some p => if payloadClass p = w.cls.toNat ∧ p.wf = true then some (w.sender.toNat, p) else none

end Sys2Proof.Machine
end

