-- ==== Sys2Proof/Machine/Ops.lean ====
section
/-! DEFINITION. The named operations over State that the meanings share: the clock (R158), notices (R176, R177), the
transmit queue (R142 to R148), roles and their drives (R31, R33 to R45), and the timers that isolation freezes (R69). -/

namespace Sys2Proof.Machine

/-! ### Clock and timers -/

/-- The clock moves on to the instant a timer ends, if that instant is still to come (log entry 2). -/
def State.until (due : Nat) (s : State) : State := { s with now := max s.now due }

/-- One millisecond passes with no event (log entry 1). -/
def State.tick (s : State) : State := { s with now := s.now + 1 }

/-- An expiry event: when the timer is running, the clock stands at its end and `k` acts; a timer that does not run has
no expiry, and nothing happens (log entries 2 and 3). -/
def onExpiry (t : Timer) (k : State → State) (s : State) : State :=
  match t with
  | .running due => k (s.until due)
  | .stopped | .frozen _ => s

/-- The time base: whole seconds since the last start, stopping at 65,535; 0 in RESET_HELD (R158). -/
def State.timeBase (s : State) : Nat :=
  match s.ctl.state with
  | .resetHeld => 0
  | .loading | .joining | .running | .faulted => min 65535 ((s.now - s.ctl.startAt) / 1000)

/-- The station sends frames in JOINING and RUNNING alone (R122, R143). -/
def State.transmits (s : State) : Bool :=
  match s.ctl.state with
  | .joining | .running => true
  | .resetHeld | .loading | .faulted => false

/-- The station states in which the service port takes transactions and the receiver reads the line (R122, R169). -/
def State.started (s : State) : Bool := s.ctl.state != .resetHeld

/-- Takeover time in ms (Table 3-1). -/
def State.takeoverMs (s : State) : Nat := ((s.timing.map (·.takeoverS)).getD 0) * 1000

/-- A timer that isolation freezes, started with a time: it stands frozen with that time while ISOLATED (R57, R58, R61, R69). -/
def State.startFreezable (s : State) (ms : Nat) : Timer :=
  if s.peers.isolated then .frozen ms else .running (s.now + ms)

/-! ### Notices (R176, R177, R181) -/

/-- A posting into the queue: sequence number, time, and the oldest notice pushed out of a queue of 16 (R176, R177, R181). -/
def Notices.push (n : Notices) (time : Nat) (kind : NoticeKind) (subject : Nat) (value : Option Int) : Notices :=
  let record : Notice := ⟨n.next, time, kind, subject, value⟩
  if n.queue.length < 16 then
    { queue := n.queue ++ [record], next := n.next + 1, dropped := n.dropped, alertLine := true }
  else
    { queue := n.queue.drop 1 ++ [record], next := n.next + 1, dropped := min 255 (n.dropped + 1), alertLine := true }

/-- A block posts a notice (R176). -/
def State.post (s : State) (kind : NoticeKind) (subject : Nat) (value : Option Int) : State :=
  { s with notices := s.notices.push s.timeBase kind subject value }

/-! ### Roles -/

/-- The number of the role for a group, if the station has one (R8, R51). -/
def State.roleIndex (s : State) (group : Nat) : Option Nat := s.roles.findIdx? (fun r => r.cfg.group == group)

/-- Change the role of a number. -/
def State.modRole (s : State) (r : Nat) (f : Role → Role) : State := { s with roles := s.roles.modify r f }

/-- Change the role record of a role. -/
def State.modShip (s : State) (r : Nat) (f : Ship → Ship) : State := s.modRole r (fun role => { role with ship := f role.ship })

/-- Change the drive record of a role, its outputs and checks apart. -/
def State.modDrive (s : State) (r : Nat) (f : Drive → Drive) : State := s.modRole r (fun role => { role with drive := f role.drive })

/-- Take an event at every role, in role order. -/
def State.forRoles (s : State) (f : State → Nat → State) : State := (List.range s.roles.length).foldl f s

/-! ### The transmit queue (08, section 8.3) -/

/-- Is one entry before another in the queue's order: class, then queued-at instant (R142)? -/
def QEntry.before (e x : QEntry) : Bool :=
  decide (payloadClass e.payload < payloadClass x.payload)
    || (payloadClass e.payload == payloadClass x.payload && decide (e.stamp < x.stamp))

/-- Put an entry at the place its class and its queued-at instant give (R142, R143). -/
def insertEntry (e : QEntry) : List QEntry → List QEntry
  | [] => [e]
  | x :: xs => if e.before x then e :: x :: xs else x :: insertEntry e xs

/-- Does an offered frame coalesce with this entry (R143)? A DEMAND with a waiting DEMAND; a STATUS with the STATUS of its group. -/
def coalesces (p : Payload) (e : QEntry) : Bool :=
  match p, e.payload with
  | .demand _, .demand _ => !e.onWire
  | .status c, .status d => c.group == d.group
  | _, _ => false

/-- Coalescing (R144): a waiting frame's content is replaced in place; a STATUS on the wire gets a successor, which keeps
the instant of the first one held. -/
def coalesce (p : Payload) (stamp : Nat) (e : QEntry) : QEntry :=
  if coalesces p e then
    if e.onWire then
      match p with
      | .status c => { e with successor := some (c, (e.successor.map (·.2)).getD stamp) }
      | _ => e
    else { e with payload := p }
  else e

/-- Mark the first waiting frame as on the wire (R124, R142: the head). -/
def markHead : List QEntry → List QEntry
  | [] => []
  | e :: es => if e.onWire then e :: markHead es else { e with onWire := true } :: es

/-- Is a frame of the station on the wire? -/
def State.ownOnWire (s : State) : Bool := s.txq.any (·.onWire)

/-- Start the head frame on an IDLE line: it is on the wire, and the line state is FRAME from its falling edge (R123, R124). -/
def State.startHead (s : State) : State :=
  if s.line.state == .idle && s.transmits && s.txq.any (fun e => !e.onWire) then
    { s with txq := markHead s.txq, line := { s.line with state := .frame } }
  else s

/-- The queue is entered by a frame that needs a new entry; on an IDLE line it is started at once (R124, R143). -/
def State.enter (s : State) (p : Payload) : State :=
  ({ s with txq := insertEntry ⟨p, s.stamp, 0, false, none⟩ s.txq, stamp := s.stamp + 1 }).startHead

/-- Of two candidates for eviction, the one R146 prefers: the higher class, then the later queued-at instant. -/
def worse (a b : QEntry) : QEntry := if a.before b then b else a

/-- The entry an overflowing frame evicts (R146): among the waiting entries of a class higher in number than the frame's,
the latest of the highest class. -/
def victim (p : Payload) (q : List QEntry) : Option QEntry :=
  match q.filter (fun e => !e.onWire && decide (payloadClass p < payloadClass e.payload)) with
  | [] => none
  | e :: es => some (es.foldl worse e)

/-- TX_OVERFLOW for a discarded frame (R146): kind as subject; group or subject as value, absent for a DEMAND. -/
def State.postOverflow (s : State) (p : Payload) : State :=
  s.post .txOverflow (kindCode (payloadKind p))
    (match p with
     | .demand _ => none
     | .status _ | .takeover _ _ | .handback _ _ | .yield _ _ _ _ | .alert _ _ _ => some (payloadSubject p))

/-- What the Drivership Unit does with the discard of one of its frames (R68, Table 3-6). -/
def Ship.discarded (kind : FrameKind) (silence wait : Timer) (sh : Ship) : Ship :=
  match kind, sh.machine with
  | .takeover, .claiming => { sh with machine := .watch, silence := silence }
  | .takeover, .reclaim => { sh with wait := wait }
  | .handback, .reclaim => if sh.forcing = .clear then { sh with wait := wait } else sh
  | _, _ => sh

/-- The discard of a frame is reported to its source (R147). The Demand Unit changes nothing at a discard (R102); a STATUS
and an ALERT are reported to no block. -/
def State.reportDiscard (s : State) (p : Payload) : State :=
  match payloadSource p with
  | .drivershipUnit g =>
    match s.roleIndex g with
    | some r => s.modShip r (Ship.discarded (payloadKind p) (s.startFreezable s.takeoverMs) (s.startFreezable 1000))
    | none => s
  | .demandUnit | .driveUnit _ | .temperatureUnit _ | .saturationMonitor _ => s

/-- A frame is discarded for want of room: TX_OVERFLOW, then the report (R146, R147). -/
def State.discard (s : State) (p : Payload) : State := (s.postOverflow p).reportDiscard p

/-- A block offers a frame (R143, R144, R146). -/
def State.offer (s : State) (p : Payload) : State :=
  if !s.transmits then s
  else if s.txq.any (coalesces p) then
    { s with txq := s.txq.map (coalesce p s.stamp), stamp := s.stamp + 1 }
  else if s.txq.length < 8 then s.enter p
  else
    match victim p s.txq with
    | some v => (({ s with txq := s.txq.erase v }).enter p).discard v.payload
    | none => s.discard p

/-- Is this entry a frame of a kind for a group? -/
def QEntry.isFor (e : QEntry) (kind : FrameKind) (group : Nat) : Bool :=
  payloadKind e.payload == kind && payloadSubject e.payload == group

/-- Does a frame of a kind for a group wait in the queue, not on the wire? -/
def State.waits (s : State) (kind : FrameKind) (group : Nat) : Bool := s.txq.any (fun e => !e.onWire && e.isFor kind group)

/-- Is a frame of a kind for a group on the wire? -/
def State.onWireFor (s : State) (kind : FrameKind) (group : Nat) : Bool := s.txq.any (fun e => e.onWire && e.isFor kind group)

/-- The Drivership Unit withdraws a frame (R145): a waiting one is removed; one on the wire is refused. -/
def State.withdraw (s : State) (kind : FrameKind) (group : Nat) : State :=
  { s with txq := s.txq.filter (fun e => e.onWire || !e.isFor kind group) }

/-- The Drivership Unit rebuilds its waiting TAKEOVER with a new epoch (R145). -/
def State.rebuildTakeover (s : State) (group : Nat) (epoch : Epoch) : State :=
  { s with txq := s.txq.map (fun e => if !e.onWire && e.isFor .takeover group then { e with payload := .takeover group epoch } else e) }

/-- The epoch of the waiting TAKEOVER for a group, if one waits. -/
def State.waitingTakeover (s : State) (group : Nat) : Option Epoch :=
  s.txq.findSome? (fun e =>
    match e.payload with
    | .takeover g ep => if g = group ∧ e.onWire = false then some ep else none
    | _ => none)

/-- Does an ALERT of a kind for a subject wait in the queue, not on the wire (R86, R113)? -/
def State.alertWaits (s : State) (kind : AlertKind) (subject : Nat) : Bool :=
  s.txq.any (fun e => !e.onWire &&
    match e.payload with
    | .alert k n _ => k == kind && n == subject
    | _ => false)

/-! ### The drive of a role (02) -/

/-- The ramp timer towards a target: up, down or stopped (R37). -/
def Ramp.toward (now : Nat) (cfg : RoleCfg) (level target : Nat) : Ramp :=
  if level < target then .up (now + cfg.upMs)
  else if target < level then .down (now + cfg.downMs)
  else .stopped

/-- The ramp timer after a change of target in TRACKING (R38): a running interval on the right side runs on. -/
def Ramp.retarget (now : Nat) (cfg : RoleCfg) (level target : Nat) (r : Ramp) : Ramp :=
  match r with
  | .up _ => if level < target then r else Ramp.toward now cfg level target
  | .down _ => if target < level then r else Ramp.toward now cfg level target
  | .stopped => Ramp.toward now cfg level target

/-- Entry into TRACKING at a level: ramp, stop delay if the target is 0, STATUS (R34, R37, R39, R41, R44). -/
def Drive.enterTracking (now : Nat) (cfg : RoleCfg) (level : Nat) (d : Drive) : Drive :=
  { d with
    state := .tracking, level := level, ramp := Ramp.toward now cfg level d.target, spinUp := .stopped,
    stopDelay := if d.target = 0 then .running (now + cfg.stopDelayMs) else .stopped, statusDue := true }

/-- Entry into FAILSAFE at 100 (R43, R34). -/
def Drive.enterFailsafe (d : Drive) : Drive :=
  { d with state := .failsafe, level := 100, ramp := .stopped, spinUp := .stopped, stopDelay := .stopped, statusDue := true }

/-- Entry into SPIN_UP (R41): the spin-up level is the larger of the start-up level and the target. -/
def Drive.enterSpinUp (now : Nat) (cfg : RoleCfg) (d : Drive) : Drive :=
  { d with
    state := .spinUp, spinUpLevel := max cfg.startUp d.target, level := max cfg.startUp d.target, ramp := .stopped,
    spinUp := .running (now + cfg.spinUpMs), stopDelay := .stopped, statusDue := true }

/-- Entry into STOPPED at level 0 (R39). -/
def Drive.enterStopped (d : Drive) : Drive :=
  { d with state := .stopped, level := 0, ramp := .stopped, stopDelay := .stopped, statusDue := true }

/-- The start of acting at a starting level (R34). -/
def Drive.startActing (now : Nat) (cfg : RoleCfg) (level : Nat) (d : Drive) : Drive :=
  if d.causes.empty then d.enterTracking now cfg level else d.enterFailsafe

/-- The end of acting (R35): RELEASED at 100, timers stopped, GROUP_FAILED gone with the condition; target and the other causes kept. -/
def Drive.stopActing (d : Drive) : Drive :=
  { d with
    state := .released, level := 100, ramp := .stopped, spinUp := .stopped, stopDelay := .stopped, statusTimer := .stopped,
    condition := .normal, causes := { d.causes with groupFailed := false }, statusDue := false }

/-- A set of causes after an addition or a removal acts on the drive (R42 to R44): the first cause takes TRACKING, STOPPED
and SPIN_UP to FAILSAFE; the last cause gone takes FAILSAFE to TRACKING at 100. -/
def Drive.setCauses (now : Nat) (cfg : RoleCfg) (causes : Causes) (d : Drive) : Drive :=
  let d' := { d with causes := causes }
  if causes = d.causes then d
  else
    match d.state with
    | .tracking | .stopped | .spinUp => if causes.empty then d' else d'.enterFailsafe
    | .failsafe => if causes.empty then d'.enterTracking now cfg 100 else d'
    | .released => d'

/-- A new target in every drive state (R36, R38, R39, R40). -/
def Drive.takeTarget (now : Nat) (cfg : RoleCfg) (target : Nat) (d : Drive) : Drive :=
  let d' := { d with target := target }
  match d.state with
  | .released | .spinUp | .failsafe => d'
  | .tracking =>
    { d' with
      ramp := d.ramp.retarget now cfg d.level target,
      stopDelay := if target = 0 then (if d.stopDelay = .stopped then .running (now + cfg.stopDelayMs) else d.stopDelay) else .stopped }
  | .stopped => if 0 < target then d'.enterSpinUp now cfg else d'

/-- A step of the ramp to a level, and the timer again in the direction the difference calls for (R37). -/
def Drive.rampStep (now : Nat) (cfg : RoleCfg) (level : Nat) (d : Drive) : Drive :=
  { d with level := level, ramp := Ramp.toward now cfg level d.target }

/-- A new group condition (R31): GROUP_FAILED follows it, and STATUS is queued. -/
def Drive.takeCondition (now : Nat) (cfg : RoleCfg) (c : Condition) (d : Drive) : Drive :=
  ({ d with condition := c, statusDue := true }).setCauses now cfg { d.causes with groupFailed := c == Condition.failed }

/-- A fan channel follows its role's drive: output (R33), and UNCHECKED without a run when it is not checked (R28). -/
def FanChannel.follow (cfg : RoleCfg) (d : Drive) (f : FanChannel) : FanChannel :=
  if d.checks cfg then { f with output := d.output }
  else { f with output := d.output, health := .unchecked, run := none }

/-- The channels of a role follow its drive. -/
def State.followDrive (s : State) (r : Nat) : State :=
  match s.roles[r]? with
  | none => s
  | some role => { s with fans := s.fans.map (fun f => if f.role = some r then f.follow role.cfg role.drive else f) }

/-- The healths of a role's channels. -/
def State.healths (s : State) (r : Nat) : List FanHealth := (s.fans.filter (fun f => f.role == some r)).map (·.health)

/-- The group condition is computed anew; a change acts at the same event (R31). -/
def State.judgeGroup (s : State) (r : Nat) : State :=
  match s.roles[r]? with
  | none => s
  | some role =>
    let c := groupCondition (s.healths r)
    if c = role.drive.condition then s
    else (s.modDrive r (Drive.takeCondition s.now role.cfg c)).followDrive r

/-- An event at a role's drive: the record changes, its channels follow, and the condition is computed anew (R28, R31, R33). -/
def State.driveEvent (s : State) (r : Nat) (f : RoleCfg → Drive → Drive) : State :=
  match s.roles[r]? with
  | none => s
  | some role => ((s.modDrive r (f role.cfg)).followDrive r).judgeGroup r

/-- The start of acting (R34). -/
def State.startActing (s : State) (r level : Nat) : State := s.driveEvent r (fun cfg => Drive.startActing s.now cfg level)

/-- The end of acting (R35). -/
def State.stopActing (s : State) (r : Nat) : State := s.driveEvent r (fun _ => Drive.stopActing)

/-- A FAILSAFE cause is added to or removed from the set of every role, acting or not (R42, R43, R44). -/
def State.setCausesAll (s : State) (f : Causes → Causes) : State :=
  s.forRoles (fun s r => s.driveEvent r (fun cfg d => d.setCauses s.now cfg (f d.causes)))

/-- A role queues STATUS: at the end of the event, once, with the content of that event (R45; log entry 7). -/
def State.queueStatus (s : State) (r : Nat) : State := s.modDrive r (fun d => { d with statusDue := true })

/-! ### STATUS (R45, R46) -/

/-- The latest speeds of a role's channels, in its list's order (R46). -/
def State.speedsOf (s : State) (cfg : RoleCfg) : List Nat := cfg.channels.map (fun c => (s.fans[c]?.map (·.speed)).getD 0)

/-- The content of a STATUS of a role (R46, Table 2-9). -/
def State.statusContent (s : State) (role : Role) : StatusContent where
  group     := role.cfg.group
  epoch     := role.ship.epoch.getD 0
  role      := role.cfg.kind
  drive     := role.drive.state
  level     := role.drive.level
  condition := role.drive.condition
  speeds    := s.speedsOf role.cfg

/-- A role with a STATUS due queues it if it is acting, and its status timer restarts with 1 s (R45). -/
def State.flushRole (s : State) (r : Nat) : State :=
  match s.roles[r]? with
  | none => s
  | some role =>
    if role.drive.statusDue then
      if role.drive.state = .released then s.modDrive r (fun d => { d with statusDue := false })
      else
        (s.modDrive r (fun d => { d with statusDue := false, statusTimer := .running (s.now + 1000) })).offer
          (.status (s.statusContent role))
    else s

/-- The end of an event: each role's STATUS that is due is queued, in role order (R45; log entries 6 and 7). -/
def State.finish (s : State) : State := s.forRoles State.flushRole

/-! ### Group views and THROTTLE -/

/-- The station's own acting role for a group (R95, R111). -/
def State.actingRole (s : State) (group : Nat) : Option Role :=
  s.roles.find? (fun r => r.cfg.group == group && r.ship.machine.acting)

/-- The group view of a group, if present. -/
def State.view (s : State) (group : Nat) : Option GroupView := s.peers.views.getD group none

/-- THROTTLE is evaluated: asserted if its condition holds, released if not (R118). -/
def State.evaluateThrottle (s : State) : State := { s with throttle := throttleCondition s }

end Sys2Proof.Machine
end

