-- ==== Sys2Proof/Machine/Claims.lean ====
section
/-! DEFINITION. The Claim Unit (01): claim tables, targets, and the meanings of CLAIM_EXPIRY, JOIN_GRACE_END and
PEAK_EXPIRY. -/

namespace Sys2Proof.Machine

/-! ### Targets (R20, R21) -/

/-- The largest of the LIVE levels, the unrecorded peak and, with missing contributors, the lost-contributor level (R20). -/
def Role.claimValue (role : Role) : Nat :=
  (role.claims.entries.filterMap (fun e => e.live.map (·.level))).foldl max
    (max role.claims.peak (if role.claims.missing then role.cfg.lostLevel else 0))

/-- The target of a role (R20, Table 1-3). -/
def Role.computedTarget (role : Role) : Nat :=
  if role.cfg.stopPermitted ∧ role.claimValue = 0 then 0 else max role.claimValue role.cfg.floor

/-- The target is computed anew and, when it differs from the one last handed on, handed to the Drive Unit (R21). -/
def State.handTarget (s : State) (r : Nat) : State :=
  match s.roles[r]? with
  | none => s
  | some role =>
    if role.computedTarget = role.drive.target then s
    else s.driveEvent r (fun cfg => Drive.takeTarget s.now cfg role.computedTarget)

/-- The targets of all roles are computed anew after an event taken whole (R8, R21). -/
def State.handTargets (s : State) : State := s.forRoles State.handTarget

/-! ### Entries -/

/-- Change the claim table of a role. -/
def State.modClaims (s : State) (r : Nat) (f : ClaimTable → ClaimTable) : State :=
  s.modRole r (fun role => { role with claims := f role.claims })

/-- The entry of a station. -/
def ClaimTable.find (t : ClaimTable) (station : Nat) : Option ClaimEntry := t.entries.find? (fun e => e.station == station)

/-- Change the entry of a station in place (R3). -/
def ClaimTable.update (t : ClaimTable) (station : Nat) (f : ClaimEntry → ClaimEntry) : ClaimTable :=
  { t with entries := t.entries.map (fun e => if e.station = station then f e else e) }

/-- Remove the entry of a station; the entries behind it move up (R3). -/
def ClaimTable.remove (t : ClaimTable) (station : Nat) : ClaimTable :=
  { t with entries := t.entries.filter (fun e => e.station != station) }

/-- Append a new ORDINARY entry (R11, R17). -/
def ClaimTable.append (t : ClaimTable) (now station : Nat) (item : DemandItem) : ClaimTable :=
  { t with entries := t.entries ++ [⟨station, .ordinary, some ⟨item.level, item.reason, now⟩, false⟩] }

/-- The entries of all tables (R4). -/
def State.pool (s : State) : Nat := (s.roles.map (fun r => r.claims.entries.length)).sum

/-- The tables a role starts with (R5): the OWN entry if the role's group is a demand group, then the required contributors. -/
def placeholders (own : Nat) (isDemandGroup : Bool) (required : List Nat) : List ClaimEntry :=
  (if isDemandGroup then [⟨own, .own, some ⟨0, .curve, 0⟩, false⟩] else [])
    ++ required.map (fun n => ⟨n, .required, none, false⟩)

/-- The claim of a station ends by expiry or by withdrawal (R10, R12, R15): an ORDINARY entry is removed; a LIVE REQUIRED
entry becomes AWAITED, and after the join grace posts CONTRIBUTOR_LOST and is marked. -/
def State.endClaim (s : State) (r station : Nat) : State :=
  match s.roles[r]? with
  | none => s
  | some role =>
    match role.claims.find station with
    | none => s
    | some e =>
      match e.kind, e.live with
      | .ordinary, _ => s.modClaims r (fun t => t.remove station)
      | .required, some _ =>
        if role.claims.graceEnded then
          (s.modClaims r (fun t => t.update station (fun e => { e with live := none, lossReported := true }))).post
            .contributorLost role.cfg.group (some station)
        else s.modClaims r (fun t => t.update station (fun e => { e with live := none }))
      | .required, none => s
      | .own, _ => s

/-- A listed entry refreshes a station's entry in place (R9); a REQUIRED entry whose loss was reported posts
CONTRIBUTOR_BACK (R15). -/
def State.refreshClaim (s : State) (r station : Nat) (item : DemandItem) (e : ClaimEntry) : State :=
  let fresh : LiveClaim := ⟨item.level, item.reason, s.now⟩
  match e.kind with
  | .own => s
  | .ordinary => s.modClaims r (fun t => t.update station (fun e => { e with live := some fresh }))
  | .required =>
    let s' := s.modClaims r (fun t => t.update station (fun e => { e with live := some fresh, lossReported := false }))
    if e.lossReported then s'.post .contributorBack item.group (some station) else s'

/-- Of two eviction candidates, the lower; the one nearer the front of equals (R17). -/
def lowerClaim (a b : ClaimEntry) : ClaimEntry :=
  if (b.live.map (·.level)).getD 0 < (a.live.map (·.level)).getD 0 then b else a

/-- The entry a claim at a level evicts from an exhausted table (R17). -/
def ClaimTable.evicted (t : ClaimTable) (level : Nat) : Option ClaimEntry :=
  match t.entries.filter (fun e => e.kind == .ordinary && decide ((e.live.map (·.level)).getD 0 < level)) with
  | [] => none
  | e :: es => some (es.foldl lowerClaim e)

/-- A claim folds into the unrecorded peak (R18); a claim at 0 changes nothing. -/
def State.foldPeak (s : State) (r : Nat) (role : Role) (level : Nat) : State :=
  if level = 0 then s
  else
    let s' := s.modClaims r (fun t => { t with peak := max t.peak level, peakTimer := .running (s.now + role.cfg.claimMs) })
    if role.claims.peak = 0 then s'.post .tableFull role.cfg.group (some level) else s'

/-- A new ORDINARY claim (R11, R17, R18). -/
def State.newClaim (s : State) (r station : Nat) (role : Role) (item : DemandItem) : State :=
  if s.pool < 48 ∧ role.claims.entries.length < 16 then s.modClaims r (fun t => t.append s.now station item)
  else
    match role.claims.evicted item.level with
    | some e => s.modClaims r (fun t => (t.remove e.station).append s.now station item)
    | none => s.foldPeak r role item.level

/-- One listed entry of a DEMAND (R8): refresh, new claim, or passed over where the station holds no role (R7). -/
def State.takeItem (station : Nat) (s : State) (item : DemandItem) : State :=
  match s.roleIndex item.group with
  | none => s
  | some r =>
    match s.roles[r]? with
    | none => s
    | some role =>
      match role.claims.find station with
      | some e => s.refreshClaim r station item e
      | none => s.newClaim r station role item

/-- The sender is withdrawn from the table of a role whose group the frame does not list (R8, R10). -/
def State.withdrawUnlisted (station : Nat) (items : List DemandItem) (s : State) (r : Nat) : State :=
  match s.roles[r]? with
  | none => s
  | some role => if items.any (fun i => i.group == role.cfg.group) then s else s.endClaim r station

/-- A DEMAND is taken whole (R8): withdrawals, then its entries in order, then the targets. -/
def State.takeDemand (s : State) (station : Nat) (items : List DemandItem) : State :=
  (items.foldl (State.takeItem station) (s.forRoles (State.withdrawUnlisted station items))).handTargets

/-- The OWN entry of a role takes the level and reason of its group's demand entry (R6). -/
def Role.takeOwn (entries : List DemandEntry) (role : Role) : Role :=
  match entries.find? (fun d => d.cfg.group == role.cfg.group) with
  | none => role
  | some d =>
    { role with
      claims := { role.claims with
        entries := role.claims.entries.map (fun (e : ClaimEntry) =>
          if e.kind = .own then { e with live := some ⟨d.level, d.reason, 0⟩ } else e) } }

/-- The OWN entries take the demand record's levels and reasons, and the targets follow (R6, R21). -/
def State.updateOwnClaims (s : State) : State :=
  ({ s with roles := s.roles.map (Role.takeOwn s.demand.entries) }).handTargets

/-! ### Meanings -/

/-- CLAIM_EXPIRY (R12): the age of a LIVE entry of kind ORDINARY or REQUIRED reaches the claim lifetime. -/
def execClaimExpiry (r station : Nat) (s : State) : Host.Outcome State Fault Refusal :=
  .next <|
    match s.roles[r]? with
    | none => s
    | some role =>
      match role.claims.find station with
      | none => s
      | some e =>
        match e.kind, e.live with
        | .own, _ => s
        | _, none => s
        | _, some l => ((((s.until (l.since + role.cfg.claimMs)).endClaim r station).handTarget r).finish)

/-- The AWAITED REQUIRED entries of a role at the end of its join grace post CONTRIBUTOR_LOST, in table order (R14). -/
def State.reportAwaited (s : State) (r : Nat) (role : Role) : State :=
  let awaited := role.claims.entries.filter (fun e => e.kind == .required && e.live.isNone)
  awaited.foldl (fun s e => s.post .contributorLost role.cfg.group (some e.station))
    (s.modClaims r (fun t =>
      { t with
        grace := .stopped, graceEnded := true,
        entries := t.entries.map (fun e => if e.kind = .required ∧ e.live.isNone then { e with lossReported := true } else e) }))

/-- JOIN_GRACE_END (R14). -/
def execJoinGraceEnd (r : Nat) (s : State) : Host.Outcome State Fault Refusal :=
  .next <|
    match s.roles[r]? with
    | none => s
    | some role => onExpiry role.claims.grace (fun s => ((s.reportAwaited r role).handTarget r).finish) s

/-- PEAK_EXPIRY (R19). -/
def execPeakExpiry (r : Nat) (s : State) : Host.Outcome State Fault Refusal :=
  .next <|
    match s.roles[r]? with
    | none => s
    | some role =>
      onExpiry role.claims.peakTimer
        (fun s => ((s.modClaims r (fun t => { t with peak := 0, peakTimer := .stopped })).handTarget r).finish) s

end Sys2Proof.Machine
end

