-- ==== Sys2Proof/Machine/Drive.lean ====
section
/-! DEFINITION. The Drive Unit (02): fan measurements, and the meanings of TACH_MEASUREMENT, RAMP_TIMER_EXPIRY,
STOP_DELAY_EXPIRY, SPIN_UP_EXPIRY and STATUS_TIMER_EXPIRY. -/

namespace Sys2Proof.Machine

/-! ### Fan health (R29) -/

/-- The present run after a measurement: extended by one of the same kind, begun anew otherwise (R29). -/
def nextRun (now : Nat) (below : Bool) : Option Run → Run
  | some run => if run.below = below then run else ⟨below, now⟩
  | none => ⟨below, now⟩

/-- The health of a checked channel after a measurement (Table 2-3); a run reaches 3 s. -/
def nextFanHealth (now : Nat) (below : Bool) (run : Run) : FanHealth → FanHealth
  | .unchecked => if below then .slow else .ok
  | .ok => if below then .slow else .ok
  | .slow => if run.since + 3000 ≤ now then (if below then .failed else .ok) else .slow
  | .failed => if below then .failed else if run.since + 3000 ≤ now then .ok else .failed

/-- Is a fan channel checked (R28)? -/
def State.checked (s : State) (f : FanChannel) : Bool :=
  match f.role with
  | none => false
  | some r =>
    match s.roles[r]? with
    | none => false
    | some role => role.drive.checks role.cfg

/-- A measurement of a checked channel: run, health, and the fault-reported mark (R29, R30). -/
def FanChannel.measured (now speed : Nat) (f : FanChannel) : FanChannel :=
  let below := decide (speed < f.cfg.minSpeed)
  let run := nextRun now below f.run
  let health := nextFanHealth now below run f.health
  { f with
    speed := speed, health := health, run := some run,
    faultReported :=
      match health with
      | .failed => true
      | .ok => false
      | .unchecked | .slow => f.faultReported }

/-- FAN_FAULT or FAN_RECOVERED of a measurement (R30): a channel that becomes FAILED with its mark clear, or OK with it set. -/
def State.postFan (s : State) (c : Nat) (before after : FanChannel) : State :=
  if after.health = .failed ∧ before.faultReported = false then s.post .fanFault c (some after.speed)
  else if after.health = .ok ∧ before.faultReported = true then s.post .fanRecovered c (some after.speed)
  else s

/-- The measurement of one fan channel (R27, R29 to R31): the next window opens, the speed is taken, and a checked channel is judged. -/
def State.measureFan (s : State) (c : Nat) (f : FanChannel) (edges : List Nat) : State :=
  let speed := tachSpeed f.cfg.pulses edges
  let opened := { f with window := .running (s.now + 500) }
  if s.checked f then
    let after := opened.measured s.now speed
    let s' := ({ s with fans := s.fans.set c after }).postFan c f after
    match f.role with
    | some r => s'.judgeGroup r
    | none => s'
  else { s with fans := s.fans.set c { opened with speed := speed } }

/-! ### Meanings -/

/-- TACH_MEASUREMENT (R27). -/
def execTachMeasurement (c : Nat) (edges : List Nat) (s : State) : Host.Outcome State Fault Refusal :=
  .next <|
    match s.fans[c]? with
    | none => s
    | some f => onExpiry f.window (fun s => (s.measureFan c f edges).finish) s

/-- RAMP_TIMER_EXPIRY (R37). -/
def execRampTimerExpiry (r : Nat) (s : State) : Host.Outcome State Fault Refusal :=
  .next <|
    match s.roles[r]? with
    | none => s
    | some role =>
      match role.drive.ramp with
      | .stopped => s
      | .up due =>
        ((s.until due).driveEvent r (fun cfg =>
          Drive.rampStep (max s.now due) cfg (min role.drive.target (role.drive.level + cfg.rampStep)))).finish
      | .down due =>
        ((s.until due).driveEvent r (fun cfg =>
          Drive.rampStep (max s.now due) cfg (max role.drive.target (role.drive.level - cfg.rampStep)))).finish

/-- STOP_DELAY_EXPIRY (R39). -/
def execStopDelayExpiry (r : Nat) (s : State) : Host.Outcome State Fault Refusal :=
  .next <|
    match s.roles[r]? with
    | none => s
    | some role => onExpiry role.drive.stopDelay (fun s => (s.driveEvent r (fun _ => Drive.enterStopped)).finish) s

/-- SPIN_UP_EXPIRY (R41). -/
def execSpinUpExpiry (r : Nat) (s : State) : Host.Outcome State Fault Refusal :=
  .next <|
    match s.roles[r]? with
    | none => s
    | some role =>
      onExpiry role.drive.spinUp
        (fun s => (s.driveEvent r (fun cfg => Drive.enterTracking s.now cfg role.drive.spinUpLevel)).finish) s

/-- STATUS_TIMER_EXPIRY (R45). -/
def execStatusTimerExpiry (r : Nat) (s : State) : Host.Outcome State Fault Refusal :=
  .next <|
    match s.roles[r]? with
    | none => s
    | some role => onExpiry role.drive.statusTimer (fun s => (s.queueStatus r).finish) s

end Sys2Proof.Machine
end

