-- ==== Sys2Proof/Machine/Temperature.lean ====
section
/-! DEFINITION. The Temperature Unit (04): health, readings, limit watch, critical detection, and the meaning of
CRITICAL_ALERT_REPEAT_EXPIRY. -/

namespace Sys2Proof.Machine

/-! ### One channel at a round -/

/-- The health after a round (R77): it changes when two consecutive measurements agree on a new kind. -/
def TempChannel.nextHealth (kind : Health) (c : TempChannel) : Health :=
  if kind ≠ c.health ∧ c.prev = some kind then kind else c.health

/-- The reading taken at a round, none at a round that is not a reading round (R78). -/
def TempChannel.readingTaken (m : Measurement) (c : TempChannel) : Option Int :=
  match m with
  | .value raw => if c.nextHealth .valid = .valid then some (measuredValue c.cfg.offset raw) else none
  | .openCircuit | .shorted => none

/-- The watch state after a reading round (R81); other rounds leave it (R80). -/
def TempChannel.nextWatch (reading : Option Int) (c : TempChannel) : Watch :=
  match reading, c.watch with
  | none, w => w
  | some v, .below => if c.cfg.high ≤ v then .above else .below
  | some v, .above => if v < c.cfg.rel then .below else .above

/-- The critical count after a round: that of a channel that is not CRITICAL follows the readings (R84); a CRITICAL channel,
whose count is no longer used, keeps it but for a fault, after which it is 0 (R80; log entry 11). -/
def TempChannel.nextCount (health : Health) (reading : Option Int) (c : TempChannel) : Nat :=
  if c.critical then (if health = .valid then c.critCount else 0)
  else
    match reading with
    | some v => if c.cfg.crit ≤ v then c.critCount + 1 else 0
    | none => 0

/-- The record of a used channel after a round (R77 to R84). -/
def TempChannel.round (m : Measurement) (c : TempChannel) : TempChannel :=
  let reading := c.readingTaken m
  let watch := c.nextWatch reading
  let health := c.nextHealth (measuredKind m)
  let count := c.nextCount health reading
  { c with
    health := health, prev := some (measuredKind m), reading := reading.or c.reading, watch := watch,
    latch := c.latch || (c.watch == .below && watch == .above), critCount := count,
    critical := c.critical || decide (2 ≤ count) }

/-! ### Notices and the entry into CRITICAL -/

/-- CHANNEL_FAULT or CHANNEL_RECOVERED of a round (R80). -/
def State.postHealth (s : State) (i : Nat) (before after : TempChannel) : State :=
  if before.health = .valid ∧ after.health ≠ .valid then s.post .channelFault i (some (healthCode after.health))
  else if before.health ≠ .valid ∧ after.health = .valid then s.post .channelRecovered i after.reading
  else s

/-- LIMIT_RISE or LIMIT_FALL of a round, by the notice mode (R83, Table 4-5). -/
def State.postWatch (s : State) (i : Nat) (before after : TempChannel) : State :=
  match before.watch, after.watch with
  | .below, .above =>
    match before.cfg.mode with
    | .quiet => s
    | .rise => if before.latch then s else s.post .limitRise i after.reading
    | .riseFall => s.post .limitRise i after.reading
  | .above, .below =>
    match before.cfg.mode with
    | .quiet | .rise => s
    | .riseFall => s.post .limitFall i after.reading
  | .below, .below => s
  | .above, .above => s

/-- Change the record of a channel. -/
def State.modTemp (s : State) (i : Nat) (f : TempChannel → TempChannel) : State := { s with temps := s.temps.modify i f }

/-- The entry of a channel into CRITICAL (R85). -/
def State.enterCritical (s : State) (i : Nat) (reading : Option Int) : State :=
  let s' := ({ s.post .critical i reading with shutdown := true }).setCausesAll (fun c => { c with critical := true })
  if s'.transmits then
    (s'.modTemp i (fun c => { c with repeatTimer := .running (s'.now + 5000) })).offer (.alert .critical i (reading.getD 0))
  else s'

/-- One used channel is taken at a round completion (R79). -/
def State.takeChannel (measurements : List Measurement) (s : State) (i : Nat) : State :=
  match s.temps[i]? with
  | none => s
  | some c =>
    if c.used then
      let after := c.round (measurements.getD i .openCircuit)
      let s' := ((s.modTemp i (fun _ => after)).postHealth i c after).postWatch i c after
      if after.critical ∧ c.critical = false then s'.enterCritical i after.reading else s'
    else s

/-- The used channels are taken in order at a round completion (R79). -/
def State.takeRound (s : State) (measurements : List Measurement) : State :=
  (List.range s.temps.length).foldl (State.takeChannel measurements) s

/-! ### Meanings -/

/-- CRITICAL_ALERT_REPEAT_EXPIRY (R86). -/
def execCriticalAlertRepeatExpiry (i : Nat) (s : State) : Host.Outcome State Fault Refusal :=
  .next <|
    match s.temps[i]? with
    | none => s
    | some c =>
      onExpiry c.repeatTimer
        (fun s =>
          let s' := s.modTemp i (fun c => { c with repeatTimer := .running (s.now + 5000) })
          (if s'.alertWaits .critical i then s' else s'.offer (.alert .critical i (c.reading.getD 0))).finish) s

end Sys2Proof.Machine
end

