-- ==== Sys2Proof/Machine/Demand.lean ====
section
/-! DEFINITION. The Demand Unit (05; 06 section 6.3): demand levels, posting, saturation monitors, and the meanings of
ROUND_COMPLETE, REFRESH_TIMER_EXPIRY and SATURATION_ALERT_REPEAT_EXPIRY. -/

namespace Sys2Proof.Machine

/-! ### From readings to a level (R92 to R96) -/

/-- A level on the line from (t, l) to (t', l'), rounded up (R92). -/
def segmentLevel (t : Int) (l : Nat) (t' : Int) (l' : Nat) (r : Int) : Nat :=
  let den := (t' - t).toNat
  l + ((r - t).toNat * (l' - l) + den - 1) / den

/-- The curve level of a reading (R92). -/
def Curve.level (c : Curve) (r : Int) : Nat :=
  if r < c.t1 then c.l0
  else if c.t4 ≤ r then c.l4
  else if r < c.t2 then segmentLevel c.t1 c.l1 c.t2 c.l2 r
  else if r < c.t3 then segmentLevel c.t2 c.l2 c.t3 c.l3 r
  else segmentLevel c.t3 c.l3 c.t4 c.l4 r

/-- The curve level a listed channel gives, if it is VALID and has a reading (R93). -/
def curveOf (temps : List TempChannel) (c : Curve) : Option Nat :=
  match temps[c.channel]? with
  | none => none
  | some t => if t.health = .valid then t.reading.map c.level else none

/-- The curve part of a demand group (R93). -/
def curvePart (temps : List TempChannel) (cfg : DemandCfg) : Nat := (cfg.curves.filterMap (curveOf temps)).foldl max 0

/-- Is a channel OPEN or SHORTED (R94)? -/
def channelFaulted (temps : List TempChannel) (i : Nat) : Bool :=
  match temps[i]? with
  | none => false
  | some t => t.health != .valid

/-- The fault part of a demand group (R94). -/
def faultPart (temps : List TempChannel) (cfg : DemandCfg) : Nat :=
  if cfg.curves.any (fun c => channelFaulted temps c.channel) then cfg.faultLevel else 0

/-- The counted condition of a group: the own acting role's, else a FRESH view's (R95). -/
def State.countedCondition (s : State) (group : Nat) : Option Condition :=
  match s.actingRole group with
  | some role => some role.drive.condition
  | none =>
    match s.view group with
    | some v => if v.stale then none else some v.condition
    | none => none

/-- Is a neighbour group degraded (R95)? -/
def State.degraded (s : State) (group : Nat) : Bool :=
  match s.countedCondition group with
  | some .degraded | some .failed => true
  | some .normal | none => false

/-- Does the boost apply to a demand group (R95)? -/
def State.boostApplies (s : State) (cfg : DemandCfg) : Bool := decide (0 < cfg.boost) && cfg.neighbours.any s.degraded

/-- The level from curve part, fault part and boost (R94, R96). -/
def demandLevel (cfg : DemandCfg) (curve fault : Nat) (boosted : Bool) : Nat :=
  min 100 (max curve fault + if boosted then cfg.boost else 0)

/-- The reason (R96). -/
def demandReason (curve fault : Nat) (boosted : Bool) : Reason :=
  if boosted then .compensation else if curve < fault then .channelFault else .curve

/-- One entry is computed at a round (R97). -/
def State.computeEntry (s : State) (d : DemandEntry) : DemandEntry :=
  let curve := curvePart s.temps d.cfg
  let fault := faultPart s.temps d.cfg
  let boosted := s.boostApplies d.cfg
  { d with
    curvePart := curve, faultPart := fault, boosted := boosted, level := demandLevel d.cfg curve fault boosted,
    reason := demandReason curve fault boosted }

/-! ### Posting (R98 to R103) -/

/-- The DEMAND that carries the whole record (R99). -/
def State.demandFrame (s : State) : Payload :=
  .demand (s.demand.entries.map (fun d => ⟨d.cfg.group, d.level, d.reason⟩))

/-- Does an entry call for a DEMAND against its last posted values (R98)? -/
def DemandEntry.calls (threshold : Nat) (d : DemandEntry) : Bool :=
  match d.last with
  | none => true
  | some (level, reason) =>
    decide (level + threshold ≤ d.level) || decide (d.level + threshold ≤ level)
      || (d.level == 0 && level != 0) || (d.level == 100 && level != 100) || d.reason != reason

/-- Does a condition of R98 hold? -/
def State.callsForDemand (s : State) : Bool :=
  !s.demand.sent || s.demand.entries.any (DemandEntry.calls ((s.timing.map (·.threshold)).getD 0))

/-- Does a DEMAND wait in the queue? -/
def State.demandWaits (s : State) : Bool := s.waits .demand 0

/-- Does the station's DEMAND occupy the link? -/
def State.demandOnWire (s : State) : Bool := s.onWireFor .demand 0

/-- What a computation does about the DEMAND (R98, R99, Table 5-7). -/
def State.postAtComputation (s : State) : State :=
  if s.demandWaits then s.offer s.demandFrame
  else if s.demandOnWire then s
  else if s.callsForDemand then s.offer s.demandFrame
  else s

/-- The refresh interval in ms (Table 5-3). -/
def State.refreshMs (s : State) : Nat := ((s.timing.map (·.refreshTenths)).getD 0) * 100

/-- The refresh timer restarts (R100, R101). -/
def State.restartRefresh (s : State) : State :=
  { s with demand := { s.demand with refresh := .running (s.now + s.refreshMs) } }

/-- The last posted values of an entry after a DEMAND has been transmitted (R100). -/
def DemandEntry.posted (items : List DemandItem) (d : DemandEntry) : DemandEntry :=
  match items.find? (fun i => i.group == d.cfg.group) with
  | some i => { d with last := some (i.level, i.reason) }
  | none => d

/-- A DEMAND of the station has been transmitted (R100). -/
def State.demandTransmitted (s : State) (items : List DemandItem) : State :=
  let s' := ({ s with demand := { s.demand with entries := s.demand.entries.map (DemandEntry.posted items), sent := true } }).restartRefresh
  if s'.callsForDemand then s'.offer s'.demandFrame else s'

/-! ### Saturation monitors (R110 to R114) -/

/-- Change the demand record entry of a number. -/
def State.modEntry (s : State) (i : Nat) (f : DemandEntry → DemandEntry) : State :=
  { s with demand := { s.demand with entries := s.demand.entries.modify i f } }

/-- The reported level of a group that counts as fresh (R111). -/
def State.reportedLevel (s : State) (group : Nat) : Option Nat :=
  match s.actingRole group with
  | some role => some role.drive.level
  | none =>
    match s.view group with
    | some v => if v.stale then none else some v.level
    | none => none

/-- Results of a monitor at a computation (R111). -/
inductive MonitorResult where
  | true
  | false
  | frozen
  deriving DecidableEq, Repr

/-- The result of a monitor (R111). -/
def monitorResult (curve : Nat) (reported : Option Nat) : MonitorResult :=
  match reported with
  | some level => if curve = 100 ∧ level = 100 then .true else .false
  | none => if curve = 100 then .frozen else .false

/-- The saturation time in quarter seconds (Table 6-1, R111). -/
def State.saturationQuarters (s : State) : Nat := ((s.timing.map (·.saturationS)).getD 0) * 4

/-- The release margin (Table 6-1). -/
def State.releaseMargin (s : State) : Nat := (s.timing.map (·.margin)).getD 0

/-- The entry of a monitor into SATURATED (R112). -/
def State.enterSaturated (s : State) (i : Nat) (d : DemandEntry) : State :=
  let s' := ((s.modEntry i (fun d => { d with sat := .saturated, satCount := s.saturationQuarters })).post
    .saturated d.cfg.group (some d.level)).evaluateThrottle
  if s'.transmits then
    (s'.modEntry i (fun d => { d with satRepeat := .running (s'.now + 5000) })).offer (.alert .saturation d.cfg.group 0)
  else s'

/-- The exit of a monitor from SATURATED (R114). -/
def State.leaveSaturated (s : State) (i : Nat) (d : DemandEntry) : State :=
  let s' := ((s.modEntry i (fun d => { d with sat := .clear, satCount := 0, satRepeat := .stopped })).post
    .saturationCleared d.cfg.group (some d.curvePart)).evaluateThrottle
  if s'.transmits then s'.offer (.alert .saturationClear d.cfg.group 0) else s'

/-- One monitor is taken at a computation (R111, Table 6-3, R114). -/
def State.takeMonitor (s : State) (i : Nat) : State :=
  match s.demand.entries[i]? with
  | none => s
  | some d =>
    match d.sat, monitorResult d.curvePart (s.reportedLevel d.cfg.group) with
    | .saturated, _ => if d.curvePart + s.releaseMargin ≤ 100 then s.leaveSaturated i d else s
    | .clear, .true => s.modEntry i (fun d => { d with sat := .counting, satCount := 1 })
    | .counting, .true =>
      if s.saturationQuarters ≤ d.satCount + 1 then s.enterSaturated i d
      else s.modEntry i (fun d => { d with satCount := d.satCount + 1 })
    | .clear, .frozen => s.modEntry i (fun d => { d with satCount := 0 })
    | .counting, .frozen => s
    | .clear, .false => s.modEntry i (fun d => { d with satCount := 0 })
    | .counting, .false => s.modEntry i (fun d => { d with sat := .clear, satCount := 0 })

/-- The monitors are taken in record order (R111, R112). -/
def State.takeMonitors (s : State) : State := (List.range s.demand.entries.length).foldl State.takeMonitor s

/-! ### The computation (R97) -/

/-- A round completion is handed to the Demand Unit (R97): record, OWN entries, DEMAND, monitors. An empty record acts at
the first completion alone (R97, R103; log entry 12). -/
def State.computeDemand (s : State) : State :=
  if s.demand.entries = [] ∧ s.demand.computed = true then s
  else
    let s' : State := { s with demand := { s.demand with entries := s.demand.entries.map s.computeEntry, computed := true } }
    (s'.updateOwnClaims).postAtComputation.takeMonitors

/-! ### Meanings -/

/-- ROUND_COMPLETE (R75, R79, R87, R97): the next round begins, the channels are taken, and in JOINING and RUNNING the
completion is handed to the Demand Unit. -/
def execRoundComplete (measurements : List Measurement) (s : State) : Host.Outcome State Fault Refusal :=
  .next <|
    onExpiry s.roundTimer
      (fun s =>
        let s' := ({ s with roundTimer := .running (s.now + 250) }).takeRound measurements
        (if s'.transmits then s'.computeDemand else s').finish) s

/-- REFRESH_TIMER_EXPIRY (R101). -/
def execRefreshTimerExpiry (s : State) : Host.Outcome State Fault Refusal :=
  .next <|
    onExpiry s.demand.refresh
      (fun s =>
        let s' := s.restartRefresh
        (if s'.demandOnWire then s' else s'.offer s'.demandFrame).finish) s

/-- SATURATION_ALERT_REPEAT_EXPIRY (R113). -/
def execSaturationAlertRepeatExpiry (group : Nat) (s : State) : Host.Outcome State Fault Refusal :=
  .next <|
    match s.demand.entries.findIdx? (fun d => d.cfg.group == group) with
    | none => s
    | some i =>
      match s.demand.entries[i]? with
      | none => s
      | some d =>
        onExpiry d.satRepeat
          (fun s =>
            let s' := s.modEntry i (fun d => { d with satRepeat := .running (s.now + 5000) })
            (if s'.alertWaits .saturation group then s' else s'.offer (.alert .saturation group 0)).finish) s

end Sys2Proof.Machine
end

