-- ==== Sys2Proof/Machine/Drivership.lean ====
section
/-! DEFINITION. The Drivership Unit (03): the role machines, takeover, handback, the conflict rule, isolation, and the
meanings of SILENCE_TIMER_EXPIRY, OTHER_SILENCE_EXPIRY, DISPLACED_HOLD_EXPIRY and HANDBACK_WAIT_EXPIRY. -/

namespace Sys2Proof.Machine

/-! ### Frames of a role -/

/-- A role queues a TAKEOVER with the epoch of R52. Its state is set before, so that a refused frame finds it (R68). -/
def State.queueTakeover (s : State) (r : Nat) : State :=
  match s.roles[r]? with
  | none => s
  | some role => s.offer (.takeover role.cfg.group (nextEpoch role.ship.known))

/-- A primary queues a HANDBACK with the acting other's epoch, and its attempt count rises (R58); none while ISOLATED. -/
def State.queueHandback (s : State) (r : Nat) : State :=
  match s.roles[r]? with
  | none => s
  | some role =>
    if s.peers.isolated then s
    else
      (s.modShip r (fun sh => { sh with attempts := sh.attempts + 1 })).offer
        (.handback role.cfg.group ((role.ship.other.map (·.2)).getD 0))

/-- A primary forces a takeover (R60): RECLAIM with the mark, the displaced hold and the handback wait stopped, TAKEOVER queued. -/
def State.forceTakeover (s : State) (r : Nat) (mark : Forcing) : State :=
  (s.modShip r (fun sh => { sh with machine := .reclaim, forcing := mark, hold := .stopped, wait := .stopped })).queueTakeover r

/-- A standby queues its TAKEOVER and enters CLAIMING (R62). -/
def State.claimGroup (s : State) (r : Nat) : State :=
  (s.modShip r (fun sh => { sh with machine := .claiming, silence := .stopped, pendingExpiry := false })).queueTakeover r

/-- A standby enters WATCH with its silence timer started anew (R61). -/
def State.enterWatch (s : State) (r : Nat) : State :=
  s.modShip r (fun sh => { sh with machine := .watch, silence := s.startFreezable s.takeoverMs })

/-- A role takes an epoch (R52). -/
def Ship.takeEpoch (e : Epoch) (sh : Ship) : Ship := { sh with epoch := some e, known := some e }

/-! ### The conflict rule (R66, R67) -/

/-- The opposite role (R66). -/
def oppositeRole : RoleKind → RoleKind
  | .primary => .standby
  | .standby => .primary

/-- Does the role win against a frame (R66)? The newer epoch, then PRIMARY over STANDBY, then the lower station number. -/
def conflictWins (own : Epoch) (kind : RoleKind) (station : Nat) (e : Epoch) (other : RoleKind) (sender : Nat) : Bool :=
  if newer e own then false
  else if newer own e then true
  else if kind ≠ other then kind == .primary
  else decide (station < sender)

/-- Is DRIVER_CONFLICT posted (R67): step 2 or 3 decided, or the roles are the same? -/
def conflictReported (own : Epoch) (kind : RoleKind) (e : Epoch) (other : RoleKind) : Bool :=
  (!newer e own && !newer own e) || kind == other

/-- A role that lost stops acting (R67): a primary enters DISPLACED (R56), a standby WATCH with a waiting YIELD withdrawn. -/
def State.loseConflict (s : State) (r : Nat) (role : Role) (sender : Nat) (e : Epoch) : State :=
  match role.cfg.kind with
  | .primary =>
    ((s.modShip r (fun sh =>
        { sh with
          machine := .displaced, other := some (sender, e), hold := .running (s.now + 5000),
          otherSilence := s.startFreezable s.takeoverMs })).stopActing r).post .displaced role.cfg.group (some sender)
  | .standby => ((s.enterWatch r).withdraw .yield role.cfg.group).stopActing r

/-- An acting role takes a STATUS or TAKEOVER from another station (R66, R67). -/
def State.takeConflict (s : State) (r : Nat) (role : Role) (sender : Nat) (e : Epoch) (other : RoleKind) : State :=
  let own := role.ship.epoch.getD 0
  let s' := if conflictReported own role.cfg.kind e other then s.post .driverConflict role.cfg.group (some sender) else s
  if conflictWins own role.cfg.kind (s.ctl.station.getD 0) e other sender then s'.queueStatus r
  else s'.loseConflict r role sender e

/-! ### Frames taken (R51) -/

/-- The group and the epoch of a drivership frame (R51). -/
def frameEpoch : Payload → Option (Nat × Epoch)
  | .status c => some (c.group, c.epoch)
  | .takeover g e => some (g, e)
  | .handback g e => some (g, e)
  | .yield g e _ _ => some (g, e)
  | .demand _ => none
  | .alert _ _ _ => none

/-- Is a sender the partner, or any station when the partner is none (R53, R61, R63, R64)? -/
def RoleCfg.hearsPartner (cfg : RoleCfg) (sender : Nat) : Bool :=
  match cfg.partner with
  | none => true
  | some n => n == sender

/-- The role the other station of a STATUS or TAKEOVER holds (R66). -/
def RoleCfg.otherRole (cfg : RoleCfg) (sender : Nat) : Payload → RoleKind
  | .status c => c.role
  | _ => if cfg.partner = some sender then oppositeRole cfg.kind else cfg.kind

/-- A STATUS or TAKEOVER heard in LISTEN that shows an acting standby (R53). -/
def RoleCfg.showsStandby (cfg : RoleCfg) (sender : Nat) : Payload → Bool
  | .status c => c.role == .standby
  | .takeover _ _ => cfg.hearsPartner sender
  | _ => false

/-- The acting other after a STATUS or TAKEOVER, if the frame restarts the other-silence timer (R56). -/
def otherAfter (sender : Nat) (e : Epoch) : Option (Nat × Epoch) → Option (Nat × Epoch)
  | none => some (sender, e)
  | some (n, old) =>
    if n = sender then some (n, if newer e old then e else old)
    else if newer e old then some (sender, e)
    else none

/-- A primary in DISPLACED or RECLAIM takes a STATUS or TAKEOVER (R56); it ends a forced takeover for silence (R60; log entry 16). -/
def State.hearOther (s : State) (r : Nat) (role : Role) (sender : Nat) (e : Epoch) : State :=
  match otherAfter sender e role.ship.other with
  | none => s
  | some other =>
    let s' := s.modShip r (fun sh => { sh with other := some other, otherSilence := s.startFreezable s.takeoverMs })
    if role.ship.machine = .reclaim ∧ role.ship.forcing = .silence then
      ((s'.withdraw .takeover role.cfg.group).modShip r
        (fun sh => { sh with wait := .stopped, forcing := .clear, attempts := 0 })).queueHandback r
    else s'

/-- A primary in RECLAIM accepts a YIELD (R59). -/
def State.acceptYield (s : State) (r : Nat) (role : Role) (e : Epoch) (level : Nat) : State :=
  let s' := (s.withdraw .handback role.cfg.group).withdraw .takeover role.cfg.group
  ((s'.modShip r (fun sh =>
      { sh.takeEpoch e with
        machine := .own, wait := .stopped, otherSilence := .stopped, attempts := 0, forcing := .clear,
        other := none })).startActing r level).post .handbackDone role.cfg.group (some e.toNat)

/-- A standby in ACT answers a HANDBACK that names its epoch (R64). -/
def State.answerHandback (s : State) (role : Role) (sender : Nat) (seen : Epoch) : State :=
  let g := role.cfg.group
  if role.cfg.hearsPartner sender ∧ role.ship.epoch = some seen ∧ s.waits .yield g = false ∧ s.onWireFor .yield g = false then
    s.offer (.yield g (seen + 1) sender role.drive.level)
  else s

/-- The rules of the role's present state act on a frame (R51, first step). -/
def State.roleFrame (s : State) (r : Nat) (role : Role) (sender : Nat) (e : Epoch) (p : Payload) : State :=
  match role.ship.machine, payloadKind p with
  | .listen, .status | .listen, .takeover =>
    if role.cfg.showsStandby sender p then
      s.modShip r (fun sh => { sh with joinMark := true, other := some (sender, e), otherSilence := s.startFreezable s.takeoverMs })
    else s
  | .own, .status | .own, .takeover | .act, .status | .act, .takeover =>
    s.takeConflict r role sender e (role.cfg.otherRole sender p)
  | .displaced, .status | .displaced, .takeover | .reclaim, .status | .reclaim, .takeover => s.hearOther r role sender e
  | .reclaim, .yield =>
    match p with
    | .yield _ _ addressed level =>
      if s.ctl.station = some addressed ∧ newerThanKnown e role.ship.known then s.acceptYield r role e level else s
    | _ => s
  | .watch, .status | .watch, .takeover | .watch, .handback =>
    if role.cfg.hearsPartner sender then
      s.modShip r (fun sh => { sh with silence := s.startFreezable s.takeoverMs, pendingExpiry := false })
    else s
  | .claiming, .status | .claiming, .takeover | .claiming, .handback =>
    if role.cfg.hearsPartner sender then (s.enterWatch r).withdraw .takeover role.cfg.group else s
  | .act, .handback => s.answerHandback role sender e
  | _, _ => s

/-- A waiting TAKEOVER whose epoch has ceased to be newer than the highest-known epoch: a standby withdraws it (R63), a
primary rebuilds it (R60). -/
def State.checkTakeover (s : State) (r : Nat) : State :=
  match s.roles[r]? with
  | none => s
  | some role =>
    match s.waitingTakeover role.cfg.group, role.ship.known with
    | some e, some k =>
      match role.ship.machine with
      | .claiming => if newer e k then s else (s.enterWatch r).withdraw .takeover role.cfg.group
      | .reclaim => if k = e ∨ newer k e = true then s.rebuildTakeover role.cfg.group (nextEpoch (some k)) else s
      | .listen | .own | .displaced | .watch | .act => s
    | _, _ => s

/-- The Drivership Unit takes a frame in two steps (R51): the rules of the state, then the highest-known epoch. -/
def State.driveshipTakes (s : State) (sender : Nat) (p : Payload) : State :=
  match frameEpoch p with
  | none => s
  | some (g, e) =>
    match s.roleIndex g with
    | none => s
    | some r =>
      match s.roles[r]? with
      | none => s
      | some role =>
        ((s.roleFrame r role sender e p).modShip r (fun sh => { sh with known := noteEpoch e sh.known })).checkTakeover r

/-! ### Frames transmitted (R58, R60, R63, R65) -/

/-- A TAKEOVER has been transmitted (R60, R63): the role acts under the epoch the frame carried. -/
def State.takeoverTransmitted (s : State) (g : Nat) (e : Epoch) : State :=
  match s.roleIndex g with
  | none => s
  | some r =>
    match s.roles[r]? with
    | none => s
    | some role =>
      match role.ship.machine with
      | .claiming =>
        ((s.modShip r (fun sh => { sh.takeEpoch e with machine := .act, silence := .stopped })).startActing r 100).post
          .takeover g (some e.toNat)
      | .reclaim =>
        ((s.modShip r (fun sh =>
            { sh.takeEpoch e with
              machine := .own, forcing := .clear, attempts := 0, otherSilence := .stopped, wait := .stopped,
              other := none })).startActing r 100).post .takeover g (some e.toNat)
      | .listen | .own | .displaced | .watch | .act => s

/-- A HANDBACK has been transmitted (R58): the handback wait starts if the forcing mark is clear. -/
def State.handbackTransmitted (s : State) (g : Nat) : State :=
  match s.roleIndex g with
  | none => s
  | some r =>
    s.modShip r (fun sh =>
      if sh.machine = .reclaim ∧ sh.forcing = .clear then { sh with wait := s.startFreezable 1000 } else sh)

/-- A YIELD has been transmitted (R65): the standby leaves ACT. -/
def State.yieldTransmitted (s : State) (g : Nat) (e : Epoch) : State :=
  match s.roleIndex g with
  | none => s
  | some r =>
    match s.roles[r]? with
    | none => s
    | some role =>
      match role.ship.machine with
      | .act =>
        (((s.modShip r (fun sh => { sh with known := noteEpoch e sh.known })).enterWatch r).stopActing r).post
          .handbackDone g (some e.toNat)
      | .listen | .own | .displaced | .reclaim | .watch | .claiming => s

/-! ### Running, isolation -/

/-- A role at the station's entry into RUNNING (R54, R62). -/
def State.roleRuns (s : State) (r : Nat) : State :=
  match s.roles[r]? with
  | none => s
  | some role =>
    match role.ship.machine with
    | .listen =>
      if role.ship.joinMark then
        (s.modShip r (fun sh => { sh with machine := .reclaim, attempts := 0 })).queueHandback r
      else
        (s.modShip r (fun sh =>
          { sh.takeEpoch (nextEpoch sh.known) with machine := .own, otherSilence := .stopped })).startActing r 100
    | .watch => if role.ship.pendingExpiry then s.claimGroup r else s
    | .own | .displaced | .reclaim | .claiming | .act => s

/-- A role at the start of isolation (R69). -/
def State.roleIsolated (s : State) (r : Nat) : State :=
  match s.roles[r]? with
  | none => s
  | some role =>
    let g := role.cfg.group
    let s' := s.modShip r (fun sh =>
      { sh with silence := sh.silence.freeze s.now, otherSilence := sh.otherSilence.freeze s.now, wait := sh.wait.freeze s.now })
    if role.ship.machine = .claiming ∧ s.onWireFor .takeover g = false then (s'.enterWatch r).withdraw .takeover g
    else if role.ship.machine = .reclaim ∧ role.ship.forcing ≠ .clear ∧ s.onWireFor .takeover g = false then
      (s'.withdraw .takeover g).modShip r (fun sh => { sh with forcing := .clear, attempts := 0 })
    else s'

/-- A role at the end of isolation (R69). -/
def State.roleRejoined (s : State) (r : Nat) : State :=
  match s.roles[r]? with
  | none => s
  | some role =>
    let wait := role.ship.wait.unfreeze s.now
    let s' := s.modShip r (fun sh =>
      { sh with silence := sh.silence.unfreeze s.now, otherSilence := sh.otherSilence.unfreeze s.now, wait := wait })
    if role.ship.machine = .reclaim ∧ s.waits .handback role.cfg.group = false ∧ wait = .stopped ∧ role.ship.forcing = .clear then
      s'.queueHandback r
    else s'

/-! ### Meanings -/

/-- SILENCE_TIMER_EXPIRY (R62). -/
def execSilenceTimerExpiry (r : Nat) (s : State) : Host.Outcome State Fault Refusal :=
  .next <|
    match s.roles[r]? with
    | none => s
    | some role =>
      onExpiry role.ship.silence
        (fun s =>
          match s.ctl.state with
          | .running => (s.claimGroup r).finish
          | .joining => s.modShip r (fun sh => { sh with silence := .stopped, pendingExpiry := true })
          | .resetHeld | .loading | .faulted => s) s

/-- OTHER_SILENCE_EXPIRY (R53, R57). That the waiting HANDBACK is withdrawn before the forced TAKEOVER is offered, and so leaves
it its room in a full queue, is the model's choice (DESIGN CHOICE, log entry 40). -/
def execOtherSilenceExpiry (r : Nat) (s : State) : Host.Outcome State Fault Refusal :=
  .next <|
    match s.roles[r]? with
    | none => s
    | some role =>
      onExpiry role.ship.otherSilence
        (fun s =>
          let s' := s.modShip r (fun sh => { sh with otherSilence := .stopped })
          match role.ship.machine with
          | .listen => s'.modShip r (fun sh => { sh with joinMark := false, other := none })
          | .displaced => ((s'.withdraw .handback role.cfg.group).forceTakeover r .silence).finish
          | .reclaim =>
            if role.ship.forcing = .clear then ((s'.withdraw .handback role.cfg.group).forceTakeover r .silence).finish else s'
          | .own | .watch | .claiming | .act => s') s

/-- DISPLACED_HOLD_EXPIRY (R56, R58). -/
def execDisplacedHoldExpiry (r : Nat) (s : State) : Host.Outcome State Fault Refusal :=
  .next <|
    match s.roles[r]? with
    | none => s
    | some role =>
      onExpiry role.ship.hold
        (fun s =>
          ((s.modShip r (fun sh => { sh with machine := .reclaim, attempts := 0, hold := .stopped })).queueHandback r).finish) s

/-- HANDBACK_WAIT_EXPIRY (R58, R60). -/
def execHandbackWaitExpiry (r : Nat) (s : State) : Host.Outcome State Fault Refusal :=
  .next <|
    match s.roles[r]? with
    | none => s
    | some role =>
      onExpiry role.ship.wait
        (fun s =>
          let s' := s.modShip r (fun sh => { sh with wait := .stopped })
          (if role.ship.forcing ≠ .clear then s'.queueTakeover r
           else if role.ship.attempts < 3 then s'.queueHandback r
           else s'.forceTakeover r .attempts).finish) s

end Sys2Proof.Machine
end

