-- ==== Sys2Proof/Machine/Peers.lean ====
section
/-! DEFINITION. The Peer Unit (09; 06 sections 6.2, 6.4, 6.6): roster, isolation, group views, saturation board,
critical-peer list, and the meanings of VIEW_STALE, BOARD_RENEWAL_EXPIRY, ROSTER_SILENT, ROSTER_LOSS and
LINK_SILENCE_EXPIRY. -/

namespace Sys2Proof.Machine

/-! ### Roster (R149 to R151) -/

/-- A roster whose entry for a station is renewed by a frame (R150). -/
def rosterRenewed (roster : List RosterEntry) (station base now : Nat) : List RosterEntry :=
  roster.map (fun e => if e.station = station then { e with lastHeard := base, heardAt := now, silent := false } else e)

/-- A roster with a new entry at its end (R150). -/
def rosterAppended (roster : List RosterEntry) (station base now : Nat) : List RosterEntry :=
  roster ++ [⟨station, base, base, now, false⟩]

/-- The roster takes a valid frame (R150): the sender's entry is renewed, or a new one appended with PEER_JOINED. -/
def State.rosterTakes (s : State) (sender : Nat) (kind : FrameKind) : State :=
  if s.peers.roster.any (fun e => e.station == sender) then
    { s with peers := { s.peers with
        lastSender := sender, roster := rosterRenewed s.peers.roster sender s.timeBase s.now } }
  else
    ({ s with peers := { s.peers with
        lastSender := sender, roster := rosterAppended s.peers.roster sender s.timeBase s.now } }).post
      .peerJoined sender (some (kindCode kind))

/-! ### Isolation (R152 to R155) -/

/-- Isolation time in ms (Table 9-1). -/
def State.isolationMs (s : State) : Nat := ((s.timing.map (·.isolationS)).getD 0) * 1000

/-- Is the station solitary (Table 9-1)? -/
def State.solitary (s : State) : Bool := (s.timing.map (·.solitary)).getD false

/-- The link silence timer restarts (R152). -/
def State.restartLink (s : State) : State := { s with peers := { s.peers with linkTimer := .running (s.now + s.isolationMs) } }

/-- The start of isolation (R153): notice, FAILSAFE cause, frozen role timers. -/
def State.isolate (s : State) : State :=
  ((({ s with peers := { s.peers with isolated := true, isolatedAt := s.now, linkTimer := .stopped } }).post
      .isolated 0 (some s.peers.lastSender)).setCausesAll (fun c => { c with isolated := true })).forRoles State.roleIsolated

/-- The end of isolation by a frame of a sender (R154). The value of REJOINED is the number of whole seconds, however many
(DESIGN CHOICE, log entry 38). -/
def State.rejoin (s : State) (sender : Nat) : State :=
  ((({ s with peers := { s.peers with isolated := false } }).restartLink.post
      .rejoined sender (some (((s.now - s.peers.isolatedAt) / 1000 : Nat)))).setCausesAll
        (fun c => { c with isolated := false })).forRoles State.roleRejoined

/-- A valid frame reaches the link silence timer in JOINING and RUNNING (R152, R154, R155). -/
def State.linkTakes (s : State) (sender : Nat) : State :=
  if s.transmits then (if s.peers.isolated then s.rejoin sender else s.restartLink) else s

/-! ### Group views (R106 to R108) -/

/-- Does a view take a STATUS of this epoch (R107)? -/
def viewTakes (e : Epoch) : Option GroupView → Bool
  | none => true
  | some v => v.stale || !newer v.epoch e

/-- A STATUS is taken into its group's view (R107). -/
def State.takeView (s : State) (sender : Nat) (c : StatusContent) : State :=
  if viewTakes c.epoch (s.view c.group) then
    { s with
      peers := { s.peers with
        views := s.peers.views.set c.group
          (some ⟨sender, c.epoch, c.role, c.drive, c.level, c.condition, c.speeds, s.now, false⟩) } }
  else s

/-! ### Saturation board (R116, R117) -/

/-- Change the board set of a group; THROTTLE is then evaluated (R118). -/
def State.modBoard (s : State) (group : Nat) (f : List Member → List Member) : State :=
  ({ s with peers := { s.peers with board := s.peers.board.modify group f } }).evaluateThrottle

/-- An ALERT SATURATION (R116): the sender is renewed, or added with PEER_SATURATED. -/
def State.takeSaturation (s : State) (sender group : Nat) : State :=
  let due := s.now + 15000
  if (s.peers.board.getD group []).any (fun m => m.station == sender) then
    s.modBoard group (fun ms => ms.map (fun m => if m.station = sender then { m with due := due } else m))
  else (s.modBoard group (fun ms => ms ++ [⟨sender, due⟩])).post .peerSaturated group (some sender)

/-- A member leaves the set of a group (R117). -/
def State.dropMember (s : State) (sender group : Nat) : State := s.modBoard group (fun ms => ms.filter (fun m => m.station != sender))

/-- A station leaves every set (R117, R151). -/
def State.dropStation (s : State) (station : Nat) : State :=
  ({ s with peers := { s.peers with
      board := s.peers.board.map (fun (ms : List Member) => ms.filter (fun m => m.station != station)) } }).evaluateThrottle

/-! ### Critical-peer list (R120) -/

/-- The enclosure list; empty without an image (R120). -/
def State.enclosure (s : State) : List Nat := (s.timing.map (·.enclosure)).getD []

/-- The critical-peer list after an ALERT CRITICAL (R120). A station faulted with BAD_STRAP is none of the numbers 1 to 30, so
it can hear 30 critical peers; R120 gives each new one an entry and names at most 29: the model makes the 30th (DESIGN CHOICE,
log entry 37). -/
def critAfter (list : List CritPeer) (sender channel : Nat) (reading : Int) (listed : Bool) : List CritPeer :=
  if list.any (fun e => e.station == sender) then
    list.map (fun e => if e.station = sender then { e with channel := channel, reading := reading } else e)
  else list ++ [⟨sender, channel, reading, listed⟩]

/-- An ALERT CRITICAL (R120): entry, notice of a new one, and SHUTDOWN for a station of the enclosure list. -/
def State.takeCritical (s : State) (sender channel : Nat) (reading : Int) : State :=
  let listed := s.enclosure.contains sender
  let s' : State :=
    { s with
      peers := { s.peers with critPeers := critAfter s.peers.critPeers sender channel reading listed }
      shutdown := s.shutdown || listed }
  if s.peers.critPeers.any (fun e => e.station == sender) then s' else s'.post .peerCritical sender (some reading)

/-! ### The Peer Unit at one frame (R140, R150) -/

/-- What the Peer Unit takes from a frame's content: views and board in JOINING and RUNNING, the critical-peer list also
in FAULTED (R106, R116, R120). -/
def State.peerContent (s : State) (sender : Nat) (p : Payload) : State :=
  match p with
  | .status c => if s.transmits then s.takeView sender c else s
  | .alert .critical channel reading => s.takeCritical sender channel reading
  | .alert .saturation group _ => if s.transmits then s.takeSaturation sender group else s
  | .alert .saturationClear group _ => if s.transmits then s.dropMember sender group else s
  | .demand _ | .takeover _ _ | .handback _ _ | .yield _ _ _ _ => s

/-- The Peer Unit takes a valid frame: roster, link silence, content (R140, R150, R152). R150 puts PEER_JOINED first; that
REJOINED comes before the PEER_CRITICAL or PEER_SATURATED of the same ALERT is the model's order (DESIGN CHOICE, log entry 39). -/
def State.peerTakes (s : State) (sender : Nat) (p : Payload) : State :=
  ((s.rosterTakes sender (payloadKind p)).linkTakes sender).peerContent sender p

/-! ### Meanings -/

/-- VIEW_STALE (R108). -/
def execViewStale (group : Nat) (s : State) : Host.Outcome State Fault Refusal :=
  .next <|
    match s.view group with
    | none => s
    | some v =>
      if v.stale then s
      else
        let s' := s.until (v.takenAt + 3000)
        { s' with peers := { s'.peers with views := s'.peers.views.set group (some { v with stale := true }) } }

/-- BOARD_RENEWAL_EXPIRY (R117). -/
def execBoardRenewalExpiry (group station : Nat) (s : State) : Host.Outcome State Fault Refusal :=
  .next <|
    match (s.peers.board.getD group []).find? (fun m => m.station == station) with
    | none => s
    | some m => (s.until m.due).dropMember station group

/-- ROSTER_SILENT (R151). -/
def execRosterSilent (station : Nat) (s : State) : Host.Outcome State Fault Refusal :=
  .next <|
    match s.peers.roster.find? (fun e => e.station == station) with
    | none => s
    | some e =>
      if e.silent then s
      else
        let s' := s.until (e.heardAt + 5000)
        { s' with
          peers := { s'.peers with
            roster := s'.peers.roster.map (fun e => if e.station = station then { e with silent := true } else e) } }

/-- ROSTER_LOSS (R151). -/
def execRosterLoss (station : Nat) (s : State) : Host.Outcome State Fault Refusal :=
  .next <|
    match s.peers.roster.find? (fun e => e.station == station) with
    | none => s
    | some e =>
      let s' := s.until (e.heardAt + 30000)
      (({ s' with peers := { s'.peers with roster := s'.peers.roster.filter (fun e => e.station != station) } }).post
        .peerLost station (some e.lastHeard)).dropStation station

/-- LINK_SILENCE_EXPIRY (R152, R153): a solitary station restarts the timer; a RUNNING one becomes ISOLATED; in any other
state nothing is declared (R155; log entry 26). -/
def execLinkSilenceExpiry (s : State) : Host.Outcome State Fault Refusal :=
  .next <|
    onExpiry s.peers.linkTimer
      (fun s =>
        if s.solitary then s.restartLink
        else if s.ctl.state = .running ∧ s.peers.isolated = false then s.isolate.finish
        else s) s

end Sys2Proof.Machine
end

