-- ==== Sys2Proof/Machine/Image.lean ====
section
/-! DEFINITION. The configuration image: its layout (12, Table 12-3) and the tests of a slot (10, R161, R162). -/

namespace Sys2Proof.Machine

/-! ### The memory port's commands (12, section 12.3) -/

/-- The status query. -/
def statusQuery : List Byte := [0x05]

/-- Does a status byte say that the memory is busy (bit 0)? An absent memory reads FF, which is busy. -/
def memoryBusy (status : Byte) : Bool := status.getLsbD 0

/-- The first byte address of a slot (R161): 0 for A, 512 for B. -/
def slotAddress : Slot → Nat
  | .a => 0
  | .b => 512

/-- The read of a slot: the read command and a two-byte address, high byte first. -/
def readCommand (slot : Slot) : List Byte := 0x03 :: bytes2 (slotAddress slot)

/-- MSEL (12, section 12.3): released but for a read that goes on. -/
def State.msel (s : State) : Bool := (s.ctl.load.map (·.msel)).getD false

/-- Has the memory answered ready (R161, test 1)? -/
def Load.ready (l : Load) : Bool := decide (l.answer = .stopped)

/-- The memory answers a status query (R161, test 1): while it is busy the port goes on querying; once it is ready the read of
the slot begins with the read command. -/
def Load.queried (status : Byte) (l : Load) : Load :=
  if memoryBusy status then { l with request := statusQuery, returned := [status] }
  else { l with answer := .stopped, msel := true, request := readCommand l.slot, returned := [] }

/-! ### Reading the layout (Table 12-3, R183) -/

/-- A byte of a slot; a byte the memory does not give reads FF (12, section 12.3; log entry 15). -/
def imageByte (b : List Byte) (i : Nat) : Nat := (b.getD i 0xFF#8).toNat

/-- A number of two bytes, most significant first. -/
def imageWord (b : List Byte) (i : Nat) : Nat := imageByte b i * 256 + imageByte b (i + 1)

/-- A run of bytes. -/
def imageRun (b : List Byte) (i n : Nat) : List Nat := (List.range n).map (fun k => imageByte b (i + k))

/-- A temperature stored as the temperature plus 40 (R183). -/
def imageTemp (b : List Byte) (i : Nat) : Int := (imageByte b i : Int) - 40

/-- A temperature offset: one byte, two's complement (R183). -/
def imageOffset (b : List Byte) (i : Nat) : Int := (BitVec.ofNat 8 (imageByte b i)).toInt

/-- Is a bit of a flag byte set? -/
def imageFlag (b : List Byte) (i bit : Nat) : Bool := (imageByte b i).testBit bit

/-- Number of drive roles. -/
def imageRoles (b : List Byte) : Nat := imageByte b 13

/-- Number of demand groups. -/
def imageDemands (b : List Byte) : Nat := imageByte b 14

/-- Number of enclosure list entries. -/
def imageEnclosure (b : List Byte) : Nat := imageByte b 23

/-- Channel count of a demand group. -/
def imageCurves (b : List Byte) (i : Nat) : Nat := imageByte b (15 + i)

/-- First byte of a temperature channel record. -/
def channelAt (b : List Byte) (i : Nat) : Nat := 24 + imageEnclosure b + 5 * i

/-- First byte of a fan channel record. -/
def fanAt (b : List Byte) (i : Nat) : Nat := 64 + imageEnclosure b + 3 * i

/-- First byte of a drive role. -/
def roleAt (b : List Byte) (i : Nat) : Nat := 82 + imageEnclosure b + 25 * i

/-- First byte of a demand group. -/
def demandAt (b : List Byte) (i : Nat) : Nat :=
  roleAt b (imageRoles b) + ((List.range i).map (fun j => 8 + 10 * imageCurves b j)).sum

/-- The size the counts give: 84 + e + 25r + Σ(8 + 10c) (12, section 12.3). -/
def imageSize (b : List Byte) : Nat := demandAt b (imageDemands b) + 2

/-- The station timing section. -/
def readTiming (b : List Byte) : Timing where
  refreshTenths := imageByte b 5
  threshold     := imageByte b 6
  isolationS    := imageByte b 7
  solitary      := imageFlag b 8 0
  shareThrottle := imageFlag b 8 1
  takeoverS     := imageByte b 9
  saturationS   := imageWord b 10
  margin        := imageByte b 12
  enclosure     := imageRun b 24 (imageEnclosure b)

/-- The notice mode code of a channel record. -/
def imageMode (b : List Byte) (p : Nat) : Nat := imageByte b p / 2 % 4

/-- The notice mode of a code; a code of 3 is refused by the content check. -/
def modeOf : Nat → NoticeMode
  | 0 => .quiet
  | 1 => .rise
  | _ => .riseFall

/-- A channel record, none when it is marked unused. -/
def readChannel (b : List Byte) (i : Nat) : Option ChannelCfg :=
  let p := channelAt b i
  if imageFlag b p 0 then
    some { offset := imageOffset b (p + 1), high := imageTemp b (p + 2), rel := imageTemp b (p + 3), crit := imageTemp b (p + 4),
           mode := modeOf (imageMode b p) }
  else none

/-- A fan channel record. -/
def readFan (b : List Byte) (i : Nat) : FanCfg := ⟨imageByte b (fanAt b i), imageWord b (fanAt b i + 1)⟩

/-- A drive role. -/
def readRole (b : List Byte) (i : Nat) : RoleCfg :=
  let p := roleAt b i
  { group := imageByte b p
    kind := if imageFlag b (p + 1) 0 then .standby else .primary
    stopPermitted := imageFlag b (p + 1) 1
    partner := if imageByte b (p + 2) = 0 then none else some (imageByte b (p + 2))
    channels := imageRun b (p + 4) (min 4 (imageByte b (p + 3)))
    rampStep := imageByte b (p + 8)
    upMs := imageWord b (p + 9)
    downMs := imageWord b (p + 11)
    startUp := imageByte b (p + 13)
    spinUpMs := imageByte b (p + 14) * 100
    stopDelayMs := imageByte b (p + 15) * 1000
    checkLevel := imageByte b (p + 16)
    floor := imageByte b (p + 17)
    claimMs := imageByte b (p + 18) * 1000
    lostLevel := imageByte b (p + 19)
    required := imageRun b (p + 21) (min 4 (imageByte b (p + 20))) }

/-- A curve of a demand group. -/
def readCurve (b : List Byte) (p : Nat) : Curve where
  channel := imageByte b p
  t1 := imageTemp b (p + 1)
  t2 := imageTemp b (p + 2)
  t3 := imageTemp b (p + 3)
  t4 := imageTemp b (p + 4)
  l0 := imageByte b (p + 5)
  l1 := imageByte b (p + 6)
  l2 := imageByte b (p + 7)
  l3 := imageByte b (p + 8)
  l4 := imageByte b (p + 9)

/-- A demand group. -/
def readDemand (b : List Byte) (i : Nat) : DemandCfg :=
  let p := demandAt b i
  { group := imageByte b p
    curves := (List.range (imageCurves b i)).map (fun k => readCurve b (p + 8 + 10 * k))
    neighbours := imageRun b (p + 2) (min 4 (imageByte b (p + 1)))
    boost := imageByte b (p + 6)
    faultLevel := imageByte b (p + 7) }

/-- A whole image. -/
def readImage (b : List Byte) : Image where
  generation := imageWord b 3
  timing     := readTiming b
  channels   := (List.range 8).map (readChannel b)
  fans       := (List.range 6).map (readFan b)
  roles      := (List.range (imageRoles b)).map (readRole b)
  demands    := (List.range (imageDemands b)).map (readDemand b)

/-! ### Content checks (R162, Table 10-3) -/

/-- A number lies in a range. -/
def inRange (lo hi n : Nat) : Bool := decide (lo ≤ n) && decide (n ≤ hi)

/-- A temperature of the image lies in −40 to +150. -/
def tempOk (t : Int) : Bool := decide (-40 ≤ t) && decide (t ≤ 150)

/-- Item 1, station timing (Tables 3-1, 5-3, 6-1, 9-1; R50, R90, R110, R120, R152). -/
def timingOk (station : Nat) (t : Timing) : Bool :=
  inRange 5 50 t.refreshTenths && inRange 1 20 t.threshold && inRange 3 30 t.isolationS && inRange 2 10 t.takeoverS
    && inRange 10 600 t.saturationS && inRange 1 30 t.margin && decide (t.enclosure.length ≤ 29)
    && t.enclosure.all (fun n => stationOk n && n != station) && decide t.enclosure.Nodup

/-- Items 2 to 9, a temperature channel (R73, R162): an unused one is not examined. -/
def channelOk (mode : Nat) : Option ChannelCfg → Bool
  | none => true
  | some c =>
    decide (-10 ≤ c.offset) && decide (c.offset ≤ 10) && tempOk c.high && tempOk c.rel && tempOk c.crit
      && decide (c.rel < c.high) && decide (c.high < c.crit) && mode != 3

/-- Items 10 to 15, a fan channel (Table 2-1). -/
def fanOk (f : FanCfg) : Bool := (f.pulses == 1 || f.pulses == 2 || f.pulses == 4) && decide (f.minSpeed ≤ 25000)

/-- Items 16 to 19, a drive role against the roles before it (R1, R26, R50, R162; Tables 1-1, 2-5, 3-1). -/
def roleOk (station channelCount requiredCount : Nat) (earlier : List RoleCfg) (r : RoleCfg) : Bool :=
  groupOk r.group && !earlier.any (fun q => q.group == r.group)
    && inRange 1 4 channelCount && r.channels.all (fun c => decide (c ≤ 5)) && decide r.channels.Nodup
    && r.channels.all (fun c => !earlier.any (fun q => q.channels.contains c))
    && inRange 1 10 r.rampStep && inRange 50 1000 r.upMs && inRange 100 5000 r.downMs && inRange 20 100 r.startUp
    && inRange 500 10000 r.spinUpMs && inRange 1000 60000 r.stopDelayMs && inRange 10 100 r.checkLevel
    && levelOk r.floor && inRange 2000 20000 r.claimMs && levelOk r.lostLevel
    && (r.partner.map (fun n => stationOk n && n != station)).getD true
    && decide (requiredCount ≤ 4) && r.required.all (fun n => stationOk n && n != station) && decide r.required.Nodup

/-- A curve (R90, Table 5-2). -/
def curveOk (c : Curve) : Bool :=
  tempOk c.t1 && tempOk c.t2 && tempOk c.t3 && tempOk c.t4 && decide (c.t1 < c.t2) && decide (c.t2 < c.t3) && decide (c.t3 < c.t4)
    && levelOk c.l4 && decide (c.l0 ≤ c.l1) && decide (c.l1 ≤ c.l2) && decide (c.l2 ≤ c.l3) && decide (c.l3 ≤ c.l4)

/-- Items 20 to 27, a demand group against the channels and the groups before it (R90). -/
def demandOk (neighbourCount : Nat) (channels : List (Option ChannelCfg)) (earlier : List DemandCfg) (d : DemandCfg) : Bool :=
  groupOk d.group && !earlier.any (fun q => q.group == d.group)
    && inRange 1 8 d.curves.length && d.curves.all (fun c => (channels.getD c.channel none).isSome)
    && decide ((d.curves.map (·.channel)).Nodup) && d.curves.all curveOk
    && decide (neighbourCount ≤ 4) && d.neighbours.all (fun g => groupOk g && g != d.group) && decide d.neighbours.Nodup
    && decide (d.boost ≤ 50) && levelOk d.faultLevel

/-- Placeholders of a role: the OWN entry of a demand group, and the required contributors (R4). -/
def placeholderCount (demands : List DemandCfg) (r : RoleCfg) : Nat :=
  (if demands.any (fun d => d.group == r.group) then 1 else 0) + r.required.length

/-- The content checks in index order, each with its item index; the placeholder counts last, charged to their roles (R162). -/
def contentChecks (station : Nat) (b : List Byte) : List (Nat × Bool) :=
  let img := readImage b
  [(1, timingOk station img.timing)]
    ++ (List.range 8).map (fun i => (2 + i, channelOk (imageMode b (channelAt b i)) (readChannel b i)))
    ++ (List.range 6).map (fun i => (10 + i, fanOk (readFan b i)))
    ++ (List.range (imageRoles b)).map (fun i =>
        (16 + i, roleOk station (imageByte b (roleAt b i + 3)) (imageByte b (roleAt b i + 20)) (img.roles.take i) (readRole b i)))
    ++ (List.range (imageDemands b)).map (fun i =>
        (20 + i, demandOk (imageByte b (demandAt b i + 1)) img.channels (img.demands.take i) (readDemand b i)))
    ++ (List.range (imageRoles b)).map (fun i =>
        (16 + i, decide ((((img.roles.take (i + 1)).map (placeholderCount img.demands)).sum) ≤ 48)
          && decide (placeholderCount img.demands (readRole b i) ≤ 16)))

/-- The index of the first failing item (R162). -/
def contentFault (station : Nat) (b : List Byte) : Option Nat :=
  ((contentChecks station b).find? (fun c => !c.2)).map (·.1)

/-! ### The tests of a slot (R161) -/

/-- Is a length shorter than header and CRC together, or longer than a slot (R161 step 2)? -/
def lengthRefused (len : Nat) : Bool := decide (len < 7 ∨ 512 < len)

/-- How many bytes the port reads of a slot that begins with these (R161 steps 2 and 3; 12, section 12.3): the header of five,
and the image to its stated length when that passes. -/
def readLength (b : List Byte) : Nat := if lengthRefused (imageWord b 1) then 5 else imageWord b 1

/-- The bytes of an image of a length. -/
def imageBytes (b : List Byte) (n : Nat) : List Byte := (imageRun b 0 n).map byteOf

/-- Does the CRC of an image of a length agree (R161 step 3, R182)? -/
def imageCrcOk (b : List Byte) (len : Nat) : Bool :=
  (crcOf (bytesBits (imageBytes b (len - 2)))).toNat == imageWord b (len - 2)

/-- The format test (R161 step 4): format code 26 (hex), the counts of roles and demand groups, and the size. -/
def imageFormatOk (b : List Byte) (len : Nat) : Bool :=
  imageByte b 0 == 0x26 && decide (imageRoles b ≤ 4) && decide (imageDemands b ≤ 8) && len == imageSize b

/-- A slot whose memory answered is judged (R161): its result, and its image if it is valid. -/
def judgeSlot (station : Nat) (b : List Byte) : SlotResult × Option Image :=
  let len := imageWord b 1
  if lengthRefused len then (.bad .imageFormat 0, none)
  else if imageCrcOk b len = false then (.bad .imageCrc 0, none)
  else if imageFormatOk b len = false then (.bad .imageFormat 0, none)
  else
    match contentFault station b with
    | some item => (.bad .imageContent item, none)
    | none => (.valid, some (readImage b))

end Sys2Proof.Machine
end

