-- ==== Sys2Proof/Machine/Station.lean ====
section
/-! DEFINITION. Station Control (10): starts, loading, joining, faults, and the meanings of RESET_HELD_ENTRY,
RESET_HELD_END, MEMORY_ANSWER_TIMEOUT, SLOT_READ_COMPLETE and JOIN_WINDOW_EXPIRY. -/

namespace Sys2Proof.Machine

/-! ### The entry into FAULTED (R166) -/

/-- A claim table emptied at a fault (R22). -/
def ClaimTable.emptied (t : ClaimTable) : ClaimTable :=
  { t with entries := [], peak := 0, peakTimer := .stopped, grace := .stopped }

/-- The role machine of a role that neither acts nor has run: LISTEN or WATCH (R50, R70). -/
def restingMachine : RoleKind → RoleMachine
  | .primary => .listen
  | .standby => .watch

/-- A role record at a fault (R70): epochs, acting other and attempt count are kept. -/
def Ship.faulted (kind : RoleKind) (sh : Ship) : Ship :=
  { sh with
    machine := restingMachine kind, joinMark := false, forcing := .clear, pendingExpiry := false, silence := .stopped,
    otherSilence := .stopped, hold := .stopped, wait := .stopped }

/-- A role at a fault, its drive apart (R22, R70). -/
def Role.faulted (role : Role) : Role :=
  { role with claims := role.claims.emptied, ship := role.ship.faulted role.cfg.kind }

/-- A channel record at a fault (R87): its alert repeat timer stops. -/
def TempChannel.faulted (c : TempChannel) : TempChannel := { c with repeatTimer := .stopped }

/-- A demand entry at a fault: its monitor is cleared (R104, R115). -/
def DemandEntry.faulted (d : DemandEntry) : DemandEntry := { d with sat := .clear, satCount := 0, satRepeat := .stopped }

/-- Every block at the entry into FAULTED (R166): R22, R47, R70, R87, R104, R115, R117, R118, R133, R148, R155. -/
def State.blocksFault (s : State) : State :=
  let s' := s.forRoles State.stopActing
  ({ s' with
      temps  := s'.temps.map TempChannel.faulted
      demand := { s'.demand with entries := s'.demand.entries.map DemandEntry.faulted, refresh := .stopped }
      roles  := s'.roles.map Role.faulted
      peers  := { s'.peers with board := List.replicate 16 [], linkTimer := .stopped }
      txq    := [] }).evaluateThrottle

/-- The station enters FAULTED (R166): cause and item recorded, FAULT posted, every block at its values. -/
def State.enterFaulted (s : State) (cause : Cause) (item : Nat) : State :=
  (({ s with
      ctl := { s.ctl with state := .faulted, cause := some cause, item := item, load := none, joinWindow := .stopped } }).post
    .fault (causeCode cause) (some item)).blocksFault

/-! ### The entry into JOINING (R164) -/

/-- A channel record that takes its configuration (R73, R74); an unused channel shows 0 and QUIET (R89). -/
def TempChannel.configured (c : TempChannel) : Option ChannelCfg → TempChannel
  | some cfg => { c with used := true, cfg := cfg }
  | none => { c with used := false, cfg := .unused }

/-- A demand record entry as it is made (R91, R110). -/
def DemandEntry.fresh (cfg : DemandCfg) : DemandEntry := ⟨cfg, 0, .curve, 0, 0, false, none, .clear, 0, .stopped⟩

/-- A drive record before its role acts (R32). -/
def Drive.fresh : Drive := ⟨.released, 0, 100, .stopped, .stopped, 0, .stopped, .normal, ⟨false, false, false⟩, .stopped, false⟩

/-- A role record as it is made (R50): a standby's silence timer starts (R61). -/
def Ship.fresh (kind : RoleKind) (silenceEnd : Nat) : Ship where
  machine       := restingMachine kind
  epoch         := none
  known         := none
  other         := none
  joinMark      := false
  attempts      := 0
  forcing       := .clear
  pendingExpiry := false
  silence       := match kind with
    | .primary => .stopped
    | .standby => .running silenceEnd
  otherSilence  := .stopped
  hold          := .stopped
  wait          := .stopped

/-- A role as it is made at the entry into JOINING (R5, R14, R32, R50). -/
def Role.fresh (now own takeoverMs : Nat) (demands : List DemandCfg) (cfg : RoleCfg) : Role where
  cfg    := cfg
  claims :=
    { entries := placeholders own (demands.any (fun d => d.group == cfg.group)) cfg.required
      peak := 0, peakTimer := .stopped, grace := .running (now + cfg.claimMs), graceEnded := false }
  drive  := .fresh
  ship   := .fresh cfg.kind (now + takeoverMs)

/-- The role a fan channel is assigned to (R26). -/
def assignedRole (roles : List RoleCfg) (channel : Nat) : Option Nat := roles.findIdx? (fun r => r.channels.contains channel)

/-- A fan channel record that takes its configuration and opens its first window (R26, R27). -/
def FanChannel.configured (img : Image) (now i : Nat) (f : FanChannel) : FanChannel :=
  { f with cfg := img.fans.getD i ⟨0, 0⟩, role := assignedRole img.roles i, window := .running (now + 500) }

/-- The station enters JOINING with an image (R163, R164): each block takes its configuration and begins its work. -/
def State.enterJoining (s : State) (slot : Slot) (img : Image) : State :=
  ({ s with
      ctl := { s.ctl with
        state := .joining, taken := some (slot, img.generation), load := none, joinWindow := .running (s.now + 2000) }
      timing     := some img.timing
      temps      := List.zipWith TempChannel.configured s.temps img.channels
      roundTimer := .running (s.now + 250)
      demand     := ⟨img.demands.map DemandEntry.fresh, .running (s.now + img.timing.refreshTenths * 100), false, false⟩
      roles      := img.roles.map (Role.fresh s.now (s.ctl.station.getD 0) (img.timing.takeoverS * 1000) img.demands)
      fans       := s.fans.mapIdx (FanChannel.configured img s.now)
      peers      := { s.peers with linkTimer := .running (s.now + img.timing.isolationS * 1000) } }).handTargets

/-! ### Loading (R160, R161, R163) -/

/-- LOADING begins (R160, R161): the straps are read; a station number of 0 or 31 faults, else slot A is read. That ADR0 is the
less significant bit of the address offset is the model's choice (DESIGN CHOICE, log entry 41). -/
def State.beginLoading (s : State) (straps : Straps) : State :=
  let s' : State :=
    { s with
      ctl := { s.ctl with
        state := .loading, straps := straps, station := some straps.sn.toNat, offset := some straps.adr.toNat
        load := some (.start .a none s.now) } }
  if stationOk straps.sn.toNat then s' else s'.enterFaulted .badStrap 0

/-- The value of IMAGE_SLOT_BAD: the cause in the high byte, the item index in the low byte (12, section 12.4). -/
def slotBadValue : SlotResult → Int
  | .bad cause item => ((causeCode cause * 256 + item : Nat) : Int)
  | .valid | .notRead => 0

/-- Both slots have been judged (R163): the image is chosen, or the station faults with slot A's cause. -/
def State.chooseImage (s : State) (a b : Option Image) : State :=
  match a, b with
  | some ia, some ib => if ia.generation < ib.generation then s.enterJoining .b ib else s.enterJoining .a ia
  | some ia, none => (s.post .imageSlotBad (slotNumber .b) (some (slotBadValue s.ctl.slotB))).enterJoining .a ia
  | none, some ib => (s.post .imageSlotBad (slotNumber .a) (some (slotBadValue s.ctl.slotA))).enterJoining .b ib
  | none, none =>
    match s.ctl.slotA with
    | .bad cause item => s.enterFaulted cause item
    | .valid | .notRead => s

/-- The judgement of the slot being read (R161, R163): MSEL is released; slot B is read after slot A, and the image is chosen
after slot B. -/
def State.slotJudged (s : State) (l : Load) (result : SlotResult) (img : Option Image) : State :=
  match l.slot with
  | .a => { s with ctl := { s.ctl with slotA := result, load := some (.start .b img s.now) } }
  | .b => ({ s with ctl := { s.ctl with slotB := result, load := none } }).chooseImage l.imageA img

/-- Bytes of a slot whose memory has answered ready (R161): they follow those that came before, and the read ends when the port
has all that it reads, or earlier where the sender says so (log entries 15 and 29); the slot is then judged. -/
def State.slotAnswered (s : State) (l : Load) (bytes : List Byte) (ended : Bool) : State :=
  let got := l.returned ++ bytes
  if ended ∨ readLength got ≤ got.length then
    let judged := judgeSlot (s.ctl.station.getD 0) got
    s.slotJudged l judged.1 judged.2
  else { s with ctl := { s.ctl with load := some { l with returned := got } } }

/-! ### Starts (R157, R159) -/

/-- The service port at the entry into RESET_HELD (R169, R171): a transaction in progress ends without effect, and a read keeps
the bytes that it has delivered so far (log entry 35). -/
def Port.cut (delivered : Nat) (p : Port) : Port :=
  { State.reset.port with
    sent := match p.transfer with
      | .read => p.sent.take delivered
      | .idle | .write _ => [] }

/-- The entry into RESET_HELD (R157): every block at its power-on values; the model's own counters and the strap pins are kept. -/
def State.resetHeld (s : State) (delivered : Nat) : State :=
  { State.reset with
    pending := s.pending, now := s.now, choices := s.choices, stamp := s.stamp, ctl := { Control.reset with straps := s.ctl.straps }
    port := s.port.cut delivered }

/-- A channel record at a RESTART (R74, R88): the limit latch is kept. -/
def TempChannel.restarted (c : TempChannel) : TempChannel := { TempChannel.reset with latch := c.latch }

/-- The station starts again (R159): every block at its values for RESTART, RESTARTED posted at time 0, and LOADING begun. -/
def State.restart (s : State) (straps : Straps) : State :=
  let s' : State :=
    { s.resetHeld 0 with
      ctl      := { Control.reset with state := .loading, startAt := s.now }
      temps    := s.temps.map TempChannel.restarted
      badCount := s.badCount
      shutdown := s.shutdown
      notices  := s.notices
      port     := { s.port with selection := .station } }
  (s'.post .restarted 0 (some s.timeBase)).beginLoading straps

/-- The generation of the image taken (R163). -/
def imageGeneration (s : State) : Int := (((s.ctl.taken.map (fun t => t.2)).getD 0 : Nat) : Int)

/-! ### Meanings -/

/-- RESET_HELD_ENTRY (R157, R169). -/
def execResetHeldEntry (s : State) (delivered : Nat := 0) : Host.Outcome State Fault Refusal := .next (s.resetHeld delivered)

/-- RESET_HELD_END (R157, R158, R171). -/
def execResetHeldEnd (straps : Straps) (s : State) : Host.Outcome State Fault Refusal :=
  .next <|
    match s.ctl.state with
    | .resetHeld =>
      ({ s with ctl := { s.ctl with state := .loading, startAt := s.now }, port := { s.port with selection := .station } }).beginLoading
        straps
    | .loading | .joining | .running | .faulted => s

/-- MEMORY_ANSWER_TIMEOUT (R161, step 1): of no effect once the memory has answered ready. -/
def execMemoryAnswerTimeout (s : State) : Host.Outcome State Fault Refusal :=
  .next <|
    match s.ctl.load with
    | none => s
    | some l => onExpiry l.answer (fun s => s.slotJudged l (.bad .memoryAbsent 0) none) s

/-- SLOT_READ_COMPLETE (R161): the status query, where the memory has not answered ready, and the read of the slot. -/
def execSlotReadComplete (bytes : List Byte) (s : State) (status : Byte := 0) (ended : Bool := true) :
    Host.Outcome State Fault Refusal :=
  .next <|
    match s.ctl.load with
    | none => s
    | some l =>
      let l' := if l.ready then l else l.queried status
      if l'.ready then s.slotAnswered l' bytes ended else { s with ctl := { s.ctl with load := some l' } }

/-- JOIN_WINDOW_EXPIRY (R165): RUNNING, JOINED, then the roles in order. -/
def execJoinWindowExpiry (s : State) : Host.Outcome State Fault Refusal :=
  .next <|
    onExpiry s.ctl.joinWindow
      (fun s =>
        ((({ s with ctl := { s.ctl with state := .running, joinWindow := .stopped } }).post .joined (s.ctl.station.getD 0)
          (some (imageGeneration s))).forRoles State.roleRuns).finish) s

end Sys2Proof.Machine
end

