-- ==== Sys2Proof/Machine/Link.lean ====
section
/-! DEFINITION. The Link Controller (07; 08 section 8.2): line states, contention, overlap, the stuck line, frames
transmitted and frames received, with the meanings of their commands. -/

namespace Sys2Proof.Machine

/-! ### The line -/

/-- Set the line state. -/
def State.setLine (s : State) (l : LineState) : State := { s with line := { s.line with state := l } }

/-- A frame is discarded by the reception checks (R139): the count adds 1 and stops at 65,535. -/
def State.countBad (s : State) : State := { s with badCount := min 65535 (s.badCount + 1) }

/-- The frame of the station that is on the wire. -/
def State.ownFrame (s : State) : Option QEntry := s.txq.find? (·.onWire)

/-- The cells of the station's frame with a payload (R128). -/
def State.ownCells (s : State) (p : Payload) : List Bool := wireCells (wireOf (s.ctl.station.getD 0) p)

/-! ### Contention and overlap (R129 to R131) -/

/-- A frame on the wire goes back to waiting at its place with a new overlap count; a successor's content replaces it (R129, R144). -/
def QEntry.putBack (overlaps : Nat → Nat) (e : QEntry) : QEntry :=
  if e.onWire then
    { e with
      onWire := false, overlaps := overlaps e.overlaps, successor := none,
      payload := match e.successor with
        | some (c, _) => .status c
        | none => e.payload }
  else e

/-- The frame on the wire has lost contention (R129). -/
def State.loseContention (s : State) : State := { s with txq := s.txq.map (QEntry.putBack (fun _ => 0)) }

/-- The frame on the wire has met an overlap (R130, R131); the third in a row faults the station. -/
def State.meetOverlap (s : State) (e : QEntry) : State :=
  let s' := s.setLine .notIdle
  if 2 ≤ e.overlaps then s'.enterFaulted .duplicateStation 0
  else { s' with txq := s'.txq.map (QEntry.putBack (· + 1)) }

/-- Can a contender sending these cells lose contention at a cell: a 1 of its precedence field (R129)? -/
def losesAt (cells : List Bool) (cell : Nat) : Bool := decide (1 ≤ cell) && decide (cell ≤ 7) && cells.getD (cell - 1) false

/-- Is a mismatch an overlap (R130): a cell after the precedence field, a 0 of it that samples 1, or a pulse error? -/
def isOverlap (cells : List Bool) : Mismatch → Bool
  | .cell n => decide (1 ≤ n) && decide (n ≤ cells.length) && (decide (7 < n) || !cells.getD (n - 1) false)
  | .pulse p => pulseIsError p

/-! ### Transmitted (R128, R148) -/

/-- The queue without the frame that was on the wire; its successor, if any, enters with its own instant (R144, R148). -/
def dequeue (q : List QEntry) (e : QEntry) : List QEntry :=
  let rest := q.filter (fun x => !x.onWire)
  match e.successor with
  | some (c, stamp) => insertEntry ⟨.status c, stamp, 0, false, none⟩ rest
  | none => rest

/-- The transmitted event reaches the frame's source (R128, R148). -/
def State.reportTransmitted (s : State) (p : Payload) : State :=
  match p with
  | .demand items => s.demandTransmitted items
  | .takeover g e => s.takeoverTransmitted g e
  | .handback g _ => s.handbackTransmitted g
  | .yield g e _ _ => s.yieldTransmitted g e
  | .status _ | .alert _ _ _ => s

/-! ### Received (R138 to R141) -/

/-- The receiver reads a peer's frame: the line is in FRAME and no frame of the station is on it (R123, R128). -/
def State.receiving (s : State) : Bool := s.started && s.line.state == .frame && !s.ownOnWire

/-- The blocks other than the Peer Unit take a frame (R140, Table 8-1). -/
def State.othersTake (s : State) (sender : Nat) (p : Payload) : State :=
  match p with
  | .demand items => s.takeDemand sender items
  | .status _ | .takeover _ _ | .handback _ _ | .yield _ _ _ _ => s.driveshipTakes sender p
  | .alert _ _ _ => s

/-- Can the order of the blocks at this frame be seen: a new peer, or the end of an isolation (R150, R154)? A YIELD that ends
an isolation is not among them: R154 gives it one outcome, and the model takes the Peer Unit first, so that the drive goes
on at the YIELD's level (DEDUCED, log entry 33). -/
def State.orderMatters (s : State) (sender : Nat) (p : Payload) : Bool :=
  let newPeer := !s.peers.roster.any (fun e => e.station == sender)
  match payloadKind p with
  | .alert => false
  | .yield => newPeer && !s.peers.isolated
  | .demand | .status | .takeover | .handback => newPeer || s.peers.isolated

/-- A valid frame of a peer is delivered in JOINING or RUNNING (R140). Where the order of the blocks can be seen it is free
(R154; log entry 5). -/
def State.deliverAll (s : State) (sender : Nat) (p : Payload) : State :=
  if s.orderMatters sender p then
    let s' := { s with choices := s.choices + 1 }
    if Config.peerUnitFirst s.choices then (s'.peerTakes sender p).othersTake sender p
    else (s'.othersTake sender p).peerTakes sender p
  else (s.peerTakes sender p).othersTake sender p

/-- A valid frame is delivered (R140, R141): to no block in LOADING; the own number faults the station in JOINING and
RUNNING and changes nothing in FAULTED. -/
def State.deliver (s : State) (sender : Nat) (p : Payload) : State :=
  match s.ctl.state with
  | .resetHeld | .loading => s
  | .joining | .running =>
    if s.ctl.station = some sender then s.enterFaulted .duplicateStation 0 else s.deliverAll sender p
  | .faulted => if s.ctl.station = some sender then s else s.peerTakes sender p

/-- A frame ends at the receiver (R128): a valid one is delivered, one with a field out of range discarded (R138; log entry 20). -/
def State.receive (s : State) (sender : Nat) (p : Payload) : State :=
  if s.receiving then
    if stationOk sender && p.wf then ((s.setLine .notIdle).deliver sender p).finish else (s.setLine .notIdle).countBad
  else s

/-! ### Meanings -/

/-- DEMAND_FRAME (R8, R140). -/
def execDemandFrame (sender : Nat) (items : List DemandItem) (s : State) : Host.Outcome State Fault Refusal :=
  .next (s.receive sender (.demand items))

/-- STATUS_FRAME (R51, R107, R140). -/
def execStatusFrame (sender : Nat) (c : StatusContent) (s : State) : Host.Outcome State Fault Refusal :=
  .next (s.receive sender (.status c))

/-- TAKEOVER_FRAME (R51, R140). -/
def execTakeoverFrame (sender group : Nat) (epoch : Epoch) (s : State) : Host.Outcome State Fault Refusal :=
  .next (s.receive sender (.takeover group epoch))

/-- HANDBACK_FRAME (R51, R64, R140). -/
def execHandbackFrame (sender group : Nat) (seen : Epoch) (s : State) : Host.Outcome State Fault Refusal :=
  .next (s.receive sender (.handback group seen))

/-- YIELD_FRAME (R51, R59, R140). -/
def execYieldFrame (sender group : Nat) (epoch : Epoch) (addressed level : Nat) (s : State) : Host.Outcome State Fault Refusal :=
  .next (s.receive sender (.yield group epoch addressed level))

/-- ALERT_FRAME (R116, R117, R120, R140). -/
def execAlertFrame (sender : Nat) (kind : AlertKind) (subject : Nat) (value : Int) (s : State) : Host.Outcome State Fault Refusal :=
  .next (s.receive sender (.alert kind subject value))

/-- BAD_FRAME_RECEIVED (R138): the checks decide; a frame that passes them is delivered (log entry 20). -/
def execBadFrameReceived (frame : WireFrame) (s : State) : Host.Outcome State Fault Refusal :=
  .next <|
    match receptionCheck frame with
    | some (sender, p) => s.receive sender p
    | none => if s.receiving then (s.setLine .notIdle).countBad else s

/-- PULSE_ERROR (R127): the frame in progress is counted and ended; in the station's own frame it is an overlap (R130). -/
def execPulseError (pulse : Pulse) (s : State) : Host.Outcome State Fault Refusal :=
  .next <|
    if pulseIsError pulse then
      match s.ownFrame with
      | some e => s.meetOverlap e
      | none => if s.receiving then (s.setLine .notIdle).countBad else s
    else s

/-- LINE_IDLE (R123, R124, R132): the line is IDLE, a stuck episode closes, and the head frame is started; or the edge of a
peer's start mark is taken first, and the line is in FRAME with nothing started. -/
def execLineIdle (s : State) (peerFirst : Bool := false) : Host.Outcome State Fault Refusal :=
  .next <|
    match s.ctl.state, s.line.state with
    | .resetHeld, _ => s
    | _, .notIdle | _, .stuck =>
      let idle : State := { s with line := ⟨.idle, false⟩ }
      if peerFirst then idle.setLine .frame else idle.startHead
    | _, .idle | _, .frame => s

/-- START_MARK (R123, R124): a peer's start mark begins on an IDLE line. -/
def execStartMark (s : State) : Host.Outcome State Fault Refusal :=
  .next (if s.started ∧ s.line.state = .idle then s.setLine .frame else s)

/-- CONTENTION_LOSS (R129): the station goes on as a receiver of the winning frame. -/
def execContentionLoss (cell : Nat) (s : State) : Host.Outcome State Fault Refusal :=
  .next <|
    match s.ownFrame with
    | some e => if losesAt (s.ownCells e.payload) cell then s.loseContention else s
    | none => s

/-- OVERLAP (R130, R131). -/
def execOverlap (mismatch : Mismatch) (s : State) : Host.Outcome State Fault Refusal :=
  .next <|
    match s.ownFrame with
    | some e => if isOverlap (s.ownCells e.payload) mismatch then s.meetOverlap e else s
    | none => s

/-- LINE_STUCK (R132): a frame in progress is counted, and LINK_STUCK is posted when no episode is open. -/
def execLineStuck (s : State) : Host.Outcome State Fault Refusal :=
  .next <|
    if s.started ∧ s.ownOnWire = false then
      let counted := if s.line.state = .frame then s.countBad else s
      let stuck := { counted with line := ⟨.stuck, true⟩ }
      if s.line.stuckOpen then stuck else stuck.post .linkStuck 0 none
    else s

/-- FRAME_TRANSMITTED (R128, R148): the frame leaves the queue and its source is told. -/
def execFrameTransmitted (s : State) : Host.Outcome State Fault Refusal :=
  .next <|
    match s.ownFrame with
    | none => s
    | some e => ((({ s with txq := dequeue s.txq e }).setLine .notIdle).reportTransmitted e.payload).finish

end Sys2Proof.Machine
end

