-- ==== Sys2Proof/Machine/Service.lean ====
section
/-! DEFINITION. The Service Port (11; 12 section 12.4): view layouts, write and read transactions, RESTART, TAKE_NOTICE and
CLEAR_LATCHES, with the meanings of their commands. -/

namespace Sys2Proof.Machine

/-! ### View fields (R183) -/

/-- The remaining time of a timer in tenths, two bytes (R183). -/
def remaining (now : Nat) (t : Timer) : List Byte := bytes2 (min 65535 (tenthsUp (t.left now)))

/-- A field with a presence byte: an epoch (R183). -/
def presentEpoch : Option Epoch → List Byte
  | some e => byteOf 1 :: bytes2 e.toNat
  | none => [0, 0, 0]

/-- A field with a presence byte: a temperature (R183). -/
def presentTemp : Option Int → List Byte
  | some t => byteOf 1 :: bytesInt t
  | none => [0, 0, 0]

/-- The result of a slot and its item index (Table 12-4). -/
def slotBytes (r : SlotResult) : List Byte :=
  [byteOf (slotCode r), byteOf (match r with
    | .bad _ item => item
    | .valid | .notRead => 0)]

/-! ### The views (Table 12-4) -/

/-- STATION (R168). -/
def State.stationBytes (s : State) : List Byte :=
  [byteOf (stateCode s.ctl.state), byteOf ((s.ctl.cause.map causeCode).getD 0), byteOf s.ctl.item,
    byteOf (s.ctl.station.getD 255), byteOf (s.ctl.offset.getD 0)]
  ++ bytes2 s.timeBase
  ++ byteOf ((s.ctl.taken.map (fun t => slotNumber t.1)).getD 255) :: bytes2 ((s.ctl.taken.map (fun t => t.2)).getD 0)
  ++ slotBytes s.ctl.slotA ++ slotBytes s.ctl.slotB ++ remaining s.now s.ctl.joinWindow

/-- CHANNEL (R89). -/
def State.channelBytes (s : State) (i : Nat) : List Byte :=
  let c := s.temps.getD i .reset
  [byteOf (flagCode c.used), byteOf (healthCode c.health)] ++ presentTemp c.reading
  ++ [byteOf (prevCode c.prev), byteOf (watchCode c.watch), byteOf (flagCode c.latch), byteOf c.critCount, byteOf (flagCode c.critical)]
  ++ remaining s.now c.repeatTimer ++ [BitVec.ofInt 8 c.cfg.offset]
  ++ bytesInt c.cfg.high ++ bytesInt c.cfg.rel ++ bytesInt c.cfg.crit ++ [byteOf (modeCode c.cfg.mode)]

/-- FAN (R49). -/
def State.fanBytes (s : State) (i : Nat) : List Byte :=
  let f := s.fans.getD i .reset
  [byteOf (f.role.getD 255), byteOf (flagCode f.output.isSome), byteOf (f.output.getD 0)] ++ bytes2 f.speed
  ++ [byteOf (fanHealthCode f.health), byteOf (flagCode f.faultReported)]

/-- The FAILSAFE causes as bits (Table 12-4). -/
def causesCode (c : Causes) : Nat := flagCode c.isolated + 2 * flagCode c.groupFailed + 4 * flagCode c.critical

/-- ROLE (R49, R72). -/
def State.roleBytes (s : State) (i : Nat) : List Byte :=
  match s.roles[i]? with
  | none => []
  | some role =>
    let d := role.drive
    let sh := role.ship
    [byteOf (driveCode d.state), byteOf d.target, byteOf d.level, byteOf (conditionCode d.condition), byteOf (causesCode d.causes)]
    ++ remaining s.now d.spinUp ++ remaining s.now d.stopDelay
    ++ [byteOf (roleCode role.cfg.kind), byteOf (role.cfg.partner.getD 0), byteOf (machineCode sh.machine)]
    ++ presentEpoch sh.epoch ++ presentEpoch sh.known
    ++ byteOf ((sh.other.map (fun o => o.1)).getD 0) :: bytes2 ((sh.other.map (fun o => o.2.toNat)).getD 0)
    ++ [byteOf sh.attempts, byteOf (forcingCode sh.forcing)]
    ++ remaining s.now sh.silence ++ remaining s.now sh.otherSilence ++ remaining s.now sh.hold ++ remaining s.now sh.wait

/-- One claim of the CLAIMS view (R23). -/
def claimBytes (now position : Nat) (e : ClaimEntry) : List Byte :=
  [byteOf (position + 1), byteOf e.station, byteOf (claimKindCode e.kind)]
  ++ match e.live with
     | none => [1, 0, 0, 0, 0]
     | some l =>
       [0, byteOf l.level, byteOf (reasonCode l.reason)]
         ++ bytes2 (if e.kind = .own then 0 else min 65535 (tenthsDown (now - l.since)))

/-- CLAIMS (R23). -/
def State.claimsBytes (s : State) (i : Nat) : List Byte :=
  match s.roles[i]? with
  | none => []
  | some role =>
    let t := role.claims
    [byteOf t.entries.length, byteOf t.peak] ++ remaining s.now t.peakTimer
    ++ (t.entries.mapIdx (claimBytes s.now)).flatten

/-- GROUPVIEW (R109). -/
def State.groupviewBytes (s : State) (g : Nat) : List Byte :=
  match s.view g with
  | none => List.replicate 19 0 ++ [1]
  | some v =>
    [byteOf 1, byteOf v.driver] ++ bytes2 v.epoch.toNat
    ++ [byteOf (roleCode v.role), byteOf (driveCode v.drive), byteOf v.level, byteOf (conditionCode v.condition), byteOf v.speeds.length]
    ++ (List.range 4).flatMap (fun i => bytes2 (v.speeds.getD i 0))
    ++ bytes2 (min 65535 (tenthsDown (s.now - v.takenAt))) ++ [byteOf (flagCode v.stale)]

/-- One entry of the ROSTER view (R156, Table 9-2). -/
def rosterBytes (now position : Nat) (e : RosterEntry) : List Byte :=
  [byteOf (position + 1), byteOf e.station] ++ bytes2 e.firstHeard ++ bytes2 e.lastHeard
  ++ bytes2 (min 300 (tenthsDown (now - e.heardAt))) ++ [byteOf (flagCode e.silent)]

/-- ROSTER (R156). -/
def State.rosterViewBytes (s : State) : List Byte :=
  [byteOf s.peers.roster.length, byteOf (flagCode s.peers.isolated), byteOf (flagCode s.solitary),
    byteOf ((s.timing.map (·.isolationS)).getD 0)]
  ++ remaining s.now s.peers.linkTimer ++ (s.peers.roster.mapIdx (rosterBytes s.now)).flatten

/-- Where the station's DEMAND is (R105, Table 12-4). -/
def State.demandPosition (s : State) : Nat := if s.demandOnWire then 2 else if s.demandWaits then 1 else 0

/-- One entry of the DEMAND view (R105). -/
def demandBytes (d : DemandEntry) : List Byte :=
  [byteOf d.cfg.group, byteOf d.level, byteOf (reasonCode d.reason), byteOf d.curvePart, byteOf d.faultPart, byteOf (flagCode d.boosted)]
  ++ (match d.last with
      | some (level, reason) => [1, byteOf level, byteOf (reasonCode reason)]
      | none => [0, 0, 0])
  ++ byteOf (satCode d.sat) :: bytes2 d.satCount

/-- DEMAND (R105). -/
def State.demandViewBytes (s : State) : List Byte :=
  [byteOf ((s.timing.map (·.threshold)).getD 0), byteOf ((s.timing.map (·.refreshTenths)).getD 0)]
  ++ remaining s.now s.demand.refresh ++ [byteOf s.demandPosition, byteOf s.demand.entries.length]
  ++ s.demand.entries.flatMap demandBytes

/-- The members of a board set (R121). -/
def boardBytes (now : Nat) (ms : List Member) : List Byte :=
  byteOf ms.length :: ms.flatMap (fun m => byteOf m.station :: remaining now (.running m.due))

/-- One entry of the critical-peer list (R121). -/
def critBytes (e : CritPeer) : List Byte :=
  [byteOf e.station, byteOf e.channel] ++ bytesInt e.reading ++ [byteOf (flagCode e.listed)]

/-- SATBOARD (R121). -/
def State.satboardBytes (s : State) : List Byte :=
  [byteOf (flagCode s.shutdown + 2 * flagCode s.throttle + 4 * flagCode ((s.timing.map (·.shareThrottle)).getD false))]
  ++ (List.range 16).flatMap (fun g => boardBytes s.now (s.peers.board.getD g []))
  ++ byteOf s.peers.critPeers.length :: s.peers.critPeers.flatMap critBytes

/-- A notice record, 9 bytes (Table 12-5). A value beyond its two bytes, as of REJOINED after more than 65,535 s (R154), shows
modulo 65,536 (DESIGN CHOICE, log entry 38). -/
def noticeBytes (n : Notice) : List Byte :=
  bytes2 n.seq.toNat ++ bytes2 n.time
  ++ [byteOf (noticeCode n.kind), byteOf n.subject, byteOf (flagCode n.value.isSome)] ++ bytesInt (n.value.getD 0)

/-- NOTICE (R179). -/
def State.noticeViewBytes (s : State) : List Byte :=
  (match s.notices.queue with
   | [] => 1 :: List.replicate 9 0
   | n :: _ => 0 :: noticeBytes n)
  ++ byteOf s.notices.queue.length :: bytes2 s.notices.next.toNat ++ [byteOf s.notices.dropped]

/-- COUNTS (R134, R148, R180). -/
def State.countsBytes (s : State) : List Byte :=
  bytes2 s.badCount
  ++ [byteOf s.notices.dropped, byteOf s.notices.queue.length, byteOf s.txq.length, byteOf (lineCode s.line.state),
      byteOf (flagCode s.line.stuckOpen), byteOf (flagCode s.ownOnWire), byteOf ((s.txq.head?.map (·.overlaps)).getD 0)]
  ++ s.txq.flatMap (fun e => [byteOf (kindCode (payloadKind e.payload)), byteOf (payloadSubject e.payload)])

/-- The bytes of a view (R172, Table 12-4). -/
def State.viewBytes (s : State) : View → List Byte
  | .station => s.stationBytes
  | .channel i => s.channelBytes i
  | .fan i => s.fanBytes i
  | .role i => s.roleBytes i
  | .claims i => s.claimsBytes i
  | .groupview g => s.groupviewBytes g
  | .roster => s.rosterViewBytes
  | .demand => s.demandViewBytes
  | .satboard => s.satboardBytes
  | .notice => s.noticeViewBytes
  | .counts => s.countsBytes

/-! ### Write transactions (R170, R171, R173, R174) -/

/-- What a complete write transaction does (R170). -/
inductive PortAction where
  | select (view : View)
  | takeNotice
  | clearLatches
  | restart
  deriving DecidableEq, Repr

/-- The action of a code byte that takes no index (R170; 12, section 12.4). -/
def bareAction : Nat → Option PortAction
  | 0x01 => some (.select .station)
  | 0x07 => some (.select .roster)
  | 0x08 => some (.select .demand)
  | 0x09 => some (.select .satboard)
  | 0x0A => some (.select .notice)
  | 0x0B => some (.select .counts)
  | 0x40 => some .takeNotice
  | 0x41 => some .clearLatches
  | 0x4F => some .restart
  | _ => none

/-- Does a code byte take an index (R170)? -/
def takesIndex (code : Nat) : Bool := decide (2 ≤ code) && decide (code ≤ 6)

/-- The view of a code byte with an index (12, section 12.4). -/
def indexedView (code index : Nat) : Option View :=
  match code with
  | 0x02 => some (.channel index)
  | 0x03 => some (.fan index)
  | 0x04 => some (.role index)
  | 0x05 => some (.claims index)
  | 0x06 => some (.groupview index)
  | _ => none

/-- Is the index of a view accepted (R171, Table 11-1)? -/
def State.indexAccepted (s : State) : View → Bool
  | .channel i => decide (i ≤ 7)
  | .fan i => decide (i ≤ 5)
  | .role i | .claims i => decide (i < s.roles.length)
  | .groupview i => decide (i ≤ 15)
  | .station | .roster | .demand | .satboard | .notice | .counts => true

/-- Does the port acknowledge a byte of a write, after the bytes before it (R170)? It judges the byte as it arrives, in the
state of that event; after a byte in error every byte is in error. -/
def State.acknowledges (s : State) (before : List Byte) (byte : Byte) : Bool :=
  match before with
  | [] => takesIndex byte.toNat || (bareAction byte.toNat).isSome
  | [code] => ((indexedView code.toNat byte.toNat).map s.indexAccepted).getD false
  | _ => false

/-- The bytes of a write with their acknowledgements, after more bytes have arrived (R169, R170). -/
def State.judgeBytes (s : State) (held : List (Byte × Bool)) (bytes : List Byte) : List (Byte × Bool) :=
  bytes.foldl (fun held byte => held ++ [(byte, s.acknowledges (held.map Prod.fst) byte)]) held

/-- The action of a write that ends (R170): none if a byte was not acknowledged or a required byte is missing. -/
def writeAction (held : List (Byte × Bool)) : Option PortAction :=
  if held.all Prod.snd then
    match held.map Prod.fst with
    | [code] => bareAction code.toNat
    | [code, index] => (indexedView code.toNat index.toNat).map .select
    | _ => none
  else none

/-- The bytes that the write in progress has brought. -/
def Port.held (p : Port) : List (Byte × Bool) :=
  match p.transfer with
  | .write held => held
  | .idle | .read => []

/-- The port's own address (R169; 12, section 12.4); none in RESET_HELD. -/
def State.portAddress (s : State) : Option Nat := if s.started then s.ctl.offset.map (fun o => 0x36 + o) else none

/-- TAKE_NOTICE (R173, R181). -/
def State.takeHead (s : State) : State :=
  { s with notices := { s.notices with queue := s.notices.queue.drop 1, alertLine := decide (1 < s.notices.queue.length) } }

/-- A channel at CLEAR_LATCHES (R82): the latch is cleared in BELOW. -/
def TempChannel.latchCleared (c : TempChannel) : TempChannel := if c.watch = .below then { c with latch := false } else c

/-- CLEAR_LATCHES (R82, R174). -/
def State.clearLatches (s : State) : State :=
  { s with temps := s.temps.map TempChannel.latchCleared, notices := { s.notices with dropped := 0 } }

/-- The action of a write is taken (R171, R173 to R175). -/
def State.portAct (s : State) (straps : Straps) : PortAction → State
  | .select v => { s with port := { s.port with selection := v } }
  | .takeNotice => s.takeHead
  | .clearLatches => s.clearLatches
  | .restart => s.restart straps

/-- The STOP or repeated START that ends the transaction in progress (R169, R170): a write is taken, or is not. -/
def State.endTransfer (s : State) (straps : Straps) : State :=
  if s.started then
    let s' : State := { s with port := { s.port with transfer := .idle } }
    match writeAction s.port.held with
    | some action => s'.portAct straps action
    | none => s'
  else s

/-- Bytes of a write to the own address arrive (R169, R170): the port holds them and changes no other block. -/
def State.bringBytes (s : State) (bytes : List Byte) : State :=
  { s with port := { s.port with transfer := .write (s.judgeBytes s.port.held bytes) } }

/-- A whole write transaction to the own address (R169, R170); a transaction in progress is ended by its start. -/
def State.portWrite (s : State) (straps : Straps) (bytes : List Byte) : State :=
  if s.started then ((s.endTransfer s.ctl.straps).bringBytes bytes).endTransfer straps else s

/-- A selection of a view by its code byte and its index byte, if it takes one. -/
def State.selectView (s : State) (bytes : List Byte) : State := s.portWrite s.ctl.straps bytes

/-- The bytes a read returns (R172): the snapshot's, then 0. -/
def readBytes (snapshot : List Byte) (count : Nat) : List Byte := (List.range count).map (fun i => snapshot.getD i 0)

/-! ### Meanings -/

/-- RESTART (R159, R175): the straps are read again; not taken in RESET_HELD (R169). -/
def execRestart (straps : Straps) (s : State) : Host.Outcome State Fault Refusal := .next (s.portWrite straps [0x4F])

/-- TAKE_NOTICE (R173). -/
def execTakeNotice (s : State) : Host.Outcome State Fault Refusal := .next (s.portWrite s.ctl.straps [0x40])

/-- CLEAR_LATCHES (R82, R174). -/
def execClearLatches (s : State) : Host.Outcome State Fault Refusal := .next (s.portWrite s.ctl.straps [0x41])

/-- STATION_VIEW (R171). -/
def execStationView (s : State) : Host.Outcome State Fault Refusal := .next (s.selectView [0x01])

/-- CHANNEL_VIEW (R171). -/
def execChannelView (index : Byte) (s : State) : Host.Outcome State Fault Refusal := .next (s.selectView [0x02, index])

/-- FAN_VIEW (R171). -/
def execFanView (index : Byte) (s : State) : Host.Outcome State Fault Refusal := .next (s.selectView [0x03, index])

/-- ROLE_VIEW (R171). -/
def execRoleView (index : Byte) (s : State) : Host.Outcome State Fault Refusal := .next (s.selectView [0x04, index])

/-- CLAIMS_VIEW (R171). -/
def execClaimsView (index : Byte) (s : State) : Host.Outcome State Fault Refusal := .next (s.selectView [0x05, index])

/-- GROUPVIEW_VIEW (R171). -/
def execGroupviewView (index : Byte) (s : State) : Host.Outcome State Fault Refusal := .next (s.selectView [0x06, index])

/-- ROSTER_VIEW (R171). -/
def execRosterView (s : State) : Host.Outcome State Fault Refusal := .next (s.selectView [0x07])

/-- DEMAND_VIEW (R171). -/
def execDemandView (s : State) : Host.Outcome State Fault Refusal := .next (s.selectView [0x08])

/-- SATBOARD_VIEW (R171). -/
def execSatboardView (s : State) : Host.Outcome State Fault Refusal := .next (s.selectView [0x09])

/-- NOTICE_VIEW (R171). -/
def execNoticeView (s : State) : Host.Outcome State Fault Refusal := .next (s.selectView [0x0A])

/-- COUNTS_VIEW (R171). -/
def execCountsView (s : State) : Host.Outcome State Fault Refusal := .next (s.selectView [0x0B])

/-- WRITE_REFUSED (R169, R170): a write to another address, or one with an error or ended early, changes nothing; bytes that
the port accepts are held, and taken when the write ends (log entry 19). -/
def execWriteRefused (address : BitVec 7) (bytes : List Byte) (s : State) (ended : Bool := true) :
    Host.Outcome State Fault Refusal :=
  .next <|
    if s.portAddress = some address.toNat then
      let s' := s.bringBytes bytes
      if ended then s'.endTransfer s.ctl.straps else s'
    else s.endTransfer s.ctl.straps

/-- READ_TRANSACTION (R172): the snapshot of the selected view, and the bytes returned from it; a write that the read's
repeated START ends is taken before. -/
def execReadTransaction (address : BitVec 7) (count : Nat) (s : State) : Host.Outcome State Fault Refusal :=
  .next <|
    let s' := s.endTransfer s.ctl.straps
    if s'.portAddress = some address.toNat then
      let snapshot := s'.viewBytes s'.port.selection
      { s' with port := { s'.port with snapshot := snapshot, sent := readBytes snapshot count, transfer := .read } }
    else s'

end Sys2Proof.Machine
end

