-- ==== Sys2Proof/Machine/Dispatch.lean ====
section
/-! DEFINITION. Which meaning each command has: one arm per constructor of Instr. -/

namespace Sys2Proof.Machine

/-- The effect of a command on everything but the queue of commands. -/
def exec (i : Instr) (s : State) : Host.Outcome State Fault Refusal :=
  match i with
  | .resetHeldEntry delivered => Sys2Proof.Machine.execResetHeldEntry s delivered
  | .resetHeldEnd straps => Sys2Proof.Machine.execResetHeldEnd straps s
  | .memoryAnswerTimeout => Sys2Proof.Machine.execMemoryAnswerTimeout s
  | .slotReadComplete bytes status ended => Sys2Proof.Machine.execSlotReadComplete bytes s status ended
  | .joinWindowExpiry => Sys2Proof.Machine.execJoinWindowExpiry s
  | .roundComplete measurements => Sys2Proof.Machine.execRoundComplete measurements s
  | .criticalAlertRepeatExpiry channel => Sys2Proof.Machine.execCriticalAlertRepeatExpiry channel s
  | .claimExpiry role station => Sys2Proof.Machine.execClaimExpiry role station s
  | .joinGraceEnd role => Sys2Proof.Machine.execJoinGraceEnd role s
  | .peakExpiry role => Sys2Proof.Machine.execPeakExpiry role s
  | .tachMeasurement channel edges => Sys2Proof.Machine.execTachMeasurement channel edges s
  | .rampTimerExpiry role => Sys2Proof.Machine.execRampTimerExpiry role s
  | .stopDelayExpiry role => Sys2Proof.Machine.execStopDelayExpiry role s
  | .spinUpExpiry role => Sys2Proof.Machine.execSpinUpExpiry role s
  | .statusTimerExpiry role => Sys2Proof.Machine.execStatusTimerExpiry role s
  | .silenceTimerExpiry role => Sys2Proof.Machine.execSilenceTimerExpiry role s
  | .otherSilenceExpiry role => Sys2Proof.Machine.execOtherSilenceExpiry role s
  | .displacedHoldExpiry role => Sys2Proof.Machine.execDisplacedHoldExpiry role s
  | .handbackWaitExpiry role => Sys2Proof.Machine.execHandbackWaitExpiry role s
  | .refreshTimerExpiry => Sys2Proof.Machine.execRefreshTimerExpiry s
  | .viewStale group => Sys2Proof.Machine.execViewStale group s
  | .saturationAlertRepeatExpiry group => Sys2Proof.Machine.execSaturationAlertRepeatExpiry group s
  | .boardRenewalExpiry group station => Sys2Proof.Machine.execBoardRenewalExpiry group station s
  | .rosterSilent station => Sys2Proof.Machine.execRosterSilent station s
  | .rosterLoss station => Sys2Proof.Machine.execRosterLoss station s
  | .linkSilenceExpiry => Sys2Proof.Machine.execLinkSilenceExpiry s
  | .demandFrame sender items => Sys2Proof.Machine.execDemandFrame sender items s
  | .statusFrame sender content => Sys2Proof.Machine.execStatusFrame sender content s
  | .takeoverFrame sender group epoch => Sys2Proof.Machine.execTakeoverFrame sender group epoch s
  | .handbackFrame sender group epochSeen => Sys2Proof.Machine.execHandbackFrame sender group epochSeen s
  | .yieldFrame sender group newEpoch addressed level => Sys2Proof.Machine.execYieldFrame sender group newEpoch addressed level s
  | .alertFrame sender kind subject value => Sys2Proof.Machine.execAlertFrame sender kind subject value s
  | .badFrameReceived frame => Sys2Proof.Machine.execBadFrameReceived frame s
  | .pulseError pulse => Sys2Proof.Machine.execPulseError pulse s
  | .lineIdle peerFirst => Sys2Proof.Machine.execLineIdle s peerFirst
  | .contentionLoss cell => Sys2Proof.Machine.execContentionLoss cell s
  | .overlap mismatch => Sys2Proof.Machine.execOverlap mismatch s
  | .lineStuck => Sys2Proof.Machine.execLineStuck s
  | .frameTransmitted => Sys2Proof.Machine.execFrameTransmitted s
  | .restart straps => Sys2Proof.Machine.execRestart straps s
  | .takeNotice => Sys2Proof.Machine.execTakeNotice s
  | .clearLatches => Sys2Proof.Machine.execClearLatches s
  | .stationView => Sys2Proof.Machine.execStationView s
  | .channelView index => Sys2Proof.Machine.execChannelView index s
  | .fanView index => Sys2Proof.Machine.execFanView index s
  | .roleView index => Sys2Proof.Machine.execRoleView index s
  | .claimsView index => Sys2Proof.Machine.execClaimsView index s
  | .groupviewView index => Sys2Proof.Machine.execGroupviewView index s
  | .rosterView => Sys2Proof.Machine.execRosterView s
  | .demandView => Sys2Proof.Machine.execDemandView s
  | .satboardView => Sys2Proof.Machine.execSatboardView s
  | .noticeView => Sys2Proof.Machine.execNoticeView s
  | .countsView => Sys2Proof.Machine.execCountsView s
  | .writeRefused address bytes ended => Sys2Proof.Machine.execWriteRefused address bytes s ended
  | .readTransaction address count => Sys2Proof.Machine.execReadTransaction address count s
  | .startMark => Sys2Proof.Machine.execStartMark s

end Sys2Proof.Machine
end

