-- ==== Sys2Proof/Safety.lean ====
section
/-! DEFINITION. What the statements speak of: the invariants of the station, and the conditions a command meets. -/

namespace Sys2Proof.Machine

/-! ### Conditions -/

/-- The command that delivers a frame of a sender. -/
def frameCommand (sender : Nat) : Payload → Instr
  | .demand items => .demandFrame sender items
  | .status c => .statusFrame sender c
  | .takeover g e => .takeoverFrame sender g e
  | .handback g e => .handbackFrame sender g e
  | .yield g e a l => .yieldFrame sender g e a l
  | .alert k n v => .alertFrame sender k n v

/-- A valid frame of a peer ends at the receiver in JOINING or RUNNING (R128, R138, R140). -/
def TakesFrame (s : State) (sender : Nat) (p : Payload) : Prop :=
  s.receiving = true ∧ s.transmits = true ∧ stationOk sender = true ∧ p.wf = true ∧ s.ctl.station ≠ some sender

/-- Between events no STATUS is due (log entry 7). -/
def Settled (s : State) : Prop := ∀ role ∈ s.roles, role.drive.statusDue = false

/-- The queue holds an entry made with a payload at or after a stamp. -/
def Queued (s : State) (stamp : Nat) (p : Payload) : Prop := ∃ e ∈ s.txq, e.payload = p ∧ stamp ≤ e.stamp

/-- The station state after the straps are read (R160): slot A is being read, and its first query has 100 ms. -/
def loadingWith (c : Control) (straps : Straps) (now : Nat) : Control :=
  { c with
    state := .loading, straps := straps, station := some straps.sn.toNat, offset := some straps.adr.toNat, startAt := now,
    load := some ⟨.a, none, .running (now + 100), false, [], []⟩ }

/-- The outcome of a slot's judgement (R161, R163): after slot A slot B is read, with MSEL released and 100 ms of its own; after
slot B the higher generation of two valid slots is taken, slot A on equal ones; the one valid slot, with IMAGE_SLOT_BAD for the
other; with no valid slot the station faults with slot A's cause. -/
def SlotTaken (s : State) (l : Load) (j : SlotResult × Option Image) (o : Host.Outcome State Fault Refusal) : Prop :=
  let value (cause : Cause) (item : Nat) : Option Int := some ((causeCode cause * 256 + item : Nat) : Int)
  let s' : State := { s with ctl := { s.ctl with slotB := j.1, load := none } }
  (l.slot = .a →
      o = .next { s with ctl := { s.ctl with
        slotA := j.1, load := some ⟨.b, j.2, .running (s.now + 100), false, [], []⟩ } })
    ∧ (l.slot = .b →
        (∀ ia ib, l.imageA = some ia → j.2 = some ib →
            o = .next (if ia.generation < ib.generation then s'.enterJoining .b ib else s'.enterJoining .a ia))
          ∧ (∀ ia cause item, l.imageA = some ia → j = (.bad cause item, none) →
              o = .next ((s'.post .imageSlotBad 1 (value cause item)).enterJoining .a ia))
          ∧ (∀ ib cause item, l.imageA = none → j.2 = some ib → s.ctl.slotA = .bad cause item →
              o = .next ((s'.post .imageSlotBad 0 (value cause item)).enterJoining .b ib))
          ∧ (∀ cause item, l.imageA = none → j.2 = none → s.ctl.slotA = .bad cause item →
              o = .next (s'.enterFaulted cause item)))

/-! ### What a target, a change of causes and a discard do -/

/-- A target at a drive record (R36, R38 to R41), its STATUS apart: one that is unchanged, and one handed on in RELEASED,
SPIN_UP or FAILSAFE, is held; in TRACKING it acts on the ramp timer and on the stop-delay timer; in STOPPED a target above 0
begins SPIN_UP at the larger of start-up level and target. -/
def TargetTaken (now : Nat) (cfg : RoleCfg) (old new : Drive) : Prop :=
  let held : Drive := { old with target := new.target, statusTimer := new.statusTimer, statusDue := new.statusDue }
  (new.target = old.target ∨ old.state = .released ∨ old.state = .spinUp ∨ old.state = .failsafe → new = held)
    ∧ (new.target ≠ old.target → old.state = .tracking →
        new = { held with ramp := new.ramp, stopDelay := new.stopDelay }
          ∧ (old.level < new.target →
              new.ramp = match old.ramp with
                | .up due => .up due
                | .down _ | .stopped => .up (now + cfg.upMs))
          ∧ (new.target < old.level →
              new.ramp = match old.ramp with
                | .down due => .down due
                | .up _ | .stopped => .down (now + cfg.downMs))
          ∧ (new.target = old.level → new.ramp = .stopped)
          ∧ (0 < new.target → new.stopDelay = .stopped)
          ∧ (new.target = 0 → old.stopDelay = .stopped → new.stopDelay = .running (now + cfg.stopDelayMs)))
    ∧ (new.target ≠ old.target → old.state = .stopped → 0 < new.target →
        new = { held with
          state := .spinUp, spinUpLevel := max cfg.startUp new.target, level := max cfg.startUp new.target, ramp := .stopped
          spinUp := .running (now + cfg.spinUpMs), stopDelay := .stopped })

/-- A change of the FAILSAFE causes, and of the condition, at a drive record (R42 to R44), its STATUS apart: the first cause
takes TRACKING, STOPPED and SPIN_UP to FAILSAFE at 100 with the timers stopped; the last one gone takes FAILSAFE to TRACKING at
100, with the ramp towards the held target and the stop delay if that is 0; else the drive goes on. -/
def CausesTaken (now : Nat) (cfg : RoleCfg) (old new : Drive) : Prop :=
  let held : Drive := { old with
    condition := new.condition, causes := new.causes, statusTimer := new.statusTimer, statusDue := new.statusDue }
  (new.causes = old.causes ∨ old.state = .released ∨ (old.state = .failsafe ∧ new.causes.empty = false) → new = held)
    ∧ (new.causes ≠ old.causes → old.state ≠ .released → old.state ≠ .failsafe → new.causes.empty = false →
        new = { held with
          state := .failsafe, level := 100, ramp := .stopped, spinUp := .stopped, stopDelay := .stopped })
    ∧ (new.causes ≠ old.causes → old.state = .failsafe → new.causes.empty = true →
        new = { held with
          state := .tracking, level := 100, spinUp := .stopped
          ramp := if 100 < old.target then .up (now + cfg.upMs)
            else if old.target < 100 then .down (now + cfg.downMs) else .stopped
          stopDelay := if old.target = 0 then .running (now + cfg.stopDelayMs) else .stopped })

/-- A driven role after a change of its drive state or condition (R33, R45, R46): its outputs at its level, its status timer
restarted, and a STATUS with the present content queued, where the queue has room and holds none of the group. -/
def DriveReported (s t : State) (room : Prop) (r : Nat) (role : Role) : Prop :=
  (∀ f ∈ t.fans, f.role = some r → f.output = some role.drive.level)
    ∧ role.drive.statusTimer = .running (t.now + 1000)
    ∧ (s.transmits = true → room → (∀ e ∈ s.txq, e.isFor .status role.cfg.group = false) →
        Queued t s.stamp (.status (t.statusContent role)))

/-- The target of a role taken by its drive, from a state to the end of the event (R36 to R41, R45). -/
def TargetHanded (s t : State) (room : Prop) (r : Nat) (role role' : Role) : Prop :=
  TargetTaken t.now role.cfg role.drive role'.drive
    ∧ (role.drive.state = .stopped → 0 < role'.drive.target → role'.drive.target ≠ role.drive.target →
        DriveReported s t room r role')

/-- A role told of a discarded frame (R68, Table 3-6): a discarded TAKEOVER takes CLAIMING back to WATCH and starts the handback
wait in RECLAIM; a discarded HANDBACK starts that wait as though it had been transmitted (R58: the forcing mark clear); any
other frame changes nothing. A timer started while the station is ISOLATED stands frozen (R69). -/
def toldOfDiscard (s : State) (p : Payload) (role : Role) : Role :=
  let start (ms : Nat) : Timer := if s.peers.isolated then .frozen ms else .running (s.now + ms)
  let sh := role.ship
  let told : Ship := match p with
    | .takeover g _ =>
      if g ≠ role.cfg.group then sh
      else if sh.machine = .claiming then { sh with machine := .watch, silence := start s.takeoverMs }
      else if sh.machine = .reclaim then { sh with wait := start 1000 } else sh
    | .handback g _ =>
      if g = role.cfg.group ∧ sh.machine = .reclaim ∧ sh.forcing = .clear then { sh with wait := start 1000 } else sh
    | .demand _ | .status _ | .yield _ _ _ _ | .alert _ _ _ => sh
  { role with ship := told }

/-! ### The claims of a DEMAND frame (R4, R8, R11, R15, R17, R18) -/

/-- The level of a claim. -/
def claimLevel (e : ClaimEntry) : Nat := (e.live.map (·.level)).getD 0

/-- Is an entry a candidate for eviction by a claim at a level (R17)? -/
def evictable (level : Nat) (e : ClaimEntry) : Bool := e.kind == .ordinary && decide (claimLevel e < level)

/-- A table after a new claim of a station for which there is no room: the lowest candidate, the frontmost of equals, gives
way (R17); without a candidate a claim above 0 folds into the unrecorded peak, and a claim at 0 changes nothing (R18). -/
def ClaimExhausted (now n : Nat) (role : Role) (item : DemandItem) (claims : ClaimTable) : Prop :=
  (∀ (i : Nat) (e : ClaimEntry), role.claims.entries[i]? = some e → evictable item.level e = true →
      (∀ (j : Nat) (x : ClaimEntry), role.claims.entries[j]? = some x → evictable item.level x = true →
        claimLevel e < claimLevel x ∨ (claimLevel e = claimLevel x ∧ i ≤ j)) →
      claims = { role.claims with
        entries := role.claims.entries.filter (·.station ≠ e.station)
          ++ [⟨n, .ordinary, some ⟨item.level, item.reason, now⟩, false⟩] })
    ∧ (role.claims.entries.any (evictable item.level) = false →
        claims = if item.level = 0 then role.claims
          else { role.claims with
            peak := max role.claims.peak item.level, peakTimer := .running (now + role.cfg.claimMs) })

/-- Does a role's table have room for a new claim, with so many entries in all tables (R4, R17)? -/
def roomFor (pool : Nat) (role : Role) : Bool := decide (pool < 48) && decide (role.claims.entries.length < 16)

/-- The entries in all tables when a DEMAND has withdrawn its sender's ORDINARY entries from the groups that it does not
list (R8, R10). -/
def poolWithdrawn (s : State) (n : Nat) (items : List DemandItem) : Nat :=
  (s.roles.map (fun role =>
    if items.all (fun i => i.group != role.cfg.group) && (role.claims.find n).any (fun e => e.kind == .ordinary)
    then role.claims.entries.length - 1 else role.claims.entries.length)).sum

/-- The role whose group a listed entry names (R8). -/
def listedRole (s : State) (item : DemandItem) : Option Role := s.roles.find? (fun role => role.cfg.group == item.group)

/-- The entries in all tables after one more listed entry: a new claim that finds room adds one (R11); a refresh, an exchange
and the unrecorded peak leave the count (R9, R17, R18). -/
def poolAfter (s : State) (n pool : Nat) (item : DemandItem) : Nat :=
  match listedRole s item with
  | none => pool
  | some role => if role.claims.find n = none ∧ roomFor pool role = true then pool + 1 else pool

/-- The entries in all tables that the listed entry of a number finds: after the withdrawals and the entries before it (R8). -/
def poolAt (s : State) (n : Nat) (items : List DemandItem) (i : Nat) : Nat :=
  (items.take i).foldl (poolAfter s n) (poolWithdrawn s n items)

/-- The notice of one listed entry: CONTRIBUTOR_BACK of a contributor whose loss was reported (R15), or TABLE_FULL of a claim
that begins an unrecorded peak (R18). -/
def itemNotice (s : State) (n pool : Nat) (item : DemandItem) : Option (NoticeKind × Nat × Int) :=
  match listedRole s item with
  | none => none
  | some role =>
    match role.claims.find n with
    | some e => if e.kind = .required ∧ e.lossReported = true then some (.contributorBack, item.group, n) else none
    | none =>
      if roomFor pool role = false ∧ role.claims.entries.any (evictable item.level) = false ∧ 0 < item.level ∧ role.claims.peak = 0
      then some (.tableFull, item.group, item.level) else none

/-- The notices of a DEMAND at the claim tables, in their order: CONTRIBUTOR_LOST of the contributors that it withdraws after
the grace, in role order (log entry 6), and then those of its listed entries (R8, R10, R12, R15, R18). -/
def demandNotices (s : State) (n : Nat) (items : List DemandItem) : List (NoticeKind × Nat × Int) :=
  (s.roles.filter (fun role => items.all (fun i => i.group != role.cfg.group)
    && (role.claims.find n).any (fun e => e.kind == .required && e.live.isSome && role.claims.graceEnded))).map
      (fun role => (NoticeKind.contributorLost, role.cfg.group, (n : Int)))
  ++ (items.mapIdx (fun i item => itemNotice s n (poolAt s n items i) item)).filterMap id

/-! ### The content of an image (R162, Table 10-3) -/

/-- Item 1, station timing, at a station number (Tables 3-1, 5-3, 6-1, 9-1; R120). -/
def TimingFits (own : Nat) (t : Timing) : Prop :=
  (5 ≤ t.refreshTenths ∧ t.refreshTenths ≤ 50) ∧ (1 ≤ t.threshold ∧ t.threshold ≤ 20) ∧ (3 ≤ t.isolationS ∧ t.isolationS ≤ 30)
    ∧ (2 ≤ t.takeoverS ∧ t.takeoverS ≤ 10) ∧ (10 ≤ t.saturationS ∧ t.saturationS ≤ 600) ∧ (1 ≤ t.margin ∧ t.margin ≤ 30)
    ∧ t.enclosure.length ≤ 29 ∧ t.enclosure.Nodup ∧ ∀ n ∈ t.enclosure, 1 ≤ n ∧ n ≤ 30 ∧ n ≠ own

/-- Items 2 to 9, a channel record with its notice mode code (R73): an unused one is not examined. -/
def ChannelFits (modeCode : Nat) (record : Option ChannelCfg) : Prop :=
  ∀ c, record = some c →
    (-10 ≤ c.offset ∧ c.offset ≤ 10) ∧ (-40 ≤ c.rel ∧ c.rel < c.high ∧ c.high < c.crit ∧ c.crit ≤ 150) ∧ modeCode ≠ 3

/-- Items 10 to 15, a fan channel record (Table 2-1). -/
def FanFits (f : FanCfg) : Prop := f.pulses ∈ [1, 2, 4] ∧ f.minSpeed ≤ 25000

/-- Items 16 to 19, a drive role with its two counts, after earlier roles (R1, R26, R50; Tables 1-1, 2-5, 3-1). -/
def RoleFits (own channelCount requiredCount : Nat) (earlier : List RoleCfg) (r : RoleCfg) : Prop :=
  (r.group ≤ 15 ∧ ∀ q ∈ earlier, q.group ≠ r.group)
    ∧ (1 ≤ channelCount ∧ channelCount ≤ 4) ∧ r.channels.Nodup
    ∧ (∀ c ∈ r.channels, c ≤ 5 ∧ ∀ q ∈ earlier, c ∉ q.channels)
    ∧ (1 ≤ r.rampStep ∧ r.rampStep ≤ 10) ∧ (50 ≤ r.upMs ∧ r.upMs ≤ 1000) ∧ (100 ≤ r.downMs ∧ r.downMs ≤ 5000)
    ∧ (20 ≤ r.startUp ∧ r.startUp ≤ 100) ∧ (500 ≤ r.spinUpMs ∧ r.spinUpMs ≤ 10000)
    ∧ (1000 ≤ r.stopDelayMs ∧ r.stopDelayMs ≤ 60000) ∧ (10 ≤ r.checkLevel ∧ r.checkLevel ≤ 100) ∧ r.floor ≤ 100
    ∧ (2000 ≤ r.claimMs ∧ r.claimMs ≤ 20000) ∧ r.lostLevel ≤ 100
    ∧ (∀ n, r.partner = some n → 1 ≤ n ∧ n ≤ 30 ∧ n ≠ own)
    ∧ requiredCount ≤ 4 ∧ r.required.Nodup ∧ ∀ n ∈ r.required, 1 ≤ n ∧ n ≤ 30 ∧ n ≠ own

/-- Items 20 to 27, a demand group with its neighbour count, after the channels and earlier groups (R90; Tables 5-1, 5-2). -/
def DemandFits (neighbourCount : Nat) (channels : List (Option ChannelCfg)) (earlier : List DemandCfg) (d : DemandCfg) : Prop :=
  (d.group ≤ 15 ∧ ∀ q ∈ earlier, q.group ≠ d.group)
    ∧ (1 ≤ d.curves.length ∧ d.curves.length ≤ 8) ∧ (d.curves.map (·.channel)).Nodup
    ∧ (∀ k ∈ d.curves, (∃ c, channels[k.channel]? = some (some c))
        ∧ (-40 ≤ k.t1 ∧ k.t1 < k.t2 ∧ k.t2 < k.t3 ∧ k.t3 < k.t4 ∧ k.t4 ≤ 150)
        ∧ (k.l0 ≤ k.l1 ∧ k.l1 ≤ k.l2 ∧ k.l2 ≤ k.l3 ∧ k.l3 ≤ k.l4 ∧ k.l4 ≤ 100))
    ∧ neighbourCount ≤ 4 ∧ d.neighbours.Nodup ∧ (∀ g ∈ d.neighbours, g ≤ 15 ∧ g ≠ d.group)
    ∧ d.boost ≤ 50 ∧ d.faultLevel ≤ 100

/-- The placeholders (R4): at most 16 for the last of the roles, and at most 48 for all of them. -/
def RoomFits (demands : List DemandCfg) (roles : List RoleCfg) : Prop :=
  let count (r : RoleCfg) : Nat := (if ∃ d ∈ demands, d.group = r.group then 1 else 0) + r.required.length
  (roles.map count).sum ≤ 48 ∧ ∀ r, roles.getLast? = some r → count r ≤ 16

/-- The content checks in the order in which they are made, each with its item index and its condition (R162): items 1 to 27,
then the placeholder count of each role. -/
def contentItems (own : Nat) (b : List Byte) : List (Nat × Prop) :=
  let img := readImage b
  [(1, TimingFits own img.timing)]
    ++ (List.range 8).map (fun i => (2 + i, ChannelFits (imageByte b (channelAt b i) / 2 % 4) (readChannel b i)))
    ++ (List.range 6).map (fun i => (10 + i, FanFits (readFan b i)))
    ++ img.roles.mapIdx (fun i r =>
        (16 + i, RoleFits own (imageByte b (roleAt b i + 3)) (imageByte b (roleAt b i + 20)) (img.roles.take i) r))
    ++ img.demands.mapIdx (fun i d =>
        (20 + i, DemandFits (imageByte b (demandAt b i + 1)) img.channels (img.demands.take i) d))
    ++ (List.range img.roles.length).map (fun i => (16 + i, RoomFits img.demands (img.roles.take (i + 1))))

/-! ### The service port -/

/-- The state in which a new transaction at the service port begins: its START has ended the one in progress (R169, R170). -/
def newTransaction (s : State) : State := s.endTransfer s.ctl.straps

/-- A field of a view: its width in bytes and its value (Table 12-4). -/
abbrev Field := Nat × Int

/-- The bytes of a field, most significant first, a negative value in two's complement (12, opening; R183). -/
def Field.bytes : Nat → Int → List Byte
  | 0, _ => []
  | w + 1, v => BitVec.ofInt 8 (v / 256 ^ w) :: Field.bytes w v

/-- Fields laid out one after another. -/
def laidOut (fs : List Field) : List Byte := fs.flatMap (fun f => Field.bytes f.1 f.2)

/-- One byte, of a number. -/
def one (n : Nat) : Field := (1, n)

/-- Two bytes, of a number. -/
def two (n : Nat) : Field := (2, n)

/-- A mark: 1 or 0. -/
def mark (b : Bool) : Field := one (if b then 1 else 0)

/-- The time left on a timer, in tenths rounded up (R183), within its two bytes. -/
def timeLeft (now : Nat) (t : Timer) : Field :=
  two (min 65535 (((match t with
    | .stopped => 0
    | .running due => due - now
    | .frozen left => left) + 99) / 100))

/-- A field with a presence byte (R183). -/
def present (v : Option Int) : List Field :=
  match v with
  | some x => [one 1, (2, x)]
  | none => [one 0, two 0]

/-- A slot's result and its item index. -/
def slotFields (r : SlotResult) : List Field :=
  match r with
  | .notRead => [one 0, one 0]
  | .valid => [one 7, one 0]
  | .bad cause item => [one (causeCode cause), one item]

/-- A notice record (Table 12-5). -/
def noticeFields (n : Notice) : List Field :=
  [two n.seq.toNat, two n.time, one (noticeCode n.kind), one n.subject, mark n.value.isSome, (2, n.value.getD 0)]

/-- The fields of a view, in the order of Table 12-4. -/
def viewFields (s : State) : View → List Field
  | .station =>
    [one (stateCode s.ctl.state), one ((s.ctl.cause.map causeCode).getD 0), one s.ctl.item, one (s.ctl.station.getD 255),
      one (s.ctl.offset.getD 0), two s.timeBase]
    ++ (match s.ctl.taken with
        | none => [one 255, two 0]
        | some (.a, generation) => [one 0, two generation]
        | some (.b, generation) => [one 1, two generation])
    ++ slotFields s.ctl.slotA ++ slotFields s.ctl.slotB ++ [timeLeft s.now s.ctl.joinWindow]
  | .channel i =>
    let c := s.temps.getD i .reset
    [mark c.used, one (healthCode c.health)] ++ present c.reading
    ++ [one (prevCode c.prev), one (watchCode c.watch), mark c.latch, one c.critCount, mark c.critical,
        timeLeft s.now c.repeatTimer, (1, c.cfg.offset), (2, c.cfg.high), (2, c.cfg.rel), (2, c.cfg.crit),
        one (modeCode c.cfg.mode)]
  | .fan i =>
    let f := s.fans.getD i .reset
    [one (f.role.getD 255), mark f.output.isSome, one (f.output.getD 0), two f.speed, one (fanHealthCode f.health),
      mark f.faultReported]
  | .role i =>
    match s.roles[i]? with
    | none => []
    | some role =>
      let d := role.drive
      let sh := role.ship
      [one (driveCode d.state), one d.target, one d.level, one (conditionCode d.condition),
        one ((if d.causes.isolated then 1 else 0) + (if d.causes.groupFailed then 2 else 0) + (if d.causes.critical then 4 else 0)),
        timeLeft s.now d.spinUp, timeLeft s.now d.stopDelay, one (roleCode role.cfg.kind), one (role.cfg.partner.getD 0),
        one (machineCode sh.machine)]
      ++ present (sh.epoch.map (fun e => (e.toNat : Int))) ++ present (sh.known.map (fun e => (e.toNat : Int)))
      ++ (match sh.other with
          | none => [one 0, two 0]
          | some (n, e) => [one n, two e.toNat])
      ++ [one sh.attempts, one (forcingCode sh.forcing), timeLeft s.now sh.silence, timeLeft s.now sh.otherSilence,
          timeLeft s.now sh.hold, timeLeft s.now sh.wait]
  | .claims i =>
    match s.roles[i]? with
    | none => []
    | some role =>
      [one role.claims.entries.length, one role.claims.peak, timeLeft s.now role.claims.peakTimer]
      ++ (role.claims.entries.mapIdx (fun k e =>
          [one (k + 1), one e.station, one (claimKindCode e.kind)]
          ++ (match e.live with
              | none => [one 1, one 0, one 0, two 0]
              | some l => [one 0, one l.level, one (reasonCode l.reason),
                  two (if e.kind = .own then 0 else min 65535 ((s.now - l.since) / 100))]))).flatten
  | .groupview g =>
    match s.view g with
    | none => List.replicate 19 (one 0) ++ [one 1]
    | some v =>
      [one 1, one v.driver, two v.epoch.toNat, one (roleCode v.role), one (driveCode v.drive), one v.level,
        one (conditionCode v.condition), one v.speeds.length, two (v.speeds.getD 0 0), two (v.speeds.getD 1 0),
        two (v.speeds.getD 2 0), two (v.speeds.getD 3 0), two (min 65535 ((s.now - v.takenAt) / 100)), mark v.stale]
  | .roster =>
    [one s.peers.roster.length, mark s.peers.isolated, mark s.solitary, one ((s.timing.map (·.isolationS)).getD 0),
      timeLeft s.now s.peers.linkTimer]
    ++ (s.peers.roster.mapIdx (fun k e =>
        [one (k + 1), one e.station, two e.firstHeard, two e.lastHeard, two (min 300 ((s.now - e.heardAt) / 100)),
          mark e.silent])).flatten
  | .demand =>
    [one ((s.timing.map (·.threshold)).getD 0), one ((s.timing.map (·.refreshTenths)).getD 0), timeLeft s.now s.demand.refresh,
      one (if s.demandOnWire then 2 else if s.demandWaits then 1 else 0), one s.demand.entries.length]
    ++ s.demand.entries.flatMap (fun d =>
        [one d.cfg.group, one d.level, one (reasonCode d.reason), one d.curvePart, one d.faultPart, mark d.boosted]
        ++ (match d.last with
            | none => [one 0, one 0, one 0]
            | some (level, reason) => [one 1, one level, one (reasonCode reason)])
        ++ [one (satCode d.sat), two d.satCount])
  | .satboard =>
    one ((if s.shutdown then 1 else 0) + (if s.throttle then 2 else 0)
        + (if (s.timing.map (·.shareThrottle)).getD false then 4 else 0))
    :: (List.range 16).flatMap (fun g =>
        one (s.peers.board.getD g []).length
        :: (s.peers.board.getD g []).flatMap (fun m => [one m.station, timeLeft s.now (.running m.due)]))
    ++ one s.peers.critPeers.length
    :: s.peers.critPeers.flatMap (fun e => [one e.station, one e.channel, (2, e.reading), mark e.listed])
  | .notice =>
    (match s.notices.queue with
      | [] => [one 1] ++ List.replicate 9 (one 0)
      | n :: _ => [one 0] ++ noticeFields n)
    ++ [one s.notices.queue.length, two s.notices.next.toNat, one s.notices.dropped]
  | .counts =>
    [two s.badCount, one s.notices.dropped, one s.notices.queue.length, one s.txq.length, one (lineCode s.line.state),
      mark s.line.stuckOpen, mark s.ownOnWire, one ((s.txq.head?.map (·.overlaps)).getD 0)]
    ++ s.txq.flatMap (fun e => [one (kindCode (payloadKind e.payload)), one (payloadSubject e.payload)])

/-- The codes of views and notices (Tables 11-3, 12-5, 12-6). -/
def CodesOfViews : Prop :=
  [StationState.resetHeld, .loading, .joining, .running, .faulted].map stateCode = [0, 1, 2, 3, 4]
    ∧ [Cause.badStrap, .memoryAbsent, .imageCrc, .imageFormat, .imageContent, .duplicateStation].map causeCode = [1, 2, 3, 4, 5, 6]
    ∧ [Health.valid, .openCircuit, .shorted].map healthCode = [0, 1, 2]
    ∧ [none, some Health.valid, some .openCircuit, some .shorted].map prevCode = [0, 1, 2, 3]
    ∧ [Watch.below, .above].map watchCode = [0, 1] ∧ [NoticeMode.quiet, .rise, .riseFall].map modeCode = [0, 1, 2]
    ∧ [FanHealth.unchecked, .ok, .slow, .failed].map fanHealthCode = [0, 1, 2, 3]
    ∧ [DriveState.spinUp, .tracking, .stopped, .failsafe, .released].map driveCode = [0, 1, 2, 3, 4]
    ∧ [Condition.normal, .degraded, .failed].map conditionCode = [0, 1, 2]
    ∧ [RoleKind.primary, .standby].map roleCode = [0, 1]
    ∧ [RoleMachine.listen, .own, .displaced, .reclaim, .watch, .claiming, .act].map machineCode = [0, 1, 2, 3, 4, 5, 6]
    ∧ [Forcing.clear, .silence, .attempts].map forcingCode = [0, 1, 2]
    ∧ [ClaimKind.own, .required, .ordinary].map claimKindCode = [0, 1, 2]
    ∧ [Reason.curve, .channelFault, .compensation].map reasonCode = [0, 1, 2]
    ∧ [SatState.clear, .counting, .saturated].map satCode = [0, 1, 2]
    ∧ [LineState.notIdle, .idle, .frame, .stuck].map lineCode = [0, 1, 2, 3]
    ∧ [FrameKind.alert, .takeover, .handback, .yield, .status, .demand].map kindCode = [1, 2, 3, 4, 5, 6]
    ∧ [NoticeKind.restarted, .imageSlotBad, .joined, .fault, .limitRise, .limitFall, .critical, .channelFault, .channelRecovered,
        .fanFault, .fanRecovered, .contributorLost, .contributorBack, .tableFull, .takeover, .handbackDone, .displaced,
        .driverConflict, .saturated, .saturationCleared, .peerCritical, .peerSaturated, .peerJoined, .peerLost, .isolated,
        .rejoined, .linkStuck, .txOverflow].map noticeCode = (List.range 28).map (· + 1)

/-! ### Invariants -/

/-- The notice queue (R176, R177, R181): at most 16 notices, numbered one after another up to the next sequence number;
the dropped count stops at 255; ALERT is asserted exactly while a notice is held. -/
def NoticesOk (s : State) : Prop :=
  s.notices.queue.length ≤ 16 ∧ s.notices.dropped ≤ 255
    ∧ (s.notices.alertLine = true ↔ s.notices.queue ≠ [])
    ∧ ∀ i n, s.notices.queue[i]? = some n → n.seq + BitVec.ofNat 16 (s.notices.queue.length - i) = s.notices.next

/-- One entry of the transmit queue: overlap count (R131), queued-at instant, and a successor only for a STATUS on the wire (R144). -/
def EntryOk (stamp : Nat) (e : QEntry) : Prop :=
  e.overlaps ≤ 2 ∧ e.stamp < stamp
    ∧ ∀ c n, e.successor = some (c, n) → e.onWire = true ∧ e.isFor .status c.group = true ∧ n < stamp

/-- The transmit queue (R142): at most 8 frames, each before the next by class and instant, at most one DEMAND, at most one
STATUS of a group, at most one frame on the wire and then the line is in FRAME; empty outside JOINING and RUNNING. That no two
frames have one queued-at instant, nor one that of a successor, is the model's choice (log entry 6): the instant is an
ever-rising number, where R143 lets two frames be offered at one event. -/
def QueueOk (s : State) : Prop :=
  s.txq.length ≤ 8 ∧ s.txq.Pairwise (fun a b => a.before b = true) ∧ (s.txq.map (·.stamp)).Nodup
    ∧ (∀ e ∈ s.txq, ∀ c n, e.successor = some (c, n) → ∀ x ∈ s.txq, x.stamp ≠ n)
    ∧ (s.txq.filter (·.onWire)).length ≤ 1 ∧ (s.ownOnWire = true → s.line.state = .frame)
    ∧ (s.txq.filter (fun e => payloadKind e.payload == .demand)).length ≤ 1
    ∧ (∀ g, (s.txq.filter (fun e => e.isFor .status g)).length ≤ 1)
    ∧ (∀ e ∈ s.txq, EntryOk s.stamp e)
    ∧ (s.transmits = false → s.txq = [])

/-- The output of a fan channel (R25, R33): released without a role, else what its role's drive gives. -/
def OutputOk (s : State) (f : FanChannel) : Prop :=
  match f.role with
  | none => f.output = none
  | some r => ∃ role, s.roles[r]? = some role ∧ f.output = role.drive.output

/-- One role: RELEASED exactly when its machine does not act (R33); a driven role is in FAILSAFE exactly when its set of
causes is not empty (R34, R43, R44); the commanded level is the one its state gives (Table 2-7); and each of its timers runs in
its own state alone. -/
def RoleOk (role : Role) : Prop :=
  (role.drive.state = .released ↔ role.ship.machine.acting = false)
    ∧ (role.drive.state ≠ .released → (role.drive.state = .failsafe ↔ role.drive.causes.empty = false))
    ∧ (role.drive.state = .released ∨ role.drive.state = .failsafe → role.drive.level = 100)
    ∧ (role.drive.state = .stopped → role.drive.level = 0)
    ∧ (role.drive.state = .spinUp → role.drive.level = role.drive.spinUpLevel)
    ∧ role.drive.statusDue = false
    ∧ (role.drive.ramp ≠ .stopped → role.drive.state = .tracking)
    ∧ (role.drive.spinUp ≠ .stopped → role.drive.state = .spinUp)
    ∧ (role.drive.stopDelay ≠ .stopped → role.drive.state = .tracking)
    ∧ (role.ship.silence ≠ .stopped → role.ship.machine = .watch)
    ∧ (role.ship.hold ≠ .stopped → role.ship.machine = .displaced)
    ∧ (role.ship.wait ≠ .stopped → role.ship.machine = .reclaim)

/-- No role before an image is taken (R32, R50). -/
def NoRoleBeforeImage (s : State) : Prop := (s.ctl.load.isSome = true ∨ s.ctl.state = .resetHeld) → s.roles = []

/-- The Memory Port in a slot's turn (R161; 12, section 12.3): MSEL selects the memory exactly when that has answered ready; the
slot's read is then its command, and not all that the port reads has come. (That MSEL is released while the port queries is the
model's choice: a query is one event, log entry 29.) -/
def LoadOk (l : Load) : Prop :=
  (l.msel = true ↔ l.answer = .stopped)
    ∧ (l.msel = true → l.request = readCommand l.slot ∧ l.returned.length < readLength l.returned)

/-- Fan outputs and role machines (R33), and the output to the memory (R161). -/
def OutputsOk (s : State) : Prop :=
  (∀ f ∈ s.fans, OutputOk s f) ∧ (∀ role ∈ s.roles, RoleOk role) ∧ NoRoleBeforeImage s ∧ ∀ l, s.ctl.load = some l → LoadOk l

/-- The image of slot A, held while slot B is read. -/
def heldImage (s : State) : Option Image := s.ctl.load.bind (·.imageA)

/-- The health of the fans (R28, R31, R42): a channel that is not checked is UNCHECKED without a run; a role's condition is
the one its channels give, and GROUP_FAILED is among its causes exactly while it is FAILED. -/
def JudgedOk (s : State) : Prop :=
  (∀ f ∈ s.fans, s.checked f = false → f.health = .unchecked ∧ f.run = none)
    ∧ (∀ r role, s.roles[r]? = some role →
        role.drive.condition = groupCondition (s.healths r)
          ∧ (role.drive.causes.groupFailed = true ↔ role.drive.condition = .failed) ∧ role.cfg.checkLevel ≤ 100)
    ∧ (∀ img, heldImage s = some img → ∀ cfg ∈ img.roles, cfg.checkLevel ≤ 100)
    ∧ NoRoleBeforeImage s

/-- The room of the claim tables (R4): 48 entries in all, 16 in one table, no station twice in a table; a held image leaves
that room for its placeholders. -/
def CapacityOk (s : State) : Prop :=
  s.pool ≤ 48
    ∧ (∀ role ∈ s.roles, role.claims.entries.length ≤ 16 ∧ (role.claims.entries.map (·.station)).Nodup)
    ∧ (∀ img, heldImage s = some img →
        (img.roles.map (placeholderCount img.demands)).sum ≤ 48
          ∧ ∀ cfg ∈ img.roles, placeholderCount img.demands cfg ≤ 16 ∧ cfg.required.Nodup
              ∧ ∀ n ∈ cfg.required, n ≠ s.ctl.station.getD 0)

/-- The join window runs in JOINING alone (R157, R164, R165). -/
def JoinWindowOk (s : State) : Prop := s.ctl.joinWindow ≠ .stopped → s.ctl.state = .joining

/-- The targets (R20, R21): in JOINING and RUNNING each drive record holds the target its claims give. -/
def TargetsOk (s : State) : Prop :=
  (s.transmits = true → ∀ role ∈ s.roles, role.drive.target = role.computedTarget) ∧ JoinWindowOk s

/-- Peers as a list of station numbers: none twice, each from 1 to 30 and none the own. -/
def PeerList (own : Option Nat) (stations : List Nat) : Prop :=
  stations.Nodup ∧ ∀ n ∈ stations, stationOk n = true ∧ own ≠ some n

/-- The Peer Unit's lists (R116, R120, R149). -/
def PeersOk (s : State) : Prop :=
  PeerList s.ctl.station (s.peers.roster.map (·.station))
    ∧ s.peers.board.length = 16 ∧ (∀ ms ∈ s.peers.board, PeerList s.ctl.station (ms.map (·.station)))
    ∧ PeerList s.ctl.station (s.peers.critPeers.map (·.station))
    ∧ (s.ctl.state = .resetHeld → s.peers.roster = [] ∧ (∀ ms ∈ s.peers.board, ms = []) ∧ s.peers.critPeers = [])

/-- THROTTLE (R118): asserted exactly while its condition holds; outside JOINING and RUNNING the board is empty and no
monitor is SATURATED. -/
def ThrottleOk (s : State) : Prop :=
  s.throttle = throttleCondition s
    ∧ (s.transmits = false → (∀ ms ∈ s.peers.board, ms = []) ∧ ∀ d ∈ s.demand.entries, d.sat ≠ .saturated)
    ∧ (s.ctl.load.isSome = true → s.ctl.state = .loading) ∧ JoinWindowOk s

/-- Critical temperatures and isolation (R42, R81, R84, R85, R119): the cause CRITICAL stands in every role's set exactly
while some channel is CRITICAL, and ISOLATED exactly while the station is ISOLATED; a CRITICAL channel keeps SHUTDOWN
asserted; readings stand in their range, the critical count below 2 until CRITICAL, and a channel in ABOVE has its latch set. -/
def ProtectionOk (s : State) : Prop :=
  (∀ role ∈ s.roles,
      role.drive.causes.isolated = s.peers.isolated ∧ role.drive.causes.critical = s.temps.any (·.critical))
    ∧ (s.temps.any (·.critical) = true → s.shutdown = true)
    ∧ (∀ c ∈ s.temps,
        (∀ v, c.reading = some v → -40 ≤ v ∧ v ≤ 150) ∧ c.critCount ≤ 2 ∧ (c.critical = false → c.critCount ≤ 1)
          ∧ (c.watch = .above → c.latch = true))
    ∧ ((s.ctl.load.isSome = true ∨ s.ctl.state = .resetHeld) →
        s.peers.isolated = false ∧ ∀ c ∈ s.temps, c.used = false ∧ c.critical = false)
    ∧ (s.ctl.load.isSome = true → s.ctl.state = .loading) ∧ JoinWindowOk s

end Sys2Proof.Machine
end

