-- ==== Sys2Proof/Certificates/Slice0/Obligations.lean ====
section
/-! DEFINITION. The statements about the station, from the numbered rules of spec/. -/

section

open Sys2Proof Sys2Proof.Machine

/-! ### The block and its invariants -/

/-- A step with a command at the front of the queue is that command's effect on the state with the queue's rest. On an empty
queue a step lets one millisecond pass and changes nothing else (the model's choice, log entry 1). -/
def Obligations.StepTakesFront : Prop :=
  (∀ (s : State) (c : Instr) (rest : List Instr), s.pending = c :: rest → step s = exec c { s with pending := rest })
    ∧ (∀ s : State, s.pending = [] → step s = .next { s with now := s.now + 1 })

/-- Every command ends in a next state, and no command adds or removes a waiting command. That a command whose event cannot
fall in the present state ends in a next state too is the model's choice (log entry 3); another model could refuse it. -/
def Obligations.EveryCommandCompletes : Prop := ∀ (c : Instr) (s : State), ∃ t, exec c s = .next t ∧ t.pending = s.pending

/-- The reset values the chapters give for power-on. -/
def Obligations.ResetValues : Prop :=
  let s := State.reset
  s.pending = [] ∧ s.timeBase = 0
    ∧ (s.ctl.state = .resetHeld ∧ s.ctl.cause = none ∧ s.ctl.station = none ∧ s.ctl.taken = none
        ∧ s.ctl.slotA = .notRead ∧ s.ctl.slotB = .notRead ∧ s.ctl.load = none ∧ s.msel = false ∧ s.ctl.joinWindow = .stopped)
    ∧ (s.temps.length = 8 ∧ ∀ c ∈ s.temps, c.used = false ∧ c.health = .valid ∧ c.reading = none ∧ c.prev = none
        ∧ c.watch = .below ∧ c.latch = false ∧ c.critCount = 0 ∧ c.critical = false ∧ c.repeatTimer = .stopped)
    ∧ (s.demand.entries = [] ∧ s.demand.refresh = .stopped ∧ s.roles = [])
    ∧ (s.fans.length = 6 ∧ ∀ f ∈ s.fans, f.role = none ∧ f.output = none ∧ f.speed = 0 ∧ f.health = .unchecked
        ∧ f.faultReported = false ∧ f.window = .stopped)
    ∧ (s.peers.roster = [] ∧ s.peers.views = List.replicate 16 none ∧ s.peers.board = List.replicate 16 []
        ∧ s.peers.critPeers = [] ∧ s.peers.isolated = false ∧ s.peers.linkTimer = .stopped)
    ∧ (s.line.state = .notIdle ∧ s.line.stuckOpen = false ∧ s.txq = [] ∧ s.badCount = 0)
    ∧ (s.shutdown = false ∧ s.throttle = false)
    ∧ (s.notices.queue = [] ∧ s.notices.next = 0 ∧ s.notices.dropped = 0 ∧ s.notices.alertLine = false)

/-- The invariants hold right after reset. -/
def Obligations.InvariantsAtReset : Prop :=
  let s := State.reset
  NoticesOk s ∧ QueueOk s ∧ OutputsOk s ∧ JudgedOk s ∧ CapacityOk s ∧ TargetsOk s ∧ PeersOk s ∧ ThrottleOk s ∧ ProtectionOk s

/-- Every step keeps the notice queue's form. -/
def Obligations.StepKeepsNotices : Prop := ∀ s t : State, NoticesOk s → step s = .next t → NoticesOk t

/-- Every step keeps the transmit queue's form. (That no two frames have one queued-at instant is the model's choice, log entry 6.) -/
def Obligations.StepKeepsQueue : Prop := ∀ s t : State, QueueOk s → step s = .next t → QueueOk t

/-- Every step keeps the outputs with the drives, the drives with the role machines and with their FAILSAFE causes, and MSEL with
the read of a slot. -/
def Obligations.StepKeepsOutputs : Prop := ∀ s t : State, OutputsOk s → step s = .next t → OutputsOk t

/-- Every step keeps the healths with the checks, and the conditions with the healths. -/
def Obligations.StepKeepsJudgement : Prop := ∀ s t : State, JudgedOk s → step s = .next t → JudgedOk t

/-- Every step keeps the claim tables within their room. -/
def Obligations.StepKeepsCapacity : Prop := ∀ s t : State, CapacityOk s → step s = .next t → CapacityOk t

/-- Every step keeps the targets with the claims. -/
def Obligations.StepKeepsTargets : Prop := ∀ s t : State, TargetsOk s → step s = .next t → TargetsOk t

/-- Every step keeps the Peer Unit's lists free of doubles and of the own station. -/
def Obligations.StepKeepsPeers : Prop := ∀ s t : State, PeersOk s → step s = .next t → PeersOk t

/-- Every step keeps THROTTLE with its condition. -/
def Obligations.StepKeepsThrottle : Prop := ∀ s t : State, ThrottleOk s → step s = .next t → ThrottleOk t

/-- Every step keeps the FAILSAFE causes, SHUTDOWN and the channel records together. -/
def Obligations.StepKeepsProtection : Prop := ∀ s t : State, ProtectionOk s → step s = .next t → ProtectionOk t

/-- A frame with every field in range, read back from the wire by the reception checks, gives its sender and content. -/
def Obligations.FramesSurviveTheWire : Prop :=
  ∀ (sender : Nat) (p : Payload), stationOk sender = true → p.wf = true → receptionCheck (wireOf sender p) = some (sender, p)

/-! ### Starts and loading -/

/-- RESET_HELD is entered with every block at its power-on values (the clock, the counters of the model, the strap pins and
the waiting commands apart), so that a memory read in progress is ended with MSEL released; a transaction in progress at the
service port has no effect, and a read keeps the bytes that it has delivered. At its end the straps are read and the station
loads, or faults on a station number of 0 or 31.

RESTART: the station loads again with the straps read anew; latches, bad-frame count, SHUTDOWN and notices are kept,
RESTARTED is posted at time 0 with the time base as it stood, and everything else is at its reset value. (A transaction
that the command's START ends is ended before.)

The model's choices here: the strap pins (log entry 18), with ADR0 the low bit of the address offset (log entry 41); the
selection and the empty snapshot of RESET_HELD, the snapshot and the sent bytes kept by RESTART (log entry 9); the bytes that a
cut read keeps (log entry 35); the memory port before its first answer (log entry 29). -/
def Obligations.StationStarts : Prop :=
  (∀ (s : State) (straps : Straps) (delivered : Nat),
    exec (.resetHeldEntry delivered) s
        = .next { State.reset with
            pending := s.pending, now := s.now, choices := s.choices, stamp := s.stamp,
            ctl := { State.reset.ctl with straps := s.ctl.straps },
            port := { State.reset.port with
              sent := match s.port.transfer with
                | .read => s.port.sent.take delivered
                | .idle | .write _ => [] } }
      ∧ (s.ctl.state = .resetHeld → 1 ≤ straps.sn.toNat → straps.sn.toNat ≤ 30 →
          exec (.resetHeldEnd straps) s
            = .next { s with ctl := loadingWith s.ctl straps s.now, port := { s.port with selection := .station } })
      ∧ (s.ctl.state = .resetHeld → straps.sn.toNat = 0 ∨ straps.sn.toNat = 31 →
          exec (.resetHeldEnd straps) s
            = .next (State.enterFaulted
                { s with ctl := loadingWith s.ctl straps s.now, port := { s.port with selection := .station } } .badStrap 0)))
    ∧ (∀ (s : State) (straps : Straps), s.started = true →
    let u := newTransaction s
    let t : State :=
      { State.reset with
        pending := u.pending, now := u.now, choices := u.choices, stamp := u.stamp,
        ctl := loadingWith State.reset.ctl straps u.now,
        temps := u.temps.map (fun c => { TempChannel.reset with latch := c.latch }),
        badCount := u.badCount, shutdown := u.shutdown,
        notices := u.notices.push 0 .restarted 0 (some u.timeBase), port := { u.port with selection := .station } }
    (s.port.held = [] → u = { s with port := { s.port with transfer := .idle } })
      ∧ (1 ≤ straps.sn.toNat → straps.sn.toNat ≤ 30 → exec (.restart straps) s = .next t)
      ∧ (straps.sn.toNat = 0 ∨ straps.sn.toNat = 31 → exec (.restart straps) s = .next (t.enterFaulted .badStrap 0)))

/-- The reading of the slots. While the memory's status says busy the port goes on querying it, and 100 ms after the slot's
first query the slot is MEMORY_ABSENT; once the memory has answered ready that timeout is of no effect, MSEL selects the
memory, and the port reads the header and, when its length passes, the image to its stated length. The slot is judged when the
port has all of these bytes, or fewer where the sender says that the read has ended; MSEL is then released (`SlotTaken`).
Outside LOADING neither command has an effect.

The model's choices here: that SLOT_READ_COMPLETE carries the status byte and the parts of a read, and that a status query is
one event (log entry 29); a byte that an ended read does not bring reads FFH (log entry 15). (A timeout given late sets the
clock to the later of its present value and the timer's end: log entry 2.) -/
def Obligations.SlotsJudged : Prop :=
  ∀ s : State,
    (s.ctl.load = none → s.msel = false ∧ exec .memoryAnswerTimeout s = .next s
      ∧ ∀ bytes status ended, exec (.slotReadComplete bytes status ended) s = .next s)
    ∧ ∀ l, s.ctl.load = some l →
      let holding (x : Load) : State := { s with ctl := { s.ctl with load := some x } }
      let address : Nat := match l.slot with
        | .a => 0
        | .b => 512
      let begun : Load :=
        { l with answer := .stopped, msel := true, request := 0x03 :: bytes2 address, returned := [] }
      s.msel = l.msel
        ∧ (l.answer = .stopped → exec .memoryAnswerTimeout s = .next s)
        ∧ (∀ due, l.answer = .running due →
            SlotTaken { s with now := max s.now due } l (.bad .memoryAbsent 0, none) (exec .memoryAnswerTimeout s))
        ∧ ∀ bytes status ended,
          let o := exec (.slotReadComplete bytes status ended) s
          (l.answer ≠ .stopped → status.getLsbD 0 = true →
              o = .next (holding { l with request := [0x05], returned := [status] }))
            ∧ ∀ reading, (l.answer = .stopped ∧ reading = l)
                ∨ (l.answer ≠ .stopped ∧ status.getLsbD 0 = false ∧ reading = begun) →
              let got := reading.returned ++ bytes
              let len := imageWord got 1
              let whole := if len < 7 ∨ 512 < len then 5 else len
              (ended = false → got.length < whole → o = .next (holding { reading with returned := got }))
                ∧ (ended = true ∨ whole ≤ got.length → SlotTaken s l (judgeSlot (s.ctl.station.getD 0) got) o)

/-- The tests of a slot whose memory answered, in order: length, CRC, format and counts, content; the first that fails gives
the slot's cause. The content checks are those of Table 10-3, in the order of `contentItems`: an image passes when every
condition holds, and else the first condition that fails gives the item index, from 1 to 27. -/
def Obligations.SlotTestsInOrder : Prop :=
  ∀ (own : Nat) (b : List Byte),
    let len := imageWord b 1
    let lengthBad := len < 7 ∨ 512 < len
    let crcBad := (crcOf (bytesBits (imageBytes b (len - 2)))).toNat ≠ imageWord b (len - 2)
    let formatBad := imageByte b 0 ≠ 0x26 ∨ 4 < imageByte b 13 ∨ 8 < imageByte b 14 ∨ len ≠ imageSize b
    (lengthBad → judgeSlot own b = (.bad .imageFormat 0, none))
      ∧ (¬lengthBad → crcBad → judgeSlot own b = (.bad .imageCrc 0, none))
      ∧ (¬lengthBad → ¬crcBad → formatBad → judgeSlot own b = (.bad .imageFormat 0, none))
      ∧ (¬lengthBad → ¬crcBad → ¬formatBad → ∀ item, contentFault own b = some item →
          judgeSlot own b = (.bad .imageContent item, none) ∧ 1 ≤ item ∧ item ≤ 27)
      ∧ (¬lengthBad → ¬crcBad → ¬formatBad → contentFault own b = none → judgeSlot own b = (.valid, some (readImage b)))
      ∧ (contentFault own b = none ↔ ∀ x ∈ contentItems own b, x.2)
      ∧ (∀ item, contentFault own b = some item ↔
          ∃ before after condition, contentItems own b = before ++ (item, condition) :: after
            ∧ (∀ x ∈ before, x.2) ∧ ¬condition)

/-- The entry into JOINING: the join window of 2 s, the first round at 250 ms, the refresh and link silence timers; one
demand entry for each demand group; each role with its placeholders, its join grace, its fresh role record and a RELEASED
drive that holds its target; each fan channel assigned, with its first window open. (The drive record's spin-up level of 0
is the model's choice, log entry 9.) -/
def Obligations.JoiningBegins : Prop :=
  ∀ (s : State) (slot : Slot) (img : Image),
    let t := s.enterJoining slot img
    let own := s.ctl.station.getD 0
    t.ctl = { s.ctl with
        state := .joining, taken := some (slot, img.generation), load := none, joinWindow := .running (s.now + 2000) }
      ∧ t.timing = some img.timing ∧ t.roundTimer = .running (s.now + 250)
      ∧ t.demand = ⟨img.demands.map (fun c => ⟨c, 0, .curve, 0, 0, false, none, .clear, 0, .stopped⟩),
          .running (s.now + img.timing.refreshTenths * 100), false, false⟩
      ∧ t.peers = { s.peers with linkTimer := .running (s.now + img.timing.isolationS * 1000) }
      ∧ t.temps = List.zipWith (fun c cfg => match cfg with
          | some cfg => { c with used := true, cfg := cfg }
          | none => { c with used := false, cfg := .unused }) s.temps img.channels
      ∧ t.roles.length = img.roles.length
      ∧ (∀ (i : Nat) (cfg : RoleCfg) (role : Role), img.roles[i]? = some cfg → t.roles[i]? = some role →
          role.cfg = cfg
            ∧ role.claims =
              { entries :=
                  (if img.demands.any (fun d => d.group == cfg.group) then [⟨own, .own, some ⟨0, .curve, 0⟩, false⟩] else [])
                    ++ cfg.required.map (fun n => ⟨n, .required, none, false⟩)
                peak := 0, peakTimer := .stopped, grace := .running (s.now + cfg.claimMs), graceEnded := false }
            ∧ role.ship =
              { machine := match cfg.kind with
                  | .primary => .listen
                  | .standby => .watch
                epoch := none, known := none, other := none, joinMark := false, attempts := 0, forcing := .clear
                pendingExpiry := false
                silence := match cfg.kind with
                  | .primary => .stopped
                  | .standby => .running (s.now + img.timing.takeoverS * 1000)
                otherSilence := .stopped, hold := .stopped, wait := .stopped }
            ∧ role.drive =
              { state := .released, target := role.computedTarget, level := 100, ramp := .stopped, spinUp := .stopped
                spinUpLevel := 0, stopDelay := .stopped, condition := .normal, causes := ⟨false, false, false⟩
                statusTimer := .stopped, statusDue := false })
      ∧ t.fans.length = s.fans.length
      ∧ (∀ (i : Nat) (f : FanChannel), t.fans[i]? = some f →
          f.role = img.roles.findIdx? (fun r => r.channels.contains i) ∧ f.cfg = img.fans.getD i ⟨0, 0⟩
            ∧ f.window = .running (s.now + 500))
      ∧ t.txq = s.txq ∧ t.notices = s.notices ∧ t.line = s.line ∧ t.badCount = s.badCount ∧ t.shutdown = s.shutdown

/-- The entry into FAULTED: cause and item recorded, FAULT posted, every role released with its timers stopped and its
claims gone, the transmit queue and the board emptied, THROTTLE released, the monitors cleared; SHUTDOWN, views, roster,
critical-peer list, bad-frame count and the channels' readings are kept. -/
def Obligations.FaultedEntered : Prop :=
  ∀ (s : State) (cause : Cause) (item : Nat),
    let t := s.enterFaulted cause item
    t.ctl = { s.ctl with state := .faulted, cause := some cause, item := item, load := none, joinWindow := .stopped }
      ∧ t.notices = s.notices.push (min 65535 ((s.now - s.ctl.startAt) / 1000)) .fault (causeCode cause) (some (item : Int))
      ∧ t.txq = [] ∧ t.throttle = false
      ∧ t.peers = { s.peers with board := List.replicate 16 [], linkTimer := .stopped }
      ∧ t.demand = { s.demand with
          entries := s.demand.entries.map (fun d => { d with sat := .clear, satCount := 0, satRepeat := .stopped }),
          refresh := .stopped }
      ∧ t.temps = s.temps.map (fun c => { c with repeatTimer := .stopped })
      ∧ t.roles.length = s.roles.length
      ∧ (∀ (r : Nat) (role role' : Role), s.roles[r]? = some role → t.roles[r]? = some role' →
          role'.cfg = role.cfg
            ∧ role'.claims = { role.claims with entries := [], peak := 0, peakTimer := .stopped, grace := .stopped }
            ∧ role'.ship = { role.ship with
                machine := (match role.cfg.kind with
                  | .primary => .listen
                  | .standby => .watch)
                joinMark := false, forcing := .clear, pendingExpiry := false, silence := .stopped
                otherSilence := .stopped, hold := .stopped, wait := .stopped }
            ∧ role'.drive = { role.drive with
                state := .released, level := 100, ramp := .stopped, spinUp := .stopped, stopDelay := .stopped
                statusTimer := .stopped, condition := .normal, causes := { role.drive.causes with groupFailed := false }
                statusDue := false })
      ∧ (∀ (i r : Nat) (f : FanChannel), t.fans[i]? = some f → f.role = some r → r < s.roles.length →
          f.output = none ∧ f.health = .unchecked ∧ f.run = none)
      ∧ t.line = s.line ∧ t.badCount = s.badCount ∧ t.shutdown = s.shutdown ∧ t.timing = s.timing
      ∧ t.roundTimer = s.roundTimer ∧ t.port = s.port ∧ t.now = s.now

/-- The join window's expiry: RUNNING, with JOINED; a PRIMARY that heard no acting standby drives its group from 100 under
a new epoch, one that heard one asks for the group back, and a STANDBY whose silence timer has run out claims its group.
(The premise leaves the transmit queue room for every role's frames.)
(An expiry given late sets the clock to the later of its present value and the timer's end: log entry 2.) -/
def Obligations.JoinWindowEnds : Prop :=
  ∀ (s : State) (due : Nat), s.ctl.joinWindow = .running due → s.transmits = true → s.peers.isolated = false → Settled s →
    JudgedOk s → s.txq.length + 2 * s.roles.length ≤ 8 →
    (∀ e ∈ s.txq, payloadKind e.payload ≠ .status) → (s.roles.map (·.cfg.group)).Nodup →
    ∃ t, exec .joinWindowExpiry s = .next t
      ∧ t.now = max s.now due ∧ t.ctl = { s.ctl with state := .running, joinWindow := .stopped }
      ∧ t.notices = s.notices.push (min 65535 ((max s.now due - s.ctl.startAt) / 1000)) .joined (s.ctl.station.getD 0)
          (some (((s.ctl.taken.map (·.2)).getD 0 : Nat) : Int))
      ∧ t.temps = s.temps ∧ t.demand = s.demand ∧ t.peers = s.peers ∧ t.badCount = s.badCount
      ∧ t.shutdown = s.shutdown ∧ t.throttle = s.throttle ∧ t.port = s.port
      ∧ (∀ (r : Nat) (role : Role), s.roles[r]? = some role →
          ∃ role', t.roles[r]? = some role' ∧ role'.cfg = role.cfg ∧ role'.claims = role.claims
            ∧ (role.ship.machine = .listen → role.ship.joinMark = false → role.drive.state = .released →
                role'.ship = { role.ship with
                    machine := .own, epoch := some (nextEpoch role.ship.known), known := some (nextEpoch role.ship.known),
                    otherSilence := .stopped }
                  ∧ role'.drive.level = 100 ∧ role'.drive.target = role.drive.target
                  ∧ role'.drive.state = (if role.drive.causes.empty then .tracking else .failsafe)
                  ∧ Queued t s.stamp (.status (t.statusContent role')))
            ∧ (role.ship.machine = .listen → role.ship.joinMark = true →
                role'.ship = { role.ship with machine := .reclaim, attempts := 1 } ∧ role'.drive = role.drive
                  ∧ Queued t s.stamp (.handback role.cfg.group ((role.ship.other.map (·.2)).getD 0)))
            ∧ (role.ship.machine = .watch → role.ship.pendingExpiry = true →
                role'.ship = { role.ship with machine := .claiming, silence := .stopped, pendingExpiry := false }
                  ∧ role'.drive = role.drive ∧ Queued t s.stamp (.takeover role.cfg.group (nextEpoch role.ship.known)))
            ∧ (role.ship.machine = .watch → role.ship.pendingExpiry = false → role' = role))

/-! ### Temperatures and demands -/

/-- A round: the next one begins; each used channel's health, reading, watch, latch and critical state follow its
measurement; an unused channel and everything that no round reaches stay as they are. The count of a channel already CRITICAL
is kept, and 0 after a fault (R80; the model's reading beside R84, log entry 11).
(An expiry given late sets the clock to the later of its present value and the timer's end: log entry 2.) -/
def Obligations.RoundTakesChannels : Prop :=
  ∀ (s : State) (ms : List Measurement) (due : Nat), s.roundTimer = .running due →
    ∃ t, exec (.roundComplete ms) s = .next t
      ∧ t.now = max s.now due ∧ t.roundTimer = .running (max s.now due + 250)
      ∧ t.ctl = s.ctl ∧ t.timing = s.timing ∧ t.peers = s.peers ∧ t.badCount = s.badCount ∧ t.port = s.port
      ∧ t.temps.length = s.temps.length
      ∧ ∀ (i : Nat) (c : TempChannel), s.temps[i]? = some c →
          ∃ c', t.temps[i]? = some c' ∧ c'.used = c.used ∧ c'.cfg = c.cfg
            ∧ (c.used = false → c' = c)
            ∧ (c.used = true →
                let m := ms.getD i .openCircuit
                let kind := measuredKind m
                let health := if kind ≠ c.health ∧ c.prev = some kind then kind else c.health
                let taken : Option Int := match m with
                  | .value raw => if health = .valid then some (max (-40) (min 150 (raw + c.cfg.offset))) else none
                  | .openCircuit | .shorted => none
                c'.health = health ∧ c'.prev = some kind ∧ c'.reading = taken.or c.reading
                  ∧ (∀ v, taken = some v →
                      c'.watch = (if c.watch = .below then (if c.cfg.high ≤ v then .above else .below)
                        else (if v < c.cfg.rel then .below else .above))
                        ∧ c'.latch = (c.latch || decide (c.watch = .below ∧ c.cfg.high ≤ v)))
                  ∧ (taken = none → c'.watch = c.watch ∧ c'.latch = c.latch)
                  ∧ (c.critical = true →
                      c'.critical = true ∧ c'.critCount = (if health = .valid then c.critCount else 0))
                  ∧ (c.critical = false →
                      let count := match taken with
                        | some v => if c.cfg.crit ≤ v then c.critCount + 1 else 0
                        | none => 0
                      c'.critCount = count ∧ c'.critical = decide (2 ≤ count))
                  ∧ c'.repeatTimer = (if c.critical = false ∧ c'.critical = true ∧ s.transmits = true
                      then .running (max s.now due + 5000) else c.repeatTimer))

/-- One channel's part of a round, seen from outside: health notice, watch notice by the notice mode, CRITICAL, in that
order; an entry into CRITICAL asserts SHUTDOWN, adds the cause to every role and, while the station sends, queues the ALERT.
(The premise leaves the queue room for it.) The cause acts on each role's drive as R43 says: a driven role that was not in
FAILSAFE is in FAILSAFE at 100 with its timers stopped, its outputs follow, and its STATUS is due at the end of the event (log
entry 7). -/
def Obligations.ChannelNotices : Prop :=
  ∀ (s : State) (ms : List Measurement) (i : Nat) (c : TempChannel), s.temps[i]? = some c → c.used = true →
    (s.transmits = true → s.txq.length < 8) →
    let a := c.round (ms.getD i .openCircuit)
    let t := State.takeChannel ms s i
    let enters := c.critical = false ∧ a.critical = true
    let health : List (NoticeKind × Option Int) :=
      if c.health = .valid then
        (match a.health with
          | .valid => []
          | .openCircuit => [(.channelFault, some 1)]
          | .shorted => [(.channelFault, some 2)])
      else if a.health = .valid then [(.channelRecovered, a.reading)] else []
    let watch : List (NoticeKind × Option Int) :=
      if c.watch = .below ∧ a.watch = .above then
        (match c.cfg.mode with
          | .quiet => []
          | .rise => if c.latch then [] else [(.limitRise, a.reading)]
          | .riseFall => [(.limitRise, a.reading)])
      else if c.watch = .above ∧ a.watch = .below ∧ c.cfg.mode = .riseFall then [(.limitFall, a.reading)] else []
    let critical : List (NoticeKind × Option Int) := if enters then [(.critical, a.reading)] else []
    t.notices = (health ++ watch ++ critical).foldl
        (fun n x => n.push s.timeBase x.1 i x.2) s.notices
      ∧ (t.shutdown = true ↔ s.shutdown = true ∨ enters)
      ∧ (enters → ∀ role ∈ t.roles, role.drive.causes.critical = true)
      ∧ (enters → JudgedOk s → ∀ (r : Nat) (role : Role), s.roles[r]? = some role →
          ∃ role', t.roles[r]? = some role' ∧ role'.cfg = role.cfg ∧ role'.claims = role.claims ∧ role'.ship = role.ship
            ∧ role'.drive.causes = { role.drive.causes with critical := true } ∧ role'.drive.condition = role.drive.condition
            ∧ CausesTaken s.now role.cfg role.drive role'.drive
            ∧ (role.drive.state ≠ .released → (∀ f ∈ t.fans, f.role = some r → f.output = some role'.drive.level))
            ∧ (role.drive.causes.critical = false → role.drive.state ≠ .released → role.drive.state ≠ .failsafe →
                role'.drive.statusDue = true))
      ∧ (enters → s.transmits = true → Queued t s.stamp (.alert .critical i (a.reading.getD 0)))
      ∧ (¬enters → t.roles = s.roles ∧ t.fans = s.fans ∧ t.txq = s.txq ∧ t.line = s.line)
      ∧ t.ctl = s.ctl ∧ t.demand = s.demand ∧ t.peers = s.peers ∧ t.throttle = s.throttle ∧ t.badCount = s.badCount

/-- The curve level of a reading (R92): L0 below T1, L4 from T4 on, and between two points the line, rounded up; it stays
within its segment's levels and within 0 to 100, and it does not fall as the reading rises. -/
def Obligations.CurveLevel : Prop :=
  ∀ (c : Curve), curveOk c = true → ∀ r : Int,
    (r < c.t1 → c.level r = c.l0) ∧ (c.t4 ≤ r → c.level r = c.l4)
      ∧ (r = c.t1 → c.level r = c.l1) ∧ (r = c.t2 → c.level r = c.l2) ∧ (r = c.t3 → c.level r = c.l3)
      ∧ (∀ (ta tb : Int) (la lb : Nat),
          (ta, la, tb, lb) = (c.t1, c.l1, c.t2, c.l2) ∨ (ta, la, tb, lb) = (c.t2, c.l2, c.t3, c.l3)
            ∨ (ta, la, tb, lb) = (c.t3, c.l3, c.t4, c.l4) →
          ta < r → r < tb →
            ∃ q : Int, (q - 1) * (tb - ta) < (r - ta) * ((lb : Int) - la) ∧ (r - ta) * ((lb : Int) - la) ≤ q * (tb - ta)
              ∧ (c.level r : Int) = la + q ∧ la ≤ c.level r ∧ c.level r ≤ lb)
      ∧ c.level r ≤ 100
      ∧ ∀ r', r ≤ r' → c.level r ≤ c.level r'

/-- The level and the reason of a demand group (R96). -/
def Obligations.LevelAndReason : Prop :=
  ∀ (cfg : DemandCfg) (curve fault : Nat) (boosted : Bool),
    let base := max curve fault
    (boosted = true → demandLevel cfg curve fault boosted = (if 100 < base + cfg.boost then 100 else base + cfg.boost))
      ∧ (boosted = false → demandLevel cfg curve fault boosted = (if 100 < base then 100 else base))
      ∧ (boosted = true → demandReason curve fault boosted = .compensation)
      ∧ (boosted = false → curve < fault → demandReason curve fault boosted = .channelFault)
      ∧ (boosted = false → ¬curve < fault → demandReason curve fault boosted = .curve)

/-- A round in JOINING or RUNNING computes the demand record from the channels as the round left them, the boost applies as R95
says on the state that the channels left (`BoostApplies` states its condition), each OWN claim takes its group's level and
reason (R6), and the last posted values stay. Each role's target is then the one its table gives, and its drive takes it from
where the channels left it (R36 to R41). (The premises of that clause's STATUS leave the queue room for every frame of the
round.)
(An expiry given late sets the clock to the later of its present value and the timer's end: log entry 2.) -/
def Obligations.RoundComputesDemand : Prop :=
  ∀ (s : State) (ms : List Measurement) (due : Nat), s.roundTimer = .running due → s.transmits = true →
    let u := State.takeRound { s with now := max s.now due, roundTimer := .running (max s.now due + 250) } ms
    ∃ t, exec (.roundComplete ms) s = .next t ∧ t.demand.entries.length = s.demand.entries.length
      ∧ (JudgedOk s → Settled s → (s.roles.map (·.cfg.group)).Nodup → ∀ (r : Nat) (role : Role), u.roles[r]? = some role →
          ∃ role', t.roles[r]? = some role' ∧ role'.cfg = role.cfg
            ∧ (s.demand.entries ≠ [] → role'.drive.target = role'.computedTarget)
            ∧ TargetHanded s t (s.txq.length + (s.temps.filter (·.used)).length + s.demand.entries.length + 1 + s.roles.length ≤ 8)
                r role role')
      ∧ ∀ (i : Nat) (d : DemandEntry), s.demand.entries[i]? = some d →
          ∃ d', t.demand.entries[i]? = some d' ∧ d'.cfg = d.cfg ∧ d'.last = d.last
            ∧ (∀ n, n ∈ d.cfg.curves.filterMap (fun (k : Curve) => (t.temps[k.channel]?.bind (fun (x : TempChannel) =>
                  if x.health = .valid then x.reading.map k.level else none))) → n ≤ d'.curvePart)
            ∧ (d'.curvePart = 0 ∨ d'.curvePart ∈ d.cfg.curves.filterMap (fun (k : Curve) =>
                  (t.temps[k.channel]?.bind (fun (x : TempChannel) => if x.health = .valid then x.reading.map k.level else none))))
            ∧ d'.faultPart = (if ∃ k ∈ d.cfg.curves, ∃ x : TempChannel, t.temps[k.channel]? = some x ∧ x.health ≠ .valid
                then d.cfg.faultLevel else 0)
            ∧ d'.level = demandLevel d.cfg d'.curvePart d'.faultPart d'.boosted
            ∧ d'.reason = demandReason d'.curvePart d'.faultPart d'.boosted
            ∧ d'.boosted = u.boostApplies d.cfg
            ∧ (d'.boosted = true → 0 < d.cfg.boost ∧ d.cfg.neighbours ≠ [])
            ∧ ((s.demand.entries.map (·.cfg.group)).Nodup →
                ∀ role ∈ t.roles, role.cfg.group = d.cfg.group → ∀ e ∈ role.claims.entries, e.kind = .own →
                  e.live = some ⟨d'.level, d'.reason, 0⟩)

/-- When the boost applies (R95): the boost is above 0 and some neighbour group's counted condition is DEGRADED or FAILED:
that of the own acting role, else that of a FRESH view. -/
def Obligations.BoostApplies : Prop :=
  ∀ (s : State) (cfg : DemandCfg),
    s.boostApplies cfg = true ↔ 0 < cfg.boost ∧ ∃ g ∈ cfg.neighbours,
      (∃ role, s.actingRole g = some role ∧ (role.drive.condition = .degraded ∨ role.drive.condition = .failed))
        ∨ (s.actingRole g = none ∧ ∃ v, s.view g = some v ∧ v.stale = false ∧ (v.condition = .degraded ∨ v.condition = .failed))

/-- Posting (R98, R99, R101): at a computation a waiting DEMAND is rebuilt, nothing is queued while one is on the link, and
else one is queued when a condition holds; the refresh timer's expiry restarts the timer and queues the record as it stands,
unless a DEMAND is on the link.
(An expiry given late sets the clock to the later of its present value and the timer's end: log entry 2.) -/
def Obligations.DemandPosting : Prop :=
  ∀ (s : State),
    (s.callsForDemand = true ↔
        s.demand.sent = false ∨ ∃ d ∈ s.demand.entries, d.last = none ∨ ∃ level reason, d.last = some (level, reason)
          ∧ (level + (s.timing.map (·.threshold)).getD 0 ≤ d.level ∨ d.level + (s.timing.map (·.threshold)).getD 0 ≤ level
              ∨ (d.level = 0 ∧ level ≠ 0) ∨ (d.level = 100 ∧ level ≠ 100) ∨ d.reason ≠ reason))
      ∧ (s.demandWaits = true → s.postAtComputation = s.offer s.demandFrame)
      ∧ (s.demandWaits = false → s.demandOnWire = true → s.postAtComputation = s)
      ∧ (s.demandWaits = false → s.demandOnWire = false →
          s.postAtComputation = if s.callsForDemand then s.offer s.demandFrame else s)
      ∧ ∀ due, s.demand.refresh = .running due → Settled s →
          let s' : State := { s with
            now := max s.now due,
            demand := { s.demand with
              refresh := .running (max s.now due + (s.timing.map (·.refreshTenths)).getD 0 * 100) } }
          (s.demandOnWire = true → exec .refreshTimerExpiry s = .next s')
            ∧ (s.demandOnWire = false → exec .refreshTimerExpiry s =
                .next (s'.offer (.demand (s.demand.entries.map (fun d => ⟨d.cfg.group, d.level, d.reason⟩)))))

/-- A saturation monitor at a computation (Table 6-3, R111, R112, R114). -/
def Obligations.MonitorAtComputation : Prop :=
  ∀ (s : State) (i : Nat) (d : DemandEntry), s.demand.entries[i]? = some d →
    let t := s.takeMonitor i
    let quarters := (s.timing.map (·.saturationS)).getD 0 * 4
    let full := d.curvePart = 100
    let reported := s.reportedLevel d.cfg.group
    ∃ d', t.demand.entries[i]? = some d' ∧ d'.cfg = d.cfg ∧ d'.level = d.level ∧ d'.curvePart = d.curvePart ∧ d'.last = d.last
      ∧ (d.sat = .clear → full → reported = some 100 → d'.sat = .counting ∧ d'.satCount = 1 ∧ t.notices = s.notices)
      ∧ (d.sat = .clear → (full → reported = none) → d'.sat = .clear ∧ d'.satCount = 0 ∧ t.notices = s.notices)
      ∧ (d.sat = .counting → full → reported = some 100 → d.satCount + 1 < quarters →
          d'.sat = .counting ∧ d'.satCount = d.satCount + 1 ∧ t.notices = s.notices)
      ∧ (d.sat = .counting → full → reported = some 100 → quarters ≤ d.satCount + 1 →
          d'.sat = .saturated ∧ d'.satCount = quarters ∧ t.throttle = true
            ∧ (s.transmits = true → d'.satRepeat = .running (s.now + 5000)
                ∧ (s.txq.length < 8 → Queued t s.stamp (.alert .saturation d.cfg.group 0)
                    ∧ t.notices = s.notices.push s.timeBase .saturated d.cfg.group (some (d.level : Int)))))
      ∧ (d.sat = .counting → full → reported = none → d' = d ∧ t = s)
      ∧ (d.sat ≠ .saturated → (¬full ∨ ∃ level, reported = some level ∧ level ≠ 100) →
          d'.sat = .clear ∧ d'.satCount = 0 ∧ t.notices = s.notices)
      ∧ (d.sat = .saturated → 100 < d.curvePart + (s.timing.map (·.margin)).getD 0 → t = s)
      ∧ (d.sat = .saturated → d.curvePart + (s.timing.map (·.margin)).getD 0 ≤ 100 →
          d'.sat = .clear ∧ d'.satCount = 0 ∧ d'.satRepeat = .stopped
            ∧ t.throttle = throttleCondition t
            ∧ (s.transmits = true → s.txq.length < 8 → Queued t s.stamp (.alert .saturationClear d.cfg.group 0)
                ∧ t.notices = s.notices.push s.timeBase .saturationCleared d.cfg.group (some (d.curvePart : Int))))

/-- The repeat timers of a CRITICAL channel and of a SATURATED monitor restart with 5 s, and a new ALERT is queued unless
one waits.

STATUS_TIMER_EXPIRY of an acting role: a STATUS with the content of Table 2-9 is offered and the timer restarts.
(An expiry given late sets the clock to the later of its present value and the timer's end: log entry 2.) -/
def Obligations.RepeatsQueued : Prop :=
  (∀ (s : State) (due : Nat), Settled s →
    (∀ (i : Nat) (c : TempChannel), s.temps[i]? = some c → c.repeatTimer = .running due →
        let s' : State := { s with
          now := max s.now due, temps := s.temps.modify i (fun c => { c with repeatTimer := .running (max s.now due + 5000) }) }
        exec (.criticalAlertRepeatExpiry i) s
          = .next (if s.alertWaits .critical i then s' else s'.offer (.alert .critical i (c.reading.getD 0))))
      ∧ ∀ (i : Nat) (d : DemandEntry), s.demand.entries[i]? = some d →
          (∀ j d', s.demand.entries[j]? = some d' → d'.cfg.group = d.cfg.group → i ≤ j) → d.satRepeat = .running due →
          let s' : State := { s with
            now := max s.now due,
            demand := { s.demand with
              entries := s.demand.entries.modify i (fun d => { d with satRepeat := .running (max s.now due + 5000) }) } }
          exec (.saturationAlertRepeatExpiry d.cfg.group) s
            = .next (if s.alertWaits .saturation d.cfg.group then s' else s'.offer (.alert .saturation d.cfg.group 0)))
    ∧ (∀ (s : State) (r due : Nat) (role : Role), s.roles[r]? = some role → role.drive.state ≠ .released →
    role.drive.statusTimer = .running due → Settled s →
    exec (.statusTimerExpiry r) s
      = .next (State.offer
          { s with
            now := max s.now due,
            roles := s.roles.modify r (fun q => { q with drive := { q.drive with statusTimer := .running (max s.now due + 1000) } }) }
          (.status
            { group := role.cfg.group, epoch := role.ship.epoch.getD 0, role := role.cfg.kind, drive := role.drive.state
              level := role.drive.level, condition := role.drive.condition
              speeds := role.cfg.channels.map (fun c => (s.fans[c]?.map (·.speed)).getD 0) })))

/-! ### Claims and targets -/

/-- CLAIM_EXPIRY: the age reaches the claim lifetime. An ORDINARY entry is removed; a REQUIRED entry becomes AWAITED in
place, marked and reported after the join grace; the target follows; the other roles' claims stay.

JOIN_GRACE_END and PEAK_EXPIRY: at the end of the grace each AWAITED REQUIRED entry is reported, in table order, and
marked; at the peak's expiry the peak is 0; the target follows in both.

The role's drive takes the new target at the event (R36 to R41), as `TargetTaken` says: ramp and stop delay in TRACKING, SPIN_UP
with its outputs and its STATUS from STOPPED.
(An expiry given late sets the clock to the later of its present value and the timer's end: log entry 2.) -/
def Obligations.ClaimTimersEnd : Prop :=
  (∀ (s : State) (r n : Nat) (role : Role) (e : ClaimEntry) (l : LiveClaim), s.roles[r]? = some role →
    role.claims.find n = some e → e.live = some l → e.kind ≠ .own → Settled s →
    ∃ t role', exec (.claimExpiry r n) s = .next t ∧ t.roles[r]? = some role'
      ∧ t.now = max s.now (l.since + role.cfg.claimMs)
      ∧ (e.kind = .ordinary → role'.claims = { role.claims with entries := role.claims.entries.filter (·.station ≠ n) })
      ∧ (e.kind = .required → role'.claims = { role.claims with
          entries := role.claims.entries.map (fun x =>
            if x.station = n then { x with live := none, lossReported := x.lossReported || role.claims.graceEnded } else x) })
      ∧ role'.drive.target = role'.computedTarget ∧ role'.ship = role.ship ∧ role'.cfg = role.cfg
      ∧ (JudgedOk s → TargetHanded s t (s.txq.length < 8) r role role')
      ∧ (∀ q, q ≠ r → t.roles[q]? = s.roles[q]?)
      ∧ (s.txq.length < 8 →
          t.notices = if e.kind = .required ∧ role.claims.graceEnded = true
            then s.notices.push (s.until (l.since + role.cfg.claimMs)).timeBase .contributorLost role.cfg.group (some (n : Int))
            else s.notices)
      ∧ t.ctl = s.ctl ∧ t.temps = s.temps ∧ t.demand = s.demand ∧ t.peers = s.peers ∧ t.port = s.port)
    ∧ (∀ (s : State) (r due : Nat) (role : Role), s.roles[r]? = some role → Settled s →
    (role.claims.grace = .running due →
        let awaited (x : ClaimEntry) : Bool := x.kind == .required && x.live.isNone
        ∃ t role', exec (.joinGraceEnd r) s = .next t ∧ t.roles[r]? = some role' ∧ t.now = max s.now due
          ∧ role'.claims = { role.claims with
              grace := .stopped, graceEnded := true,
              entries := role.claims.entries.map (fun x => if awaited x then { x with lossReported := true } else x) }
          ∧ role'.drive.target = role'.computedTarget ∧ role'.ship = role.ship ∧ role'.cfg = role.cfg
          ∧ (JudgedOk s → TargetHanded s t (s.txq.length < 8) r role role')
          ∧ (∀ q, q ≠ r → t.roles[q]? = s.roles[q]?)
          ∧ (s.txq.length < 8 →
              t.notices = (role.claims.entries.filter awaited).foldl
                (fun n x => n.push (s.until due).timeBase .contributorLost role.cfg.group (some (x.station : Int))) s.notices)
          ∧ t.ctl = s.ctl ∧ t.temps = s.temps ∧ t.demand = s.demand ∧ t.peers = s.peers)
      ∧ (role.claims.peakTimer = .running due →
          ∃ t role', exec (.peakExpiry r) s = .next t ∧ t.roles[r]? = some role' ∧ t.now = max s.now due
            ∧ role'.claims = { role.claims with peak := 0, peakTimer := .stopped }
            ∧ role'.drive.target = role'.computedTarget ∧ role'.ship = role.ship ∧ role'.cfg = role.cfg
            ∧ (JudgedOk s → TargetHanded s t (s.txq.length < 8) r role role')
            ∧ (∀ q, q ≠ r → t.roles[q]? = s.roles[q]?)
            ∧ (s.txq.length < 8 → t.notices = s.notices)
            ∧ t.ctl = s.ctl ∧ t.temps = s.temps ∧ t.demand = s.demand ∧ t.peers = s.peers))

/-- The target of a role (R20): the largest of its LIVE levels, its unrecorded peak and, with missing contributors, its
lost-contributor level; 0 if that is 0 and stop is permitted, else at least the floor level. -/
def Obligations.TargetOfClaims : Prop :=
  ∀ role : Role,
    let missing := role.claims.graceEnded = true ∧ ∃ e ∈ role.claims.entries, e.kind = .required ∧ e.live = none
    let counts (v : Nat) : Prop :=
      (∃ e ∈ role.claims.entries, ∃ l, e.live = some l ∧ v = l.level) ∨ v = role.claims.peak
        ∨ (missing ∧ v = role.cfg.lostLevel)
    ∃ value, (counts value ∧ ∀ v, counts v → v ≤ value)
      ∧ ((role.cfg.stopPermitted = true ∧ value = 0) → role.computedTarget = 0)
      ∧ (¬(role.cfg.stopPermitted = true ∧ value = 0) → role.computedTarget = max value role.cfg.floor)
      ∧ (role.cfg.floor ≤ 100 → role.cfg.lostLevel ≤ 100 → role.claims.peak ≤ 100 →
          (∀ e ∈ role.claims.entries, ∀ l, e.live = some l → l.level ≤ 100) → role.computedTarget ≤ 100)

/-- A DEMAND frame at a role's table (R8 to R11, R15, R17, R18): a listed claim is refreshed in its place, an unlisted one is
withdrawn, a new one is appended while the table and the pool have room, and on an exhausted table it evicts the lowest
candidate or folds into the unrecorded peak. The pool that a new claim finds (`poolAt`) is the one that the frame's
withdrawals and the listed entries before it have left. The target follows, and the role's drive takes it (R36 to R41). A lost
contributor is reported after its grace, then in the frame's order a reported one that is back and a claim that begins an
unrecorded peak (`demandNotices`). (The premise of the clause on notices leaves room in the queue and shuts out the notices of
other rules; the order of the lost ones is the model's choice, log entry 6.) -/
def Obligations.DemandFrameTaken : Prop :=
  ∀ (s : State) (n : Nat) (items : List DemandItem), TakesFrame s n (.demand items) → (s.roles.map (·.cfg.group)).Nodup →
    let once := ∀ role ∈ s.roles, (role.claims.entries.map (·.station)).Nodup
    ∃ t, exec (.demandFrame n items) s = .next t ∧ t.line = { s.line with state := .notIdle } ∧ t.temps = s.temps
      ∧ (∀ (r : Nat) (role : Role), s.roles[r]? = some role → (role.claims.entries.map (·.station)).Nodup →
          ∃ role', t.roles[r]? = some role' ∧ role'.cfg = role.cfg
            ∧ role'.drive.target = role'.computedTarget
            ∧ (s.peers.isolated = false → JudgedOk s → Settled s →
                TargetHanded s t (s.txq.length + s.roles.length ≤ 8) r role role')
            ∧ (∀ (i : Nat) (item : DemandItem), items[i]? = some item → item.group = role.cfg.group →
                (∀ e, role.claims.find n = some e → e.kind ≠ .own →
                    role'.claims = { role.claims with
                      entries := role.claims.entries.map (fun x => if x.station = n
                        then { x with
                          live := some ⟨item.level, item.reason, s.now⟩,
                          lossReported := x.lossReported && x.kind != .required }
                        else x) })
                  ∧ (role.claims.find n = none → once →
                      (poolAt s n items i < 48 ∧ role.claims.entries.length < 16 →
                          role'.claims = { role.claims with
                            entries := role.claims.entries ++ [⟨n, .ordinary, some ⟨item.level, item.reason, s.now⟩, false⟩] })
                        ∧ (¬(poolAt s n items i < 48 ∧ role.claims.entries.length < 16) →
                            ClaimExhausted s.now n role item role'.claims)))
            ∧ ((∀ item ∈ items, item.group ≠ role.cfg.group) →
                (role.claims.find n = none → role'.claims = role.claims)
                  ∧ (∀ e, role.claims.find n = some e → e.kind = .ordinary →
                      role'.claims = { role.claims with entries := role.claims.entries.filter (·.station ≠ n) })
                  ∧ (∀ e, role.claims.find n = some e → e.kind = .required →
                      role'.claims = { role.claims with
                        entries := role.claims.entries.map (fun x => if x.station = n
                          then { x with
                            live := none,
                            lossReported := x.lossReported || (x.live.isSome && role.claims.graceEnded) }
                          else x) })))
      ∧ (s.peers.isolated = false → s.peers.roster.any (fun x => x.station == n) = true → Settled s → once →
          s.txq.length + s.roles.length ≤ 8 →
          t.notices = (demandNotices s n items).foldl (fun q x => q.push s.timeBase x.1 x.2.1 (some x.2.2)) s.notices)

/-- A new claim on an exhausted table (R17, R18): the lowest ORDINARY entry below its level, the frontmost of equals, gives
way; without one the claim folds into the unrecorded peak, with TABLE_FULL when the peak was 0; a claim at 0 changes nothing.
(`DemandFrameTaken` says the same of a DEMAND frame's entries, with the pool that each finds.) -/
def Obligations.ExhaustedTable : Prop :=
  ∀ (s : State) (r n : Nat) (role : Role) (item : DemandItem), s.roles[r]? = some role →
    role.claims.find n = none → (role.claims.entries.map (·.station)).Nodup →
    ¬(s.pool < 48 ∧ role.claims.entries.length < 16) →
    let t := s.newClaim r n role item
    let level (e : ClaimEntry) : Nat := (e.live.map (·.level)).getD 0
    let candidate (e : ClaimEntry) : Prop := e.kind = .ordinary ∧ level e < item.level
    (∀ (i : Nat) (e : ClaimEntry), role.claims.entries[i]? = some e → candidate e →
        (∀ (j : Nat) (x : ClaimEntry), role.claims.entries[j]? = some x → candidate x →
            level e < level x ∨ (level e = level x ∧ i ≤ j)) →
        t = { s with roles := s.roles.modify r (fun q => { q with claims := { q.claims with
              entries := q.claims.entries.filter (·.station ≠ e.station)
                ++ [⟨n, .ordinary, some ⟨item.level, item.reason, s.now⟩, false⟩] } }) })
      ∧ ((∀ e ∈ role.claims.entries, ¬candidate e) →
          (item.level = 0 → t = s)
            ∧ (0 < item.level →
                t = { s with
                  roles := s.roles.modify r (fun q => { q with claims := { q.claims with
                    peak := max q.claims.peak item.level, peakTimer := .running (s.now + role.cfg.claimMs) } })
                  notices := if role.claims.peak = 0
                    then s.notices.push s.timeBase .tableFull role.cfg.group (some (item.level : Int)) else s.notices }))

/-! ### Drives and fans -/

/-- TACH_MEASUREMENT: the speed of the window, the next window, and the health of a checked channel by Table 2-3, with its
run, mark and notice; an unchecked channel's measurement changes its speed alone. The condition of the channel's role is the one
its channels then give, with GROUP_FAILED among the causes exactly while it is FAILED; a change acts on the role's drive as R42
to R44 say (`CausesTaken`: FAILSAFE at 100, and back to TRACKING at 100), and is reported; no other role changes.

The speed (R27): of the edges given (whole microseconds, log entry 10) those less than 100 µs after the previously recorded
one are ignored; with k of them recorded and the first and the last a time apart, it is 60,000,000 (k - 1) divided by that
time and the pulses per revolution, rounded down, at most 25,000, and 0 below two recorded edges.
(An expiry given late sets the clock to the later of its present value and the timer's end: log entry 2.) -/
def Obligations.TachMeasured : Prop :=
  (∀ (s : State) (i due : Nat) (f : FanChannel) (edges : List Nat), s.fans[i]? = some f → f.window = .running due →
    JudgedOk s → Settled s →
    let now := max s.now due
    let speed := tachSpeed f.cfg.pulses edges
    let below := decide (speed < f.cfg.minSpeed)
    ∃ t f', exec (.tachMeasurement i edges) s = .next t ∧ t.fans[i]? = some f' ∧ t.now = now
      ∧ f'.window = .running (now + 500) ∧ f'.speed = speed ∧ f'.role = f.role ∧ f'.cfg = f.cfg
      ∧ (s.checked f = false →
          t = { s with now := now, fans := s.fans.set i { f with window := .running (now + 500), speed := speed } })
      ∧ (s.checked f = true →
          ∃ since, f'.run = some ⟨below, since⟩
            ∧ (∀ run, f.run = some run → run.below = below → since = run.since)
            ∧ ((∀ run, f.run = some run → run.below ≠ below) → since = now)
            ∧ f'.health = (match f.health, below with
                | .unchecked, true | .ok, true => .slow
                | .unchecked, false | .ok, false => .ok
                | .slow, true => if 3000 + since ≤ now then .failed else .slow
                | .slow, false => if 3000 + since ≤ now then .ok else .slow
                | .failed, true => .failed
                | .failed, false => if 3000 + since ≤ now then .ok else .failed)
            ∧ f'.faultReported = (f'.health = .failed || (f'.health != .ok && f.faultReported))
            ∧ (s.txq.length < 8 → t.notices =
                if f'.health = .failed ∧ f.faultReported = false then
                  s.notices.push (s.until due).timeBase .fanFault i (some (speed : Int))
                else if f'.health = .ok ∧ f.faultReported = true then
                  s.notices.push (s.until due).timeBase .fanRecovered i (some (speed : Int))
                else s.notices))
      ∧ (∀ (r : Nat) (role : Role), f.role = some r → s.roles[r]? = some role → s.checked f = true →
          ∃ role', t.roles[r]? = some role' ∧ role'.cfg = role.cfg ∧ role'.claims = role.claims ∧ role'.ship = role.ship
            ∧ role'.drive.condition = groupCondition (t.healths r)
            ∧ role'.drive.causes = { role.drive.causes with groupFailed := decide (role'.drive.condition = .failed) }
            ∧ CausesTaken now role.cfg role.drive role'.drive
            ∧ (role'.drive.condition = role.drive.condition → role' = role)
            ∧ (role'.drive.condition ≠ role.drive.condition → DriveReported s t (s.txq.length < 8) r role'))
      ∧ (∀ q, f.role ≠ some q → t.roles[q]? = s.roles[q]?)
      ∧ t.ctl = s.ctl ∧ t.temps = s.temps ∧ t.demand = s.demand ∧ t.peers = s.peers ∧ t.port = s.port)
    ∧ (∀ (p e : Nat) (es : List Nat),
        (recordedEdges none [] = [] ∧ recordedEdges (some p) [] = [])
          ∧ recordedEdges none (e :: es) = e :: recordedEdges (some e) es
          ∧ (e < p + 100 → recordedEdges (some p) (e :: es) = recordedEdges (some p) es)
          ∧ (p + 100 ≤ e → recordedEdges (some p) (e :: es) = e :: recordedEdges (some e) es))
    ∧ (∀ (pulses : Nat) (edges : List Nat),
        let recorded := recordedEdges none edges
        (recorded.length < 2 → tachSpeed pulses edges = 0)
          ∧ (∀ first last, recorded.head? = some first → recorded.getLast? = some last → 2 ≤ recorded.length → 0 < pulses →
              first < last
                ∧ ∃ q, q * ((last - first) * pulses) ≤ 60000000 * (recorded.length - 1)
                  ∧ 60000000 * (recorded.length - 1) < (q + 1) * ((last - first) * pulses)
                  ∧ tachSpeed pulses edges = min 25000 q))

/-- RAMP_TIMER_EXPIRY in TRACKING: one step towards the target, limited by it; the timer starts again in the direction the
difference calls for; the role's outputs follow; no other role changes.
(An expiry given late sets the clock to the later of its present value and the timer's end: log entry 2.) -/
def Obligations.RampSteps : Prop :=
  ∀ (s : State) (r : Nat) (role : Role) (due : Nat), s.roles[r]? = some role → role.drive.state = .tracking →
    role.drive.causes.empty = true → JudgedOk s → Settled s →
    role.drive.ramp = .up due ∨ role.drive.ramp = .down due →
    let now := max s.now due
    let level :=
      if role.drive.ramp = .up due then min role.drive.target (role.drive.level + role.cfg.rampStep)
      else max role.drive.target (role.drive.level - role.cfg.rampStep)
    ∃ t role', exec (.rampTimerExpiry r) s = .next t ∧ t.roles[r]? = some role' ∧ t.now = now
      ∧ role'.cfg = role.cfg ∧ role'.claims = role.claims ∧ role'.ship = role.ship
      ∧ role'.drive.state = .tracking ∧ role'.drive.level = level ∧ role'.drive.target = role.drive.target
      ∧ role'.drive.ramp = (if level < role.drive.target then .up (now + role.cfg.upMs)
          else if role.drive.target < level then .down (now + role.cfg.downMs) else .stopped)
      ∧ role'.drive.stopDelay = role.drive.stopDelay ∧ role'.drive.causes = role.drive.causes
      ∧ (∀ f ∈ t.fans, f.role = some r → f.output = some level)
      ∧ (∀ q, q ≠ r → t.roles[q]? = s.roles[q]?)
      ∧ t.ctl = s.ctl ∧ t.temps = s.temps ∧ t.demand = s.demand ∧ t.peers = s.peers ∧ t.port = s.port

/-- STOP_DELAY_EXPIRY and SPIN_UP_EXPIRY: STOPPED at 0 with the channels UNCHECKED; TRACKING at the spin-up level, the ramp
started towards the held target and the stop delay if that is 0. Both queue STATUS with the record as it then stands.
(An expiry given late sets the clock to the later of its present value and the timer's end: log entry 2.) -/
def Obligations.StopAndSpinUpEnd : Prop :=
  ∀ (s : State) (r due : Nat) (role : Role), s.roles[r]? = some role → role.drive.causes.empty = true → JudgedOk s → Settled s →
    let now := max s.now due
    (role.drive.state = .tracking → role.drive.stopDelay = .running due →
        ∃ t role', exec (.stopDelayExpiry r) s = .next t ∧ t.roles[r]? = some role' ∧ t.now = now
          ∧ role'.drive = { role.drive with
              state := .stopped, level := 0, ramp := .stopped, stopDelay := .stopped, condition := .normal,
              statusTimer := .running (now + 1000) }
          ∧ role'.cfg = role.cfg ∧ role'.claims = role.claims
          ∧ (∀ f ∈ t.fans, f.role = some r → f.output = some 0 ∧ f.health = .unchecked ∧ f.run = none)
          ∧ (s.transmits = true → s.txq.length < 8 → (∀ e ∈ s.txq, e.isFor .status role.cfg.group = false) →
              Queued t s.stamp (.status (t.statusContent role'))))
      ∧ (role.drive.state = .spinUp → role.drive.spinUp = .running due →
          ∃ t role', exec (.spinUpExpiry r) s = .next t ∧ t.roles[r]? = some role' ∧ t.now = now
            ∧ role'.drive = { role.drive with
                state := .tracking, level := role.drive.spinUpLevel, spinUp := .stopped,
                ramp := if role.drive.spinUpLevel < role.drive.target then .up (now + role.cfg.upMs)
                  else if role.drive.target < role.drive.spinUpLevel then .down (now + role.cfg.downMs) else .stopped,
                stopDelay := if role.drive.target = 0 then .running (now + role.cfg.stopDelayMs) else .stopped,
                statusTimer := .running (now + 1000) }
            ∧ role'.cfg = role.cfg ∧ role'.claims = role.claims
            ∧ (∀ f ∈ t.fans, f.role = some r → f.output = some role.drive.spinUpLevel)
            ∧ (s.transmits = true → s.txq.length < 8 → (∀ e ∈ s.txq, e.isFor .status role.cfg.group = false) →
                Queued t s.stamp (.status (t.statusContent role'))))

/-! ### Drivership -/

/-- Epochs (R51, R52): newer is a serial comparison modulo 65,536; the next epoch is 1 when none is known and else one more
than the highest known; a heard epoch replaces an unknown or an older highest-known epoch, and no other.

The highest-known epoch after every drivership frame of the role's group (R51). -/
def Obligations.EpochsKnown : Prop :=
  ((∀ a b : Epoch, newer a b = true ↔ 1 ≤ (a.toNat + 65536 - b.toNat) % 65536 ∧ (a.toNat + 65536 - b.toNat) % 65536 ≤ 32767)
    ∧ nextEpoch none = 1 ∧ (∀ k : Epoch, (nextEpoch (some k)).toNat = (k.toNat + 1) % 65536)
    ∧ (∀ k : Epoch, newer (nextEpoch (some k)) k = true)
    ∧ (∀ e : Epoch, noteEpoch e none = some e)
    ∧ ∀ e k : Epoch, noteEpoch e (some k) = if newer e k then some e else some k)
    ∧ (∀ (s : State) (n g r : Nat) (e : Epoch) (role : Role) (p : Payload), TakesFrame s n p →
    ((∃ c, p = .status c ∧ c.group = g ∧ c.epoch = e) ∨ p = .takeover g e ∨ p = .handback g e
      ∨ ∃ a l, p = .yield g e a l) →
    s.roleIndex g = some r → s.roles[r]? = some role →
    ∃ t role', exec (frameCommand n p) s = .next t ∧ t.roles[r]? = some role'
      ∧ role'.ship.known = (match role.ship.known with
          | none => some e
          | some k => if newer e k then some e else some k)
      ∧ role'.cfg = role.cfg ∧ role'.claims = role.claims)

/-- SILENCE_TIMER_EXPIRY: in RUNNING the standby offers a TAKEOVER under the next epoch and is in CLAIMING; in JOINING it
stays in WATCH with a pending expiry.

OTHER_SILENCE_EXPIRY: in LISTEN the standby heard is forgotten; in DISPLACED, and in RECLAIM with the forcing mark clear,
a waiting HANDBACK is withdrawn and the takeover is forced with the mark SILENCE; in RECLAIM with the mark set nothing more
happens. (That the HANDBACK is withdrawn before the TAKEOVER is offered is the model's choice, log entry 40.)
(An expiry given late sets the clock to the later of its present value and the timer's end: log entry 2.) -/
def Obligations.SilenceTimersRunOut : Prop :=
  (∀ (s : State) (r due : Nat) (role : Role), s.roles[r]? = some role → role.ship.silence = .running due → Settled s →
    (s.ctl.state = .running →
        exec (.silenceTimerExpiry r) s
          = .next (State.offer
              { s with
                now := max s.now due,
                roles := s.roles.modify r (fun q =>
                  { q with ship := { q.ship with machine := .claiming, silence := .stopped, pendingExpiry := false } }) }
              (.takeover role.cfg.group (nextEpoch role.ship.known))))
      ∧ (s.ctl.state = .joining →
          exec (.silenceTimerExpiry r) s
            = .next { s with
                now := max s.now due,
                roles := s.roles.modify r (fun q => { q with ship := { q.ship with silence := .stopped, pendingExpiry := true } }) }))
    ∧ (∀ (s : State) (r due : Nat) (role : Role), s.roles[r]? = some role → role.ship.otherSilence = .running due → Settled s →
    let heard (f : Ship → Ship) : State :=
      { s with now := max s.now due, roles := s.roles.modify r (fun q => { q with ship := f q.ship }) }
    (role.ship.machine = .listen →
        exec (.otherSilenceExpiry r) s
          = .next (heard (fun sh => { sh with otherSilence := .stopped, joinMark := false, other := none })))
      ∧ (role.ship.machine = .displaced ∨ (role.ship.machine = .reclaim ∧ role.ship.forcing = .clear) →
          exec (.otherSilenceExpiry r) s
            = .next (State.offer
                { heard (fun sh =>
                    { sh with otherSilence := .stopped, machine := .reclaim, forcing := .silence, hold := .stopped, wait := .stopped })
                  with txq := s.txq.filter (fun e => e.onWire || !e.isFor .handback role.cfg.group) }
                (.takeover role.cfg.group (nextEpoch role.ship.known))))
      ∧ (role.ship.machine = .reclaim → role.ship.forcing ≠ .clear →
          exec (.otherSilenceExpiry r) s = .next (heard (fun sh => { sh with otherSilence := .stopped }))))

/-- DISPLACED_HOLD_EXPIRY and HANDBACK_WAIT_EXPIRY: the primary asks for its group with the acting other's epoch, at most
three times, then forces a takeover with the mark ATTEMPTS; a forced takeover is offered again; while ISOLATED no HANDBACK
is queued.
(An expiry given late sets the clock to the later of its present value and the timer's end: log entry 2.) -/
def Obligations.ReclaimAsks : Prop :=
  ∀ (s : State) (r due n : Nat) (e : Epoch) (role : Role), s.roles[r]? = some role → role.ship.other = some (n, e) → Settled s →
    let ships (f : Ship → Ship) : State :=
      { s with now := max s.now due, roles := s.roles.modify r (fun q => { q with ship := f q.ship }) }
    (role.ship.hold = .running due →
        (s.peers.isolated = false →
            exec (.displacedHoldExpiry r) s
              = .next (State.offer (ships (fun sh => { sh with machine := .reclaim, attempts := 1, hold := .stopped }))
                  (.handback role.cfg.group e)))
          ∧ (s.peers.isolated = true →
              exec (.displacedHoldExpiry r) s
                = .next (ships (fun sh => { sh with machine := .reclaim, attempts := 0, hold := .stopped }))))
      ∧ (role.ship.wait = .running due →
          (role.ship.forcing ≠ .clear →
              exec (.handbackWaitExpiry r) s
                = .next (State.offer (ships (fun sh => { sh with wait := .stopped }))
                    (.takeover role.cfg.group (nextEpoch role.ship.known))))
            ∧ (role.ship.forcing = .clear → role.ship.attempts < 3 → s.peers.isolated = false →
                exec (.handbackWaitExpiry r) s
                  = .next (State.offer (ships (fun sh => { sh with wait := .stopped, attempts := sh.attempts + 1 }))
                      (.handback role.cfg.group e)))
            ∧ (role.ship.forcing = .clear → 3 ≤ role.ship.attempts →
                exec (.handbackWaitExpiry r) s
                  = .next (State.offer
                      (ships (fun sh =>
                        { sh with wait := .stopped, machine := .reclaim, forcing := .attempts, hold := .stopped }))
                      (.takeover role.cfg.group (nextEpoch role.ship.known)))))

/-- A TAKEOVER or a YIELD has been transmitted: the claiming standby or the forcing primary acts under the frame's epoch from
100; the yielding standby is in WATCH and RELEASED. (QueueOk is an invariant: of the transmit queue a STATUS alone has a
successor.) -/
def Obligations.DrivershipTransmitted : Prop :=
  ∀ (s : State) (q : QEntry) (g r : Nat) (e : Epoch) (role : Role), s.ownFrame = some q → QueueOk s →
    s.roleIndex g = some r → s.roles[r]? = some role → JudgedOk s → Settled s →
    (q.payload = .takeover g e → role.drive.state = .released →
        role.ship.machine = .claiming ∨ role.ship.machine = .reclaim →
        ∃ t role', exec .frameTransmitted s = .next t ∧ t.roles[r]? = some role'
          ∧ (role.ship.machine = .claiming → role'.ship = { role.ship with
              machine := .act, epoch := some e, known := some e, silence := .stopped })
          ∧ (role.ship.machine = .reclaim → role'.ship = { role.ship with
              machine := .own, epoch := some e, known := some e, forcing := .clear, attempts := 0
              otherSilence := .stopped, wait := .stopped, other := none })
          ∧ role'.drive.state = (if role.drive.causes.empty then .tracking else .failsafe) ∧ role'.drive.level = 100
          ∧ role'.drive.target = role.drive.target ∧ role'.claims = role.claims
          ∧ (∀ f ∈ t.fans, f.role = some r → f.output = some 100)
          ∧ t.notices = s.notices.push s.timeBase .takeover g (some (e.toNat : Int))
          ∧ (s.transmits = true → (∀ x ∈ s.txq, x.isFor .status role.cfg.group = false) →
              Queued t s.stamp (.status (t.statusContent role')))
          ∧ (∀ x ∈ t.txq, x.onWire = false) ∧ t.line = { s.line with state := .notIdle }
          ∧ (∀ p, p ≠ r → t.roles[p]? = s.roles[p]?)
          ∧ t.ctl = s.ctl ∧ t.temps = s.temps ∧ t.demand = s.demand ∧ t.peers = s.peers)
      ∧ (∀ a l, q.payload = .yield g e a l → role.ship.machine = .act →
          ∃ t role', exec .frameTransmitted s = .next t ∧ t.roles[r]? = some role'
            ∧ role'.ship = { role.ship with
                machine := .watch, known := noteEpoch e role.ship.known
                silence := if s.peers.isolated then .frozen s.takeoverMs else .running (s.now + s.takeoverMs) }
            ∧ role'.drive.state = .released ∧ role'.drive.level = 100 ∧ role'.drive.target = role.drive.target
            ∧ role'.drive.condition = .normal ∧ role'.drive.statusTimer = .stopped ∧ role'.claims = role.claims
            ∧ (∀ f ∈ t.fans, f.role = some r → f.output = none ∧ f.health = .unchecked)
            ∧ t.notices = s.notices.push s.timeBase .handbackDone g (some (e.toNat : Int))
            ∧ t.txq = dequeue s.txq q ∧ t.line = { s.line with state := .notIdle }
            ∧ (∀ p, p ≠ r → t.roles[p]? = s.roles[p]?)
            ∧ t.ctl = s.ctl ∧ t.temps = s.temps ∧ t.demand = s.demand ∧ t.peers = s.peers)

/-- The other frames transmitted: the frame leaves the queue (a STATUS's successor enters in its place) and the line is
NOT_IDLE; a DEMAND sets the last posted values, restarts the refresh timer and is followed by a new one when a condition
holds; a HANDBACK starts the handback wait of a primary in RECLAIM whose forcing mark is clear. -/
def Obligations.FrameLeavesQueue : Prop :=
  ∀ (s : State) (q : QEntry), s.ownFrame = some q → Settled s →
    let rest := s.txq.filter (fun x => !x.onWire)
    let s' : State := { s with
      line := { s.line with state := .notIdle }
      txq := match q.successor with
        | none => rest
        | some (c, stamp) => insertEntry ⟨.status c, stamp, 0, false, none⟩ rest }
    (∀ c, q.payload = .status c → exec .frameTransmitted s = .next s')
      ∧ (∀ k n v, q.payload = .alert k n v → exec .frameTransmitted s = .next s')
      ∧ (∀ items, q.payload = .demand items →
          let d : State := { s' with demand := { s.demand with
            sent := true, refresh := .running (s.now + (s.timing.map (·.refreshTenths)).getD 0 * 100)
            entries := s.demand.entries.map (fun x => match items.find? (fun i => i.group == x.cfg.group) with
              | some i => { x with last := some (i.level, i.reason) }
              | none => x) } }
          exec .frameTransmitted s = .next (if d.callsForDemand then d.offer d.demandFrame else d))
      ∧ (∀ g e r role, q.payload = .handback g e → s.roleIndex g = some r → s.roles[r]? = some role →
          exec .frameTransmitted s = .next
            (if role.ship.machine = .reclaim ∧ role.ship.forcing = .clear then
              { s' with roles := s.roles.modify r (fun x => { x with ship := { x.ship with
                  wait := if s.peers.isolated then .frozen 1000 else .running (s.now + 1000) } }) }
             else s'))

/-! ### Frames taken -/

/-- The conflict rule (R66): an acting role that takes a STATUS or TAKEOVER of its group from another station. -/
def Obligations.ConflictRule : Prop :=
  ∀ (s : State) (n g r own : Nat) (e mine : Epoch) (role : Role) (p : Payload), TakesFrame s n p →
    ((∃ c, p = .status c ∧ c.group = g ∧ c.epoch = e) ∨ p = .takeover g e) →
    s.roleIndex g = some r → s.roles[r]? = some role → role.ship.machine.acting = true → role.ship.epoch = some mine →
    s.ctl.station = some own →
    let other : RoleKind := match p with
      | .status c => c.role
      | _ => if role.cfg.partner = some n then (match role.cfg.kind with
            | .primary => .standby
            | .standby => .primary)
          else role.cfg.kind
    ∃ t role', exec (frameCommand n p) s = .next t ∧ t.roles[r]? = some role'
      ∧ (let wins := role'.ship.machine = role.ship.machine ∧ role'.ship.machine.acting = true
         let loses := role'.ship.machine.acting = false
         (newer e mine = true → loses) ∧ (newer mine e = true → wins)
          ∧ (newer e mine = false → newer mine e = false →
              (other = .primary → role.cfg.kind = .standby → loses) ∧ (other = .standby → role.cfg.kind = .primary → wins)
                ∧ (other = role.cfg.kind → (own < n → wins) ∧ (n < own → loses))))

/-- What a lost and a won conflict do (R56, R67), after a STATUS or a TAKEOVER: a losing primary is DISPLACED with the winner as
acting other and its hold started, a losing standby is in WATCH with its silence timer started and its waiting YIELD
withdrawn; both are RELEASED. A winner acts on, queues STATUS and restarts its status timer. The notices are DRIVER_CONFLICT,
where epochs did not decide or the roles are the same, and then DISPLACED. -/
def Obligations.ConflictEffects : Prop :=
  ∀ (s : State) (n g r own : Nat) (e mine : Epoch) (p : Payload) (role : Role), TakesFrame s n p →
    ((∃ c, p = .status c ∧ c.group = g ∧ c.epoch = e) ∨ p = .takeover g e) →
    s.peers.isolated = false → s.peers.roster.any (fun x => x.station == n) = true → s.txq.length < 8 → Settled s →
    s.roleIndex g = some r → s.roles[r]? = some role → role.ship.machine.acting = true → role.ship.epoch = some mine →
    s.ctl.station = some own →
    let other : RoleKind := match p with
      | .status c => c.role
      | _ => if role.cfg.partner = some n then (match role.cfg.kind with
            | .primary => .standby
            | .standby => .primary)
          else role.cfg.kind
    let wins := conflictWins mine role.cfg.kind own e other n
    let reported := (newer e mine = false ∧ newer mine e = false) ∨ role.cfg.kind = other
    let conflict := if reported then s.notices.push s.timeBase .driverConflict g (some (n : Int)) else s.notices
    ∃ t role', exec (frameCommand n p) s = .next t ∧ t.roles[r]? = some role' ∧ role'.claims = role.claims
      ∧ (wins = true →
          role'.ship = { role.ship with known := noteEpoch e role.ship.known } ∧ role'.drive.state = role.drive.state
            ∧ role'.drive.level = role.drive.level
            ∧ (role.drive.state ≠ .released → role'.drive.statusTimer = .running (s.now + 1000)
                ∧ ((∀ x ∈ s.txq, x.isFor .status g = false) → Queued t s.stamp (.status (t.statusContent role')))
                ∧ (∀ x ∈ s.txq, x.isFor .status g = true → x.onWire = false →
                    { x with payload := .status (t.statusContent role') } ∈ t.txq))
            ∧ t.notices = conflict ∧ t.fans = s.fans)
      ∧ (wins = false → role.cfg.kind = .primary →
          role'.ship = { role.ship with
              machine := .displaced, other := some (n, e), hold := .running (s.now + 5000)
              otherSilence := .running (s.now + s.takeoverMs), known := noteEpoch e role.ship.known }
            ∧ t.notices = conflict.push s.timeBase .displaced g (some (n : Int)) ∧ t.txq = s.txq)
      ∧ (wins = false → role.cfg.kind = .standby →
          role'.ship = { role.ship with
              machine := .watch, silence := .running (s.now + s.takeoverMs), known := noteEpoch e role.ship.known }
            ∧ t.notices = conflict ∧ t.txq = s.txq.filter (fun x => x.onWire || !x.isFor .yield g))
      ∧ (wins = false →
          role'.drive.state = .released ∧ role'.drive.level = 100 ∧ role'.drive.statusTimer = .stopped
            ∧ (∀ f ∈ t.fans, f.role = some r → f.output = none ∧ f.health = .unchecked))
      ∧ (∀ q, q ≠ r → t.roles[q]? = s.roles[q]?)
      ∧ t.ctl = s.ctl ∧ t.temps = s.temps ∧ t.demand = s.demand ∧ t.badCount = s.badCount

/-- The handback exchange (R59, R64): a HANDBACK from the partner that names a standby's epoch is answered by one YIELD with
the next epoch, the sender and the commanded level, and any other changes the highest-known epoch alone; a YIELD addressed to
the own station with a newer epoch gives a primary in RECLAIM its group at the frame's level. -/
def Obligations.HandbackExchange : Prop :=
  ∀ (s : State) (n g r : Nat) (e : Epoch) (role : Role), s.peers.isolated = false → s.txq.length < 8 → Settled s →
    s.roleIndex g = some r → s.roles[r]? = some role →
    (TakesFrame s n (.handback g e) → role.ship.machine = .act →
        let answers := (role.cfg.partner = none ∨ role.cfg.partner = some n) ∧ role.ship.epoch = some e
          ∧ ∀ x ∈ s.txq, x.isFor .yield g = false
        let heard : Role := { role with ship := { role.ship with known := noteEpoch e role.ship.known } }
        ∃ t, exec (.handbackFrame n g e) s = .next t ∧ t.roles[r]? = some heard ∧ t.fans = s.fans
          ∧ (answers → Queued t s.stamp (.yield g (e + 1) n role.drive.level)) ∧ (¬answers → t.txq = s.txq))
      ∧ (∀ a l, TakesFrame s n (.yield g e a l) → role.ship.machine = .reclaim → role.drive.state = .released →
          JudgedOk s → s.ctl.station = some a → newerThanKnown e role.ship.known = true →
          ∃ t role', exec (.yieldFrame n g e a l) s = .next t ∧ t.roles[r]? = some role'
            ∧ role'.ship = { role.ship with
                machine := .own, epoch := some e, known := some e, wait := .stopped, otherSilence := .stopped
                attempts := 0, forcing := .clear, other := none }
            ∧ role'.drive.state = (if role.drive.causes.empty then .tracking else .failsafe)
            ∧ role'.drive.level = (if role.drive.causes.empty then l else 100)
            ∧ role'.drive.target = role.drive.target
            ∧ (∀ f ∈ t.fans, f.role = some r → f.output = some role'.drive.level)
            ∧ (∀ x ∈ t.txq, x.onWire = false → x.isFor .handback role.cfg.group = false ∧ x.isFor .takeover role.cfg.group = false)
            ∧ (s.peers.roster.any (fun x => x.station == n) = true →
                t.notices = s.notices.push s.timeBase .handbackDone role.cfg.group (some (e.toNat : Int))))

/-- A role hears a frame of its group. (ConflictEffects says what a STATUS or TAKEOVER does to a role that acts,
HandbackExchange what a HANDBACK does to a standby in ACT, and what an accepted YIELD does.)

A primary in OWN that takes a HANDBACK or YIELD, and a standby in ACT that takes a YIELD, change the highest-known epoch alone
(R55, R64).

A standby (R61, R62, R63): a STATUS, TAKEOVER or HANDBACK from the partner (from any station when it has none) restarts the
silence timer of one in WATCH and clears its pending expiry, and takes one in CLAIMING back to WATCH with its waiting
TAKEOVER withdrawn. From another sender, and a YIELD from any, it changes the highest-known epoch of one in WATCH alone, and
takes one in CLAIMING back when its waiting TAKEOVER's epoch is no longer newer than the highest-known epoch.

A primary in LISTEN (R53): a STATUS of a STANDBY, and a TAKEOVER from the partner (from any station when it has none), set the
join-window mark and the acting other and restart the other-silence timer; other frames change the highest-known epoch alone.

A primary in DISPLACED or RECLAIM (R56): a STATUS or TAKEOVER from the acting other, and one from another station with a newer
epoch, keep the acting other up to date and restart the other-silence timer. Where the forcing mark is SILENCE it ends the
forced takeover, and a HANDBACK is queued (R60; that it does so for another station's frame too is the model's reading, log
entry 16). A forced TAKEOVER that goes on waiting is rebuilt with the new highest-known epoch plus 1 when that is equal to or
newer than its own (R60). In RECLAIM a HANDBACK, a YIELD addressed to another station and one whose epoch is not newer than the
highest-known epoch change that epoch alone (R59), and a TAKEOVER that waits is rebuilt by them in the same way. -/
def Obligations.PartnerHeard : Prop :=
  ∀ (s : State) (n g r : Nat) (e : Epoch) (role : Role) (p : Payload), TakesFrame s n p → s.peers.isolated = false → Settled s →
    let report := (∃ c, p = .status c ∧ c.group = g ∧ c.epoch = e) ∨ p = .takeover g e
    let answer := ∃ a l, p = .yield g e a l
    report ∨ p = .handback g e ∨ answer →
    s.roleIndex g = some r → s.roles[r]? = some role →
    let sh := role.ship
    let known := noteEpoch e sh.known
    let heard : Role := { role with ship := { sh with known := known } }
    let accepted := ∃ a l, p = .yield g e a l ∧ s.ctl.station = some a ∧ newerThanKnown e sh.known = true
    let ended := report ∧ sh.forcing = .silence ∧ ∀ m old, sh.other = some (m, old) → m = n ∨ newer e old = true
    let partner := (role.cfg.partner = none ∨ role.cfg.partner = some n) ∧ ¬answer
    let back (pending : Bool) : Ship :=
      { sh with machine := .watch, silence := .running (s.now + s.takeoverMs), known := known, pendingExpiry := pending }
    ∃ t role', exec (frameCommand n p) s = .next t ∧ t.roles[r]? = some role'
      ∧ (¬((sh.machine = .own ∨ sh.machine = .act) ∧ report) → ¬(sh.machine = .reclaim ∧ accepted) →
          role'.drive = role.drive ∧ role'.claims = role.claims ∧ role'.cfg = role.cfg ∧ t.fans = s.fans)
      ∧ (((sh.machine = .own ∧ ¬report) ∨ (sh.machine = .act ∧ answer)) → role' = heard ∧ t.txq = s.txq)
      ∧ (sh.machine = .watch →
          (partner → role'.ship = back false) ∧ (¬partner → role' = heard ∧ t.txq = s.txq))
      ∧ (sh.machine = .claiming →
          (partner → role'.ship = back sh.pendingExpiry
              ∧ ∀ x ∈ t.txq, x.onWire = false → x.isFor .takeover g = false)
            ∧ (¬partner → ∀ w k, s.waitingTakeover g = some w → known = some k →
                (newer w k = true → role' = heard ∧ t.txq = s.txq)
                  ∧ (newer w k = false → role'.ship = back sh.pendingExpiry
                      ∧ ∀ x ∈ t.txq, x.onWire = false → x.isFor .takeover g = false)))
      ∧ (sh.machine = .listen →
          let shows := (∃ c, p = .status c ∧ c.role = .standby) ∨ (partner ∧ p = .takeover g e)
          t.txq = s.txq
            ∧ (shows → role'.ship = { sh with
                joinMark := true, other := some (n, e), otherSilence := .running (s.now + s.takeoverMs), known := known })
            ∧ (¬shows → role' = heard))
      ∧ (sh.machine = .displaced → ¬report → role' = heard ∧ t.txq = s.txq)
      ∧ (∀ m old, sh.machine = .displaced ∨ sh.machine = .reclaim → report → sh.other = some (m, old) →
          let counts := m = n ∨ newer e old = true
          let other := if newer e old then e else old
          let renewed : Ship := { sh with
            other := some (n, other), otherSilence := .running (s.now + s.takeoverMs), known := known }
          (¬counts → role' = heard)
            ∧ (counts → ¬(sh.machine = .reclaim ∧ sh.forcing = .silence) → role'.ship = renewed)
            ∧ (counts → sh.machine = .reclaim → sh.forcing = .silence → s.txq.length < 8 →
                role'.ship = { renewed with wait := .stopped, forcing := .clear, attempts := 1 }
                  ∧ Queued t s.stamp (.handback g other)
                  ∧ ∀ x ∈ t.txq, x.onWire = false → x.isFor .takeover g = false))
      ∧ (sh.machine = .reclaim → ¬report → ¬accepted → role' = heard)
      ∧ (sh.machine = .reclaim → ¬accepted → ¬ended →
          t.txq = match s.waitingTakeover g, known with
            | some w, some k =>
              if k = w ∨ newer k w = true then
                s.txq.map (fun x => if x.onWire = false ∧ x.isFor .takeover g = true
                  then { x with payload := .takeover g (k + 1) } else x)
              else s.txq
            | _, _ => s.txq)

/-- Every valid frame of a peer reaches the roster and the link silence timer (R150, R152, R154): the entry is renewed or
appended, an isolation ends and its cause leaves every role; in FAULTED the roster alone takes the frame.

A frame that no other block acts on (of a group without a role, or a DEMAND at a station without roles) posts PEER_JOINED for
a new sender and then REJOINED at the end of an isolation, and nothing else. At that end (R69, R154) a role whose causes are
gone goes from FAILSAFE to TRACKING at 100, the frozen timers run on from what they had left, and a primary in RECLAIM with no
HANDBACK waiting, no wait and the forcing mark clear queues a HANDBACK. (The premises leave the queue room.) -/
def Obligations.FrameReachesRoster : Prop :=
  ∀ (s : State) (n : Nat) (p : Payload),
    let known := s.peers.roster.any (fun x => x.station == n) = true
    let roster := if known
      then s.peers.roster.map (fun x => if x.station = n then { x with lastHeard := s.timeBase, heardAt := s.now, silent := false } else x)
      else s.peers.roster ++ [⟨n, s.timeBase, s.timeBase, s.now, false⟩]
    let joined := if known then s.notices
      else s.notices.push s.timeBase .peerJoined n (some (kindCode (payloadKind p) : Int))
    (TakesFrame s n p →
        ∃ t, exec (frameCommand n p) s = .next t
          ∧ t.peers.roster = roster ∧ t.peers.lastSender = n
          ∧ t.peers.linkTimer = .running (s.now + (s.timing.map (·.isolationS)).getD 0 * 1000) ∧ t.peers.isolated = false
          ∧ (s.peers.isolated = true → ∀ role ∈ t.roles, role.drive.causes.isolated = false)
          ∧ t.line = { s.line with state := .notIdle } ∧ t.ctl = s.ctl ∧ t.temps = s.temps ∧ t.badCount = s.badCount
          ∧ t.now = s.now ∧ t.port = s.port
          ∧ ((∃ g e, frameEpoch p = some (g, e) ∧ s.roleIndex g = none) ∨ (payloadKind p = .demand ∧ s.roles = []) →
              Settled s → s.txq.length + 2 * s.roles.length ≤ 8 →
              t.notices = (if s.peers.isolated then
                  joined.push s.timeBase .rejoined n (some (((s.now - s.peers.isolatedAt) / 1000 : Nat) : Int)) else joined)
                ∧ (s.peers.isolated = true → (s.roles.map (·.cfg.group)).Nodup →
                    ∀ (r : Nat) (role : Role), s.roles[r]? = some role →
                      let runsOn (timer : Timer) : Timer := match timer with
                        | .frozen left => .running (s.now + left)
                        | other => other
                      let asks := role.ship.machine = .reclaim ∧ s.waits .handback role.cfg.group = false
                        ∧ role.ship.wait = .stopped ∧ role.ship.forcing = .clear
                      ∃ role', t.roles[r]? = some role' ∧ role'.claims = role.claims
                        ∧ role'.ship = { role.ship with
                            silence := runsOn role.ship.silence, otherSilence := runsOn role.ship.otherSilence
                            wait := runsOn role.ship.wait
                            attempts := if asks then role.ship.attempts + 1 else role.ship.attempts }
                        ∧ (asks → Queued t s.stamp (.handback role.cfg.group ((role.ship.other.map (·.2)).getD 0)))
                        ∧ (JudgedOk s → role.drive.state = .failsafe → role.drive.causes = ⟨true, false, false⟩ →
                            role'.drive.state = .tracking ∧ role'.drive.level = 100))))
      ∧ (s.receiving = true → s.ctl.state = .faulted → stationOk n = true → p.wf = true → s.ctl.station ≠ some n → Settled s →
          payloadKind p ≠ .alert →
          exec (frameCommand n p) s = .next { s with
            line := { s.line with state := .notIdle }
            peers := { s.peers with roster := roster, lastSender := n }
            notices := joined })

/-- A STATUS and its group's view (R107). -/
def Obligations.ViewTakesStatus : Prop :=
  ∀ (s : State) (n : Nat) (c : StatusContent), TakesFrame s n (.status c) → s.peers.views.length = 16 →
    ∃ t, exec (.statusFrame n c) s = .next t
      ∧ (let taken : GroupView := ⟨n, c.epoch, c.role, c.drive, c.level, c.condition, c.speeds, s.now, false⟩
         (s.view c.group = none → t.view c.group = some taken)
          ∧ (∀ v, s.view c.group = some v → v.stale = true → t.view c.group = some taken)
          ∧ (∀ v, s.view c.group = some v → v.stale = false → newer v.epoch c.epoch = false → t.view c.group = some taken)
          ∧ (∀ v, s.view c.group = some v → v.stale = false → newer v.epoch c.epoch = true → t.view c.group = some v))
      ∧ (∀ g, g ≠ c.group → t.view g = s.view g)

/-- ALERT frames (R116 to R120): a critical peer is listed with its latest channel and reading, reported when new, and asserts
SHUTDOWN when it is in the enclosure list; a saturated peer is renewed or added with PEER_SATURATED for 15 s, and removed by
SATURATION_CLEAR; THROTTLE is evaluated. A critical peer is taken so in FAULTED too (R120). (The sender is in the roster and the
station is not isolated, so that no other notice is posted.) -/
def Obligations.AlertsTaken : Prop :=
  ∀ (s : State) (n : Nat), s.peers.isolated = false → s.peers.roster.any (fun x => x.station == n) = true → Settled s →
    (∀ ch v,
        TakesFrame s n (.alert .critical ch v)
          ∨ (s.receiving = true ∧ s.ctl.state = .faulted ∧ stationOk n = true ∧ (Payload.alert .critical ch v).wf = true
              ∧ s.ctl.station ≠ some n) →
        let listed := ((s.timing.map (·.enclosure)).getD []).contains n
        let held := s.peers.critPeers.any (fun x => x.station == n)
        ∃ t, exec (.alertFrame n .critical ch v) s = .next t
          ∧ t.peers.critPeers = (if held
              then s.peers.critPeers.map (fun x => if x.station = n then { x with channel := ch, reading := v } else x)
              else s.peers.critPeers ++ [⟨n, ch, v, listed⟩])
          ∧ t.shutdown = (s.shutdown || listed)
          ∧ t.notices = (if held then s.notices else s.notices.push s.timeBase .peerCritical n (some v))
          ∧ t.peers.board = s.peers.board ∧ t.throttle = s.throttle ∧ t.roles = s.roles ∧ t.txq = s.txq)
      ∧ (∀ g v, TakesFrame s n (.alert .saturation g v) →
          let member := (s.peers.board.getD g []).any (fun m => m.station == n)
          ∃ t, exec (.alertFrame n .saturation g v) s = .next t
            ∧ t.peers.board = s.peers.board.modify g (fun ms => if member
                then ms.map (fun m => if m.station = n then { m with due := s.now + 15000 } else m)
                else ms ++ [⟨n, s.now + 15000⟩])
            ∧ t.throttle = throttleCondition t
            ∧ t.notices = (if member then s.notices else s.notices.push s.timeBase .peerSaturated g (some (n : Int)))
            ∧ t.peers.critPeers = s.peers.critPeers ∧ t.shutdown = s.shutdown ∧ t.roles = s.roles ∧ t.txq = s.txq)
      ∧ (∀ g v, TakesFrame s n (.alert .saturationClear g v) →
          ∃ t, exec (.alertFrame n .saturationClear g v) s = .next t
            ∧ t.peers.board = s.peers.board.modify g (fun ms => ms.filter (·.station ≠ n))
            ∧ t.throttle = throttleCondition t ∧ t.notices = s.notices
            ∧ t.peers.critPeers = s.peers.critPeers ∧ t.shutdown = s.shutdown ∧ t.roles = s.roles ∧ t.txq = s.txq)

/-- Frames that reach no block: a valid frame with the own number faults the station with DUPLICATE_STATION in JOINING and
RUNNING and changes nothing in FAULTED; in LOADING every valid frame changes nothing; a frame with a field out of range is
counted. The line is NOT_IDLE after each. -/
def Obligations.FrameNotDelivered : Prop :=
  ∀ (s : State) (n : Nat) (p : Payload), s.receiving = true → Settled s →
    let s' : State := { s with line := { s.line with state := .notIdle } }
    (stationOk n = true → p.wf = true → s.ctl.station = some n → s.transmits = true →
        exec (frameCommand n p) s = .next (s'.enterFaulted .duplicateStation 0))
      ∧ (stationOk n = true → p.wf = true → s.ctl.station = some n → s.ctl.state = .faulted →
          exec (frameCommand n p) s = .next s')
      ∧ (stationOk n = true → p.wf = true → s.ctl.state = .loading → exec (frameCommand n p) s = .next s')
      ∧ ((stationOk n && p.wf) = false →
          exec (frameCommand n p) s = .next { s' with badCount := min 65535 (s.badCount + 1) })

/-- BAD_FRAME_RECEIVED and PULSE_ERROR (R127, R138, R139): a frame that fails the checks, and a pulse of a width or at a time
that Table 7-1 does not accept, end the frame, and the bad-frame count rises by 1 and stops at 65,535. -/
def Obligations.BadFrameCounted : Prop :=
  (∀ (s : State) (w : WireFrame), s.receiving = true → receptionCheck w = none →
      exec (.badFrameReceived w) s
        = .next { s with line := { s.line with state := .notIdle }, badCount := min 65535 (s.badCount + 1) })
    ∧ (∀ (s : State) (p : Pulse), s.receiving = true →
        let bad : Prop := match p with
          | .startLow ns => ns < 20000 ∨ 28000 < ns
          | .cellLow ns => ns < 1000 ∨ (3000 < ns ∧ ns < 5000) ∨ 7000 < ns
          | .firstEdge ns => ns < 30000 ∨ 34000 < ns
          | .nextEdge ns => ns < 7000 ∨ 9000 < ns
        (bad → exec (.pulseError p) s
            = .next { s with line := { s.line with state := .notIdle }, badCount := min 65535 (s.badCount + 1) })
          ∧ (¬bad → exec (.pulseError p) s = .next s))
    ∧ ∀ (w : WireFrame),
        (w.crc ≠ crcOf (coveredBits w) ∨ w.length.toNat ≠ w.payload.length ∨ w.sender.toNat = 0 ∨ w.sender.toNat = 31
          ∨ w.kind.toNat = 0 ∨ w.kind.toNat = 7) → receptionCheck w = none

/-! ### The Peer Unit's times -/

/-- VIEW_STALE, BOARD_RENEWAL_EXPIRY, ROSTER_SILENT and ROSTER_LOSS, each at its time. That ROSTER_LOSS removes an entry still
PRESENT too is the model's choice (log entry 27).
(An expiry given late sets the clock to the later of its present value and the timer's end: log entry 2.) -/
def Obligations.PeerTimesRunOut : Prop :=
  ∀ (s : State),
    (∀ g v, s.view g = some v → v.stale = false →
        exec (.viewStale g) s
          = .next { s with
              now := max s.now (v.takenAt + 3000)
              peers := { s.peers with views := s.peers.views.set g (some { v with stale := true }) } })
      ∧ (∀ g n m, (s.peers.board.getD g []).find? (fun m => m.station == n) = some m →
          let s' : State := { s with
            now := max s.now m.due
            peers := { s.peers with board := s.peers.board.modify g (fun ms => ms.filter (·.station ≠ n)) } }
          exec (.boardRenewalExpiry g n) s = .next { s' with throttle := throttleCondition s' })
      ∧ (∀ n x, s.peers.roster.find? (fun x => x.station == n) = some x → x.silent = false →
          exec (.rosterSilent n) s
            = .next { s with
                now := max s.now (x.heardAt + 5000)
                peers := { s.peers with
                  roster := s.peers.roster.map (fun y => if y.station = n then { y with silent := true } else y) } })
      ∧ (∀ n x, s.peers.roster.find? (fun x => x.station == n) = some x →
          let s' : State := { s with
            now := max s.now (x.heardAt + 30000)
            peers := { s.peers with
              roster := s.peers.roster.filter (·.station ≠ n)
              board := s.peers.board.map (fun ms => ms.filter (·.station ≠ n)) }
            notices := s.notices.push (s.until (x.heardAt + 30000)).timeBase .peerLost n (some (x.lastHeard : Int)) }
          exec (.rosterLoss n) s = .next { s' with throttle := throttleCondition s' })

/-- LINK_SILENCE_EXPIRY (R69, R152, R153): a solitary station restarts its timer; a RUNNING one becomes ISOLATED: the cause
joins every role's set, driven roles go to FAILSAFE at 100, role timers freeze, TAKEOVER frames not on the wire are withdrawn.
That the forcing mark is cleared also where the forced TAKEOVER was discarded before is the model's reading (log entry 17).
(An expiry given late sets the clock to the later of its present value and the timer's end: log entry 2.) -/
def Obligations.IsolationBegins : Prop :=
  ∀ (s : State) (due : Nat), s.peers.linkTimer = .running due →
    (s.solitary = true →
        exec .linkSilenceExpiry s
          = .next { s with
              now := max s.now due
              peers := { s.peers with
                linkTimer := .running (max s.now due + (s.timing.map (·.isolationS)).getD 0 * 1000) } })
      ∧ (s.solitary = false → s.ctl.state = .running → s.peers.isolated = false → Settled s →
          (s.roles.map (·.cfg.group)).Nodup → s.txq.length + s.roles.length ≤ 8 →
          ∃ t, exec .linkSilenceExpiry s = .next t ∧ t.now = max s.now due
            ∧ t.peers = { s.peers with isolated := true, isolatedAt := max s.now due, linkTimer := .stopped }
            ∧ t.notices = s.notices.push (s.until due).timeBase .isolated 0 (some (s.peers.lastSender : Int))
            ∧ (∀ (r : Nat) (role : Role), s.roles[r]? = some role →
                ∃ role', t.roles[r]? = some role' ∧ role'.drive.causes.isolated = true ∧ role'.claims = role.claims
                  ∧ (role.drive.causes.isolated = false → role.drive.state ≠ .released → role.drive.state ≠ .failsafe →
                      role'.drive.state = .failsafe ∧ role'.drive.level = 100)
                  ∧ (role.drive.state = .released → role'.drive.state = .released)
                  ∧ role'.ship.otherSilence = role.ship.otherSilence.freeze (max s.now due)
                  ∧ role'.ship.wait = role.ship.wait.freeze (max s.now due)
                  ∧ (¬(role.ship.machine = .claiming ∧ s.onWireFor .takeover role.cfg.group = false) →
                      role'.ship.machine = role.ship.machine
                        ∧ role'.ship.silence = role.ship.silence.freeze (max s.now due))
                  ∧ (role.ship.machine = .claiming → s.onWireFor .takeover role.cfg.group = false →
                      role'.ship.machine = .watch ∧ role'.ship.silence = .frozen s.takeoverMs
                        ∧ t.waits .takeover role.cfg.group = false)
                  ∧ (role.ship.machine = .reclaim → role.ship.forcing ≠ .clear →
                      s.onWireFor .takeover role.cfg.group = false →
                      role'.ship.forcing = .clear ∧ role'.ship.attempts = 0 ∧ t.waits .takeover role.cfg.group = false))
            ∧ t.ctl = s.ctl ∧ t.temps = s.temps ∧ t.demand = s.demand ∧ t.badCount = s.badCount)

/-! ### The line -/

/-- LINE_IDLE, START_MARK and LINE_STUCK: an idle line closes a stuck episode and starts the head frame, or waits idle; where
the edge of a peer's start mark falls with it and is taken first, nothing is started, and the line is in FRAME (R124). A peer's
start mark begins on an IDLE line alone; a stuck line counts the frame being received and posts LINK_STUCK when no episode is
open. In RESET_HELD none of the three has an effect. -/
def Obligations.LineEvents : Prop :=
  ∀ s : State, s.ownOnWire = false →
    let at' (l : Line) : State := { s with line := l }
    (s.started = true →
        (s.line.state = .notIdle ∨ s.line.state = .stuck →
            (∀ e rest, s.transmits = true → s.txq = e :: rest →
                exec (.lineIdle false) s
                  = .next { s with line := ⟨.frame, false⟩, txq := { e with onWire := true } :: rest })
              ∧ (s.transmits = false ∨ s.txq = [] → exec (.lineIdle false) s = .next (at' ⟨.idle, false⟩))
              ∧ exec (.lineIdle true) s = .next (at' ⟨.frame, false⟩))
          ∧ (s.line.state = .idle → exec .startMark s = .next (at' { s.line with state := .frame }))
          ∧ (s.line.state ≠ .idle → exec .startMark s = .next s)
          ∧ exec .lineStuck s
            = .next { s with
                line := ⟨.stuck, true⟩
                badCount := if s.line.state = .frame then min 65535 (s.badCount + 1) else s.badCount
                notices := if s.line.stuckOpen then s.notices else s.notices.push s.timeBase .linkStuck 0 none })
      ∧ (s.started = false →
          (∀ first, exec (.lineIdle first) s = .next s) ∧ exec .startMark s = .next s ∧ exec .lineStuck s = .next s)

/-- CONTENTION_LOSS and OVERLAP in the station's own frame (R129 to R131, R144): the frame goes back to waiting at its place,
with its successor's content if it holds one; a lost contention clears its overlap count, an overlap raises it, and a third
overlap in a row faults the station. A pulse error in the own frame is an overlap. -/
def Obligations.ContentionAndOverlap : Prop :=
  ∀ (s : State) (q : QEntry), s.ownFrame = some q →
    let cells := s.ownCells q.payload
    let putBack (overlaps : Nat → Nat) : List QEntry := s.txq.map (fun x =>
      if x.onWire then
        { x with
          onWire := false, overlaps := overlaps x.overlaps, successor := none
          payload := match x.successor with
            | some (c, _) => .status c
            | none => x.payload }
      else x)
    (∀ cell, 1 ≤ cell → cell ≤ 7 →
        (cells.getD (cell - 1) false = true →
            exec (.contentionLoss cell) s = .next { s with txq := putBack (fun _ => 0) })
          ∧ (cells.getD (cell - 1) false = false → exec (.contentionLoss cell) s = .next s))
      ∧ (∀ m, (∃ n, m = .cell n ∧ ((8 ≤ n ∧ n ≤ cells.length) ∨ (1 ≤ n ∧ n ≤ 7 ∧ cells.getD (n - 1) false = false)))
            ∨ (∃ p, m = .pulse p ∧ pulseIsError p = true) →
          (q.overlaps < 2 →
              exec (.overlap m) s
                = .next { s with line := { s.line with state := .notIdle }, txq := putBack (· + 1) })
            ∧ (2 ≤ q.overlaps →
                exec (.overlap m) s
                  = .next (State.enterFaulted { s with line := { s.line with state := .notIdle } } .duplicateStation 0)))
      ∧ ∀ p, pulseIsError p = true → exec (.pulseError p) s = exec (.overlap (.pulse p)) s

/-- What contenders drive (R125, R126, R128): a start mark of 24 µs each, which a receiver measures from the earliest start to
the latest release; each cell at the contender's own edge, 32 µs after the start mark's edge or 8 µs after the edge before, or
at an earlier edge on the line in the accepted window; 2 µs low for a 1 and 6 µs for a 0. No edge that a contender takes, and
none of its lows, is a pulse error, and a frame that meets no earlier edge lasts as long as R128 says.

What contention decides (R128, R129, R135): the precedence field is the frame's first seven cells, and of two such fields
the one with the higher class number, or with the higher sender of one class, loses at a cell where it sends 1. -/
def Obligations.PrecedenceDecides : Prop :=
  (∀ (delay : Nat) (delays : List Nat), delay ∈ 0 :: delays → delay + 24000 ≤ startMarkLow delays)
    ∧ (∀ delays : List Nat, ∃ delay ∈ 0 :: delays, startMarkLow delays = delay + 24000)
    ∧ (∀ delays : List Nat, (∀ delay ∈ delays, delay ≤ 4000) ↔ pulseIsError (.startLow (startMarkLow delays)) = false)
    ∧ (∀ first : Bool,
        let due := if first then 32000 else 8000
        let opens := if first then 30000 else 7000
        cellEdge first none = some due
          ∧ (∀ fall, opens ≤ fall → fall < due → cellEdge first (some fall) = some fall)
          ∧ (∀ fall, due ≤ fall → cellEdge first (some fall) = some due)
          ∧ (∀ fall, fall < opens → cellEdge first (some fall) = none)
          ∧ ∀ fall ns, cellEdge first fall = some ns →
              pulseIsError (if first then .firstEdge ns else .nextEdge ns) = false)
    ∧ (∀ bit : Bool, cellBit (if bit then 2000 else 6000) = some bit ∧ pulseIsError (.cellLow (if bit then 2000 else 6000)) = false)
    ∧ (∀ (delay n : Nat) (p : Payload),
        let cells := wireCells (wireOf n p)
        drivenLows delay cells []
            = (delay, 24000) :: cells.mapIdx (fun i bit => (32000 + 8000 * i, if bit then 2000 else 6000))
          ∧ 32000 + 8000 * cells.length = 1000 * frameMicros (payloadBytes p).length)
    ∧ (∀ (first : Bool) (t : Nat) (bit : Bool) (cells : List Bool) (fall : Option Nat) (falls : List (Option Nat)),
        cellLows first t (bit :: cells) (fall :: falls) = match cellEdge first fall with
          | none => []
          | some ns => (t + ns, if bit then 2000 else 6000) :: cellLows false (t + ns) cells falls)
    ∧ (∀ (n : Nat) (p : Payload),
        (wireCells (wireOf n p)).take 7 = precedenceCells (BitVec.ofNat 2 (payloadClass p)) (BitVec.ofNat 5 n))
    ∧ ∀ (c c' : BitVec 2) (n n' : BitVec 5),
        ((∃ k, lostCell (precedenceCells c n) (precedenceCells c' n') = some k)
            ↔ c'.toNat < c.toNat ∨ (c' = c ∧ n'.toNat < n.toNat))
          ∧ ∀ k, lostCell (precedenceCells c n) (precedenceCells c' n') = some k →
              losesAt (precedenceCells c n) k = true

/-! ### The transmit queue -/

/-- A frame offered in JOINING or RUNNING (R143, R144, R146): it coalesces, enters at its place (and starts on an IDLE line),
evicts the latest waiting frame of the highest class below its own, or is discarded; the discarded frame, the new one or the
evicted one, is reported by TX_OVERFLOW and, a TAKEOVER or HANDBACK, to its role (R68, `toldOfDiscard`; an image names no group
in two roles), and nothing else changes; a frame offered in any other state changes nothing. (The queued-at instant is an
ever-rising number, the model's choice where R143 lets two frames be offered at one instant, log entry 6.) -/
def Obligations.QueueTakesFrame : Prop :=
  ∀ (s : State) (p : Payload), QueueOk s →
    let t := s.offer p
    let value (f : Payload) : Option Int := match f with
      | .demand _ => none
      | _ => some (payloadSubject f)
    let overflow (f : Payload) : Notices := s.notices.push s.timeBase .txOverflow (kindCode (payloadKind f)) (value f)
    (s.transmits = false → t = s)
      ∧ (s.transmits = true →
          (∀ items, p = .demand items → s.demandWaits = true →
              t = { s with
                stamp := s.stamp + 1
                txq := s.txq.map (fun e =>
                  if payloadKind e.payload = .demand ∧ e.onWire = false then { e with payload := p } else e) })
            ∧ (∀ c, p = .status c → (∃ e ∈ s.txq, e.isFor .status c.group = true) →
                t = { s with
                  stamp := s.stamp + 1
                  txq := s.txq.map (fun e =>
                    if e.isFor .status c.group then
                      (if e.onWire then { e with successor := some (c, (e.successor.map (·.2)).getD s.stamp) }
                       else { e with payload := p })
                    else e) })
            ∧ ((payloadKind p = .demand → s.demandWaits = false) →
                (∀ c, p = .status c → ∀ e ∈ s.txq, e.isFor .status c.group = false) →
                let new : QEntry := ⟨p, s.stamp, 0, false, none⟩
                (s.txq.length < 8 →
                    ∃ before after, s.txq = before ++ after
                      ∧ (∀ e ∈ before, payloadClass e.payload ≤ payloadClass p)
                      ∧ (∀ e ∈ after, payloadClass p < payloadClass e.payload)
                      ∧ t = { s with
                        stamp := s.stamp + 1
                        txq := if s.line.state = .idle then markHead (before ++ new :: after) else before ++ new :: after
                        line := if s.line.state = .idle then { s.line with state := .frame } else s.line })
                  ∧ (s.txq.length = 8 → (s.roles.map (·.cfg.group)).Nodup →
                      (∀ e ∈ s.txq, e.onWire = true ∨ payloadClass e.payload ≤ payloadClass p) →
                      t = { s with notices := overflow p, roles := s.roles.map (toldOfDiscard s p) })
                  ∧ (s.txq.length = 8 → (s.roles.map (·.cfg.group)).Nodup →
                      ∀ v ∈ s.txq, v.onWire = false → payloadClass p < payloadClass v.payload →
                      (∀ e ∈ s.txq, e.onWire = false → payloadClass e.payload ≤ payloadClass v.payload
                        ∧ (payloadClass e.payload = payloadClass v.payload → e.stamp ≤ v.stamp)) →
                      ∃ before after, s.txq.erase v = before ++ after
                        ∧ (∀ e ∈ before, payloadClass e.payload ≤ payloadClass p)
                        ∧ (∀ e ∈ after, payloadClass p < payloadClass e.payload)
                        ∧ t = { s with
                          stamp := s.stamp + 1
                          txq := if s.line.state = .idle then markHead (before ++ new :: after) else before ++ new :: after
                          line := if s.line.state = .idle then { s.line with state := .frame } else s.line
                          notices := overflow v.payload
                          roles := s.roles.map (toldOfDiscard s v.payload) })))

/-! ### The service port -/

/-- The selections (R170, R171): each accepted view code replaces the selection and nothing else; an index out of its range,
and a write that R170 refuses or that is for another address, change nothing; in RESET_HELD the port takes nothing. The start
of a transaction ends the one in progress (`newTransaction`), which changes nothing where no write is held.

A write that arrives in parts (R169, R170): each byte is held with its acknowledgement, judged as it arrives, and no other
block changes. At its end a write of which every byte was acknowledged acts as its command does, and any other changes
nothing. (That WRITE_REFUSED carries the parts of a write is the model's choice, log entries 19 and 35.) -/
def Obligations.ViewsSelected : Prop :=
  ∀ s : State,
    let u := newTransaction s
    let taken (v : View) (t : Host.Outcome State Fault Refusal) : Prop := t = .next { u with port := { u.port with selection := v } }
    let own (a : BitVec 7) : Prop := s.ctl.offset.map (0x36 + ·) = some a.toNat
    (s.started = true → s.port.held = [] → u = { s with port := { s.port with transfer := .idle } })
      ∧ (s.started = true →
        taken .station (exec .stationView s) ∧ taken .roster (exec .rosterView s) ∧ taken .demand (exec .demandView s)
          ∧ taken .satboard (exec .satboardView s) ∧ taken .notice (exec .noticeView s) ∧ taken .counts (exec .countsView s)
          ∧ ∀ i : Byte,
              (i.toNat ≤ 7 → taken (.channel i.toNat) (exec (.channelView i) s))
                ∧ (7 < i.toNat → exec (.channelView i) s = .next u)
                ∧ (i.toNat ≤ 5 → taken (.fan i.toNat) (exec (.fanView i) s))
                ∧ (5 < i.toNat → exec (.fanView i) s = .next u)
                ∧ (i.toNat < u.roles.length →
                    taken (.role i.toNat) (exec (.roleView i) s) ∧ taken (.claims i.toNat) (exec (.claimsView i) s))
                ∧ (u.roles.length ≤ i.toNat →
                    exec (.roleView i) s = .next u ∧ exec (.claimsView i) s = .next u)
                ∧ (i.toNat ≤ 15 → taken (.groupview i.toNat) (exec (.groupviewView i) s))
                ∧ (15 < i.toNat → exec (.groupviewView i) s = .next u))
      ∧ (∀ (a : BitVec 7) (bytes : List Byte),
          let refused : Prop := match bytes with
            | [] => True
            | [code] => code.toNat ∉ [0x01, 0x07, 0x08, 0x09, 0x0A, 0x0B, 0x40, 0x41, 0x4F]
            | [code, index] => ¬((code.toNat = 2 ∧ index.toNat ≤ 7) ∨ (code.toNat = 3 ∧ index.toNat ≤ 5)
                ∨ ((code.toNat = 4 ∨ code.toNat = 5) ∧ index.toNat < s.roles.length)
                ∨ (code.toNat = 6 ∧ index.toNat ≤ 15))
            | _ => True
          (s.port.held = [] → refused → exec (.writeRefused a bytes true) s = .next u)
            ∧ (¬own a → ∀ ended, exec (.writeRefused a bytes ended) s = .next u))
      ∧ (s.started = true → ∀ (a : BitVec 7), own a →
          (∀ (byte : Byte), ∃ accepted : Bool,
              exec (.writeRefused a [byte] false) s
                  = .next { s with port := { s.port with transfer := .write (s.port.held ++ [(byte, accepted)]) } }
                ∧ (accepted = true ↔
                    (s.port.held = []
                        ∧ byte.toNat ∈ [0x01, 0x02, 0x03, 0x04, 0x05, 0x06, 0x07, 0x08, 0x09, 0x0A, 0x0B, 0x40, 0x41, 0x4F])
                      ∨ ∃ code ack, s.port.held = [(code, ack)]
                        ∧ ((code.toNat = 2 ∧ byte.toNat ≤ 7) ∨ (code.toNat = 3 ∧ byte.toNat ≤ 5)
                          ∨ ((code.toNat = 4 ∨ code.toNat = 5) ∧ byte.toNat < s.roles.length)
                          ∨ (code.toNat = 6 ∧ byte.toNat ≤ 15))))
            ∧ (∀ (byte : Byte) (bytes : List Byte) (ended : Bool) (t : State), exec (.writeRefused a [byte] false) s = .next t →
                exec (.writeRefused a (byte :: bytes) ended) s = exec (.writeRefused a bytes ended) t)
            ∧ exec (.writeRefused a [] true) s = .next u)
      ∧ (s.started = true → s.port.held = [] →
          let holding (bytes : List Byte) : State :=
            { s with port := { s.port with transfer := .write (bytes.map (fun b => (b, true))) } }
          (∀ c ∈ [((Instr.stationView, 0x01) : Instr × Byte), (.rosterView, 0x07), (.demandView, 0x08), (.satboardView, 0x09),
              (.noticeView, 0x0A), (.countsView, 0x0B), (.takeNotice, 0x40), (.clearLatches, 0x41), (.restart s.ctl.straps, 0x4F)],
            exec c.1 s = .next (newTransaction (holding [c.2])))
            ∧ (∀ i : Byte,
                newTransaction (holding [0x02, i]) = { u with port := { u.port with selection := .channel i.toNat } }
                  ∧ newTransaction (holding [0x03, i]) = { u with port := { u.port with selection := .fan i.toNat } }
                  ∧ newTransaction (holding [0x04, i]) = { u with port := { u.port with selection := .role i.toNat } }
                  ∧ newTransaction (holding [0x05, i]) = { u with port := { u.port with selection := .claims i.toNat } }
                  ∧ newTransaction (holding [0x06, i]) = { u with port := { u.port with selection := .groupview i.toNat } })
            ∧ ∀ held : List (Byte × Bool),
                (∃ x ∈ held, x.2 = false) ∨ held = [] ∨ (∃ code ack, held = [(code, ack)] ∧ code.toNat ∈ [2, 3, 4, 5, 6]) →
                newTransaction { s with port := { s.port with transfer := .write held } } = u)
      ∧ (s.started = false → u = s ∧ ∀ (i : Byte) (straps : Straps),
          ∀ c ∈ [Instr.stationView, .rosterView, .demandView, .satboardView, .noticeView, .countsView, .channelView i,
              .fanView i, .roleView i, .claimsView i, .groupviewView i, .takeNotice, .clearLatches, .restart straps],
            exec c s = .next s)

/-- READ_TRANSACTION (R172): the snapshot is the selected view's bytes, and the read returns them from the first, then 0; the
views have the fields of Table 12-4 in its order, with the codes of Tables 12-5 and 12-6. A write in progress, which the read's
repeated START ends, is taken before the snapshot. The read is then the transaction in progress (R169). A read of another
address changes nothing else. (The model's choices: a notice value beyond two bytes shows modulo 65,536, log entry 38; the
duty of a released output shows 0, log entry 14; what a view shows of the configuration while none is held is 0, log
entry 13.) -/
def Obligations.ReadReturns : Prop :=
  (∀ (s : State) (a : BitVec 7) (count : Nat),
    let u := newTransaction s
    (u.started = true → u.ctl.offset.map (0x36 + ·) = some a.toNat →
        ∃ snapshot, exec (.readTransaction a count) s
            = .next { u with port := { u.port with
                snapshot := snapshot, sent := (List.range count).map (fun i => snapshot.getD i 0), transfer := .read } }
          ∧ snapshot = u.viewBytes u.port.selection
          ∧ snapshot = laidOut (viewFields u u.port.selection)
          ∧ (match u.port.selection with
              | .station => snapshot.length = 16
              | .channel _ => snapshot.length = 20
              | .fan _ => snapshot.length = 7
              | .role r => r < u.roles.length → snapshot.length = 31
              | .claims r => ∀ role, u.roles[r]? = some role → snapshot.length = 4 + 8 * role.claims.entries.length
              | .groupview _ => snapshot.length = 20
              | .roster => snapshot.length = 6 + 9 * u.peers.roster.length
              | .demand => snapshot.length = 6 + 12 * u.demand.entries.length
              | .satboard => True
              | .notice => snapshot.length = 14
              | .counts => snapshot.length = 9 + 2 * u.txq.length))
      ∧ (u.started = false ∨ u.ctl.offset.map (0x36 + ·) ≠ some a.toNat → exec (.readTransaction a count) s = .next u))
    ∧ CodesOfViews

/-- TAKE_NOTICE (R173, R181): the head notice leaves the queue; ALERT follows the queue; an empty queue stays as it is; the
command's code byte is acknowledged. (The start of its transaction ends the one in progress, as `ViewsSelected` states.) -/
def Obligations.NoticeTaken : Prop :=
  ∀ s : State, s.started = true →
    let u := newTransaction s
    (∀ head rest, u.notices.queue = head :: rest →
        exec .takeNotice s
          = .next { u with notices := { u.notices with queue := rest, alertLine := decide (rest ≠ []) } })
      ∧ (NoticesOk u → u.notices.queue = [] → exec .takeNotice s = .next u)
      ∧ s.acknowledges [] 0x40 = true

/-- CLEAR_LATCHES (R82, R174): the limit latch of every channel in BELOW is cleared, every other stays; the dropped count
becomes 0; the notices and the next sequence number stay. (The start of its transaction ends the one in progress, as
`ViewsSelected` states.) -/
def Obligations.LatchesCleared : Prop :=
  ∀ s : State, s.started = true →
    let u := newTransaction s
    exec .clearLatches s
      = .next { u with
          temps := u.temps.map (fun c => { c with latch := c.latch && c.watch == .above })
          notices := { u.notices with dropped := 0 } }

end
end

