-- ==== Sys2Proof/Laws/State.lean ====
section
/-! SUPPORT. One lemma for each field of State and each named update, so that no proof unfolds a record update. -/

namespace Sys2Proof.Machine.State

@[simp] theorem until_pending (s : State) (due : Nat) : (s.until due).pending = s.pending := rfl
@[simp] theorem until_now (s : State) (due : Nat) : (s.until due).now = max s.now due := rfl
@[simp] theorem until_choices (s : State) (due : Nat) : (s.until due).choices = s.choices := rfl
@[simp] theorem until_stamp (s : State) (due : Nat) : (s.until due).stamp = s.stamp := rfl
@[simp] theorem until_ctl (s : State) (due : Nat) : (s.until due).ctl = s.ctl := rfl
@[simp] theorem until_timing (s : State) (due : Nat) : (s.until due).timing = s.timing := rfl
@[simp] theorem until_temps (s : State) (due : Nat) : (s.until due).temps = s.temps := rfl
@[simp] theorem until_roundTimer (s : State) (due : Nat) : (s.until due).roundTimer = s.roundTimer := rfl
@[simp] theorem until_demand (s : State) (due : Nat) : (s.until due).demand = s.demand := rfl
@[simp] theorem until_roles (s : State) (due : Nat) : (s.until due).roles = s.roles := rfl
@[simp] theorem until_fans (s : State) (due : Nat) : (s.until due).fans = s.fans := rfl
@[simp] theorem until_peers (s : State) (due : Nat) : (s.until due).peers = s.peers := rfl
@[simp] theorem until_line (s : State) (due : Nat) : (s.until due).line = s.line := rfl
@[simp] theorem until_txq (s : State) (due : Nat) : (s.until due).txq = s.txq := rfl
@[simp] theorem until_badCount (s : State) (due : Nat) : (s.until due).badCount = s.badCount := rfl
@[simp] theorem until_shutdown (s : State) (due : Nat) : (s.until due).shutdown = s.shutdown := rfl
@[simp] theorem until_throttle (s : State) (due : Nat) : (s.until due).throttle = s.throttle := rfl
@[simp] theorem until_notices (s : State) (due : Nat) : (s.until due).notices = s.notices := rfl
@[simp] theorem until_port (s : State) (due : Nat) : (s.until due).port = s.port := rfl

@[simp] theorem tick_pending (s : State) : (s.tick).pending = s.pending := rfl
@[simp] theorem tick_now (s : State) : (s.tick).now = s.now + 1 := rfl
@[simp] theorem tick_choices (s : State) : (s.tick).choices = s.choices := rfl
@[simp] theorem tick_stamp (s : State) : (s.tick).stamp = s.stamp := rfl
@[simp] theorem tick_ctl (s : State) : (s.tick).ctl = s.ctl := rfl
@[simp] theorem tick_timing (s : State) : (s.tick).timing = s.timing := rfl
@[simp] theorem tick_temps (s : State) : (s.tick).temps = s.temps := rfl
@[simp] theorem tick_roundTimer (s : State) : (s.tick).roundTimer = s.roundTimer := rfl
@[simp] theorem tick_demand (s : State) : (s.tick).demand = s.demand := rfl
@[simp] theorem tick_roles (s : State) : (s.tick).roles = s.roles := rfl
@[simp] theorem tick_fans (s : State) : (s.tick).fans = s.fans := rfl
@[simp] theorem tick_peers (s : State) : (s.tick).peers = s.peers := rfl
@[simp] theorem tick_line (s : State) : (s.tick).line = s.line := rfl
@[simp] theorem tick_txq (s : State) : (s.tick).txq = s.txq := rfl
@[simp] theorem tick_badCount (s : State) : (s.tick).badCount = s.badCount := rfl
@[simp] theorem tick_shutdown (s : State) : (s.tick).shutdown = s.shutdown := rfl
@[simp] theorem tick_throttle (s : State) : (s.tick).throttle = s.throttle := rfl
@[simp] theorem tick_notices (s : State) : (s.tick).notices = s.notices := rfl
@[simp] theorem tick_port (s : State) : (s.tick).port = s.port := rfl

@[simp] theorem post_pending (s : State) (k : NoticeKind) (n : Nat) (v : Option Int) : (s.post k n v).pending = s.pending := rfl
@[simp] theorem post_now (s : State) (k : NoticeKind) (n : Nat) (v : Option Int) : (s.post k n v).now = s.now := rfl
@[simp] theorem post_choices (s : State) (k : NoticeKind) (n : Nat) (v : Option Int) : (s.post k n v).choices = s.choices := rfl
@[simp] theorem post_stamp (s : State) (k : NoticeKind) (n : Nat) (v : Option Int) : (s.post k n v).stamp = s.stamp := rfl
@[simp] theorem post_ctl (s : State) (k : NoticeKind) (n : Nat) (v : Option Int) : (s.post k n v).ctl = s.ctl := rfl
@[simp] theorem post_timing (s : State) (k : NoticeKind) (n : Nat) (v : Option Int) : (s.post k n v).timing = s.timing := rfl
@[simp] theorem post_temps (s : State) (k : NoticeKind) (n : Nat) (v : Option Int) : (s.post k n v).temps = s.temps := rfl
@[simp] theorem post_roundTimer (s : State) (k : NoticeKind) (n : Nat) (v : Option Int) : (s.post k n v).roundTimer = s.roundTimer := rfl
@[simp] theorem post_demand (s : State) (k : NoticeKind) (n : Nat) (v : Option Int) : (s.post k n v).demand = s.demand := rfl
@[simp] theorem post_roles (s : State) (k : NoticeKind) (n : Nat) (v : Option Int) : (s.post k n v).roles = s.roles := rfl
@[simp] theorem post_fans (s : State) (k : NoticeKind) (n : Nat) (v : Option Int) : (s.post k n v).fans = s.fans := rfl
@[simp] theorem post_peers (s : State) (k : NoticeKind) (n : Nat) (v : Option Int) : (s.post k n v).peers = s.peers := rfl
@[simp] theorem post_line (s : State) (k : NoticeKind) (n : Nat) (v : Option Int) : (s.post k n v).line = s.line := rfl
@[simp] theorem post_txq (s : State) (k : NoticeKind) (n : Nat) (v : Option Int) : (s.post k n v).txq = s.txq := rfl
@[simp] theorem post_badCount (s : State) (k : NoticeKind) (n : Nat) (v : Option Int) : (s.post k n v).badCount = s.badCount := rfl
@[simp] theorem post_shutdown (s : State) (k : NoticeKind) (n : Nat) (v : Option Int) : (s.post k n v).shutdown = s.shutdown := rfl
@[simp] theorem post_throttle (s : State) (k : NoticeKind) (n : Nat) (v : Option Int) : (s.post k n v).throttle = s.throttle := rfl
@[simp] theorem post_notices (s : State) (k : NoticeKind) (n : Nat) (v : Option Int) : (s.post k n v).notices = s.notices.push s.timeBase k n v := rfl
@[simp] theorem post_port (s : State) (k : NoticeKind) (n : Nat) (v : Option Int) : (s.post k n v).port = s.port := rfl

@[simp] theorem modRole_pending (s : State) (r : Nat) (f : Role → Role) : (s.modRole r f).pending = s.pending := rfl
@[simp] theorem modRole_now (s : State) (r : Nat) (f : Role → Role) : (s.modRole r f).now = s.now := rfl
@[simp] theorem modRole_choices (s : State) (r : Nat) (f : Role → Role) : (s.modRole r f).choices = s.choices := rfl
@[simp] theorem modRole_stamp (s : State) (r : Nat) (f : Role → Role) : (s.modRole r f).stamp = s.stamp := rfl
@[simp] theorem modRole_ctl (s : State) (r : Nat) (f : Role → Role) : (s.modRole r f).ctl = s.ctl := rfl
@[simp] theorem modRole_timing (s : State) (r : Nat) (f : Role → Role) : (s.modRole r f).timing = s.timing := rfl
@[simp] theorem modRole_temps (s : State) (r : Nat) (f : Role → Role) : (s.modRole r f).temps = s.temps := rfl
@[simp] theorem modRole_roundTimer (s : State) (r : Nat) (f : Role → Role) : (s.modRole r f).roundTimer = s.roundTimer := rfl
@[simp] theorem modRole_demand (s : State) (r : Nat) (f : Role → Role) : (s.modRole r f).demand = s.demand := rfl
@[simp] theorem modRole_roles (s : State) (r : Nat) (f : Role → Role) : (s.modRole r f).roles = s.roles.modify r f := rfl
@[simp] theorem modRole_fans (s : State) (r : Nat) (f : Role → Role) : (s.modRole r f).fans = s.fans := rfl
@[simp] theorem modRole_peers (s : State) (r : Nat) (f : Role → Role) : (s.modRole r f).peers = s.peers := rfl
@[simp] theorem modRole_line (s : State) (r : Nat) (f : Role → Role) : (s.modRole r f).line = s.line := rfl
@[simp] theorem modRole_txq (s : State) (r : Nat) (f : Role → Role) : (s.modRole r f).txq = s.txq := rfl
@[simp] theorem modRole_badCount (s : State) (r : Nat) (f : Role → Role) : (s.modRole r f).badCount = s.badCount := rfl
@[simp] theorem modRole_shutdown (s : State) (r : Nat) (f : Role → Role) : (s.modRole r f).shutdown = s.shutdown := rfl
@[simp] theorem modRole_throttle (s : State) (r : Nat) (f : Role → Role) : (s.modRole r f).throttle = s.throttle := rfl
@[simp] theorem modRole_notices (s : State) (r : Nat) (f : Role → Role) : (s.modRole r f).notices = s.notices := rfl
@[simp] theorem modRole_port (s : State) (r : Nat) (f : Role → Role) : (s.modRole r f).port = s.port := rfl

@[simp] theorem modShip_pending (s : State) (r : Nat) (f : Ship → Ship) : (s.modShip r f).pending = s.pending := rfl
@[simp] theorem modShip_now (s : State) (r : Nat) (f : Ship → Ship) : (s.modShip r f).now = s.now := rfl
@[simp] theorem modShip_choices (s : State) (r : Nat) (f : Ship → Ship) : (s.modShip r f).choices = s.choices := rfl
@[simp] theorem modShip_stamp (s : State) (r : Nat) (f : Ship → Ship) : (s.modShip r f).stamp = s.stamp := rfl
@[simp] theorem modShip_ctl (s : State) (r : Nat) (f : Ship → Ship) : (s.modShip r f).ctl = s.ctl := rfl
@[simp] theorem modShip_timing (s : State) (r : Nat) (f : Ship → Ship) : (s.modShip r f).timing = s.timing := rfl
@[simp] theorem modShip_temps (s : State) (r : Nat) (f : Ship → Ship) : (s.modShip r f).temps = s.temps := rfl
@[simp] theorem modShip_roundTimer (s : State) (r : Nat) (f : Ship → Ship) : (s.modShip r f).roundTimer = s.roundTimer := rfl
@[simp] theorem modShip_demand (s : State) (r : Nat) (f : Ship → Ship) : (s.modShip r f).demand = s.demand := rfl
@[simp] theorem modShip_roles (s : State) (r : Nat) (f : Ship → Ship) : (s.modShip r f).roles = s.roles.modify r (fun role => { role with ship := f role.ship }) := rfl
@[simp] theorem modShip_fans (s : State) (r : Nat) (f : Ship → Ship) : (s.modShip r f).fans = s.fans := rfl
@[simp] theorem modShip_peers (s : State) (r : Nat) (f : Ship → Ship) : (s.modShip r f).peers = s.peers := rfl
@[simp] theorem modShip_line (s : State) (r : Nat) (f : Ship → Ship) : (s.modShip r f).line = s.line := rfl
@[simp] theorem modShip_txq (s : State) (r : Nat) (f : Ship → Ship) : (s.modShip r f).txq = s.txq := rfl
@[simp] theorem modShip_badCount (s : State) (r : Nat) (f : Ship → Ship) : (s.modShip r f).badCount = s.badCount := rfl
@[simp] theorem modShip_shutdown (s : State) (r : Nat) (f : Ship → Ship) : (s.modShip r f).shutdown = s.shutdown := rfl
@[simp] theorem modShip_throttle (s : State) (r : Nat) (f : Ship → Ship) : (s.modShip r f).throttle = s.throttle := rfl
@[simp] theorem modShip_notices (s : State) (r : Nat) (f : Ship → Ship) : (s.modShip r f).notices = s.notices := rfl
@[simp] theorem modShip_port (s : State) (r : Nat) (f : Ship → Ship) : (s.modShip r f).port = s.port := rfl

@[simp] theorem modDrive_pending (s : State) (r : Nat) (f : Drive → Drive) : (s.modDrive r f).pending = s.pending := rfl
@[simp] theorem modDrive_now (s : State) (r : Nat) (f : Drive → Drive) : (s.modDrive r f).now = s.now := rfl
@[simp] theorem modDrive_choices (s : State) (r : Nat) (f : Drive → Drive) : (s.modDrive r f).choices = s.choices := rfl
@[simp] theorem modDrive_stamp (s : State) (r : Nat) (f : Drive → Drive) : (s.modDrive r f).stamp = s.stamp := rfl
@[simp] theorem modDrive_ctl (s : State) (r : Nat) (f : Drive → Drive) : (s.modDrive r f).ctl = s.ctl := rfl
@[simp] theorem modDrive_timing (s : State) (r : Nat) (f : Drive → Drive) : (s.modDrive r f).timing = s.timing := rfl
@[simp] theorem modDrive_temps (s : State) (r : Nat) (f : Drive → Drive) : (s.modDrive r f).temps = s.temps := rfl
@[simp] theorem modDrive_roundTimer (s : State) (r : Nat) (f : Drive → Drive) : (s.modDrive r f).roundTimer = s.roundTimer := rfl
@[simp] theorem modDrive_demand (s : State) (r : Nat) (f : Drive → Drive) : (s.modDrive r f).demand = s.demand := rfl
@[simp] theorem modDrive_roles (s : State) (r : Nat) (f : Drive → Drive) : (s.modDrive r f).roles = s.roles.modify r (fun role => { role with drive := f role.drive }) := rfl
@[simp] theorem modDrive_fans (s : State) (r : Nat) (f : Drive → Drive) : (s.modDrive r f).fans = s.fans := rfl
@[simp] theorem modDrive_peers (s : State) (r : Nat) (f : Drive → Drive) : (s.modDrive r f).peers = s.peers := rfl
@[simp] theorem modDrive_line (s : State) (r : Nat) (f : Drive → Drive) : (s.modDrive r f).line = s.line := rfl
@[simp] theorem modDrive_txq (s : State) (r : Nat) (f : Drive → Drive) : (s.modDrive r f).txq = s.txq := rfl
@[simp] theorem modDrive_badCount (s : State) (r : Nat) (f : Drive → Drive) : (s.modDrive r f).badCount = s.badCount := rfl
@[simp] theorem modDrive_shutdown (s : State) (r : Nat) (f : Drive → Drive) : (s.modDrive r f).shutdown = s.shutdown := rfl
@[simp] theorem modDrive_throttle (s : State) (r : Nat) (f : Drive → Drive) : (s.modDrive r f).throttle = s.throttle := rfl
@[simp] theorem modDrive_notices (s : State) (r : Nat) (f : Drive → Drive) : (s.modDrive r f).notices = s.notices := rfl
@[simp] theorem modDrive_port (s : State) (r : Nat) (f : Drive → Drive) : (s.modDrive r f).port = s.port := rfl

@[simp] theorem modClaims_pending (s : State) (r : Nat) (f : ClaimTable → ClaimTable) : (s.modClaims r f).pending = s.pending := rfl
@[simp] theorem modClaims_now (s : State) (r : Nat) (f : ClaimTable → ClaimTable) : (s.modClaims r f).now = s.now := rfl
@[simp] theorem modClaims_choices (s : State) (r : Nat) (f : ClaimTable → ClaimTable) : (s.modClaims r f).choices = s.choices := rfl
@[simp] theorem modClaims_stamp (s : State) (r : Nat) (f : ClaimTable → ClaimTable) : (s.modClaims r f).stamp = s.stamp := rfl
@[simp] theorem modClaims_ctl (s : State) (r : Nat) (f : ClaimTable → ClaimTable) : (s.modClaims r f).ctl = s.ctl := rfl
@[simp] theorem modClaims_timing (s : State) (r : Nat) (f : ClaimTable → ClaimTable) : (s.modClaims r f).timing = s.timing := rfl
@[simp] theorem modClaims_temps (s : State) (r : Nat) (f : ClaimTable → ClaimTable) : (s.modClaims r f).temps = s.temps := rfl
@[simp] theorem modClaims_roundTimer (s : State) (r : Nat) (f : ClaimTable → ClaimTable) : (s.modClaims r f).roundTimer = s.roundTimer := rfl
@[simp] theorem modClaims_demand (s : State) (r : Nat) (f : ClaimTable → ClaimTable) : (s.modClaims r f).demand = s.demand := rfl
@[simp] theorem modClaims_roles (s : State) (r : Nat) (f : ClaimTable → ClaimTable) : (s.modClaims r f).roles = s.roles.modify r (fun role => { role with claims := f role.claims }) := rfl
@[simp] theorem modClaims_fans (s : State) (r : Nat) (f : ClaimTable → ClaimTable) : (s.modClaims r f).fans = s.fans := rfl
@[simp] theorem modClaims_peers (s : State) (r : Nat) (f : ClaimTable → ClaimTable) : (s.modClaims r f).peers = s.peers := rfl
@[simp] theorem modClaims_line (s : State) (r : Nat) (f : ClaimTable → ClaimTable) : (s.modClaims r f).line = s.line := rfl
@[simp] theorem modClaims_txq (s : State) (r : Nat) (f : ClaimTable → ClaimTable) : (s.modClaims r f).txq = s.txq := rfl
@[simp] theorem modClaims_badCount (s : State) (r : Nat) (f : ClaimTable → ClaimTable) : (s.modClaims r f).badCount = s.badCount := rfl
@[simp] theorem modClaims_shutdown (s : State) (r : Nat) (f : ClaimTable → ClaimTable) : (s.modClaims r f).shutdown = s.shutdown := rfl
@[simp] theorem modClaims_throttle (s : State) (r : Nat) (f : ClaimTable → ClaimTable) : (s.modClaims r f).throttle = s.throttle := rfl
@[simp] theorem modClaims_notices (s : State) (r : Nat) (f : ClaimTable → ClaimTable) : (s.modClaims r f).notices = s.notices := rfl
@[simp] theorem modClaims_port (s : State) (r : Nat) (f : ClaimTable → ClaimTable) : (s.modClaims r f).port = s.port := rfl

@[simp] theorem modTemp_pending (s : State) (i : Nat) (f : TempChannel → TempChannel) : (s.modTemp i f).pending = s.pending := rfl
@[simp] theorem modTemp_now (s : State) (i : Nat) (f : TempChannel → TempChannel) : (s.modTemp i f).now = s.now := rfl
@[simp] theorem modTemp_choices (s : State) (i : Nat) (f : TempChannel → TempChannel) : (s.modTemp i f).choices = s.choices := rfl
@[simp] theorem modTemp_stamp (s : State) (i : Nat) (f : TempChannel → TempChannel) : (s.modTemp i f).stamp = s.stamp := rfl
@[simp] theorem modTemp_ctl (s : State) (i : Nat) (f : TempChannel → TempChannel) : (s.modTemp i f).ctl = s.ctl := rfl
@[simp] theorem modTemp_timing (s : State) (i : Nat) (f : TempChannel → TempChannel) : (s.modTemp i f).timing = s.timing := rfl
@[simp] theorem modTemp_temps (s : State) (i : Nat) (f : TempChannel → TempChannel) : (s.modTemp i f).temps = s.temps.modify i f := rfl
@[simp] theorem modTemp_roundTimer (s : State) (i : Nat) (f : TempChannel → TempChannel) : (s.modTemp i f).roundTimer = s.roundTimer := rfl
@[simp] theorem modTemp_demand (s : State) (i : Nat) (f : TempChannel → TempChannel) : (s.modTemp i f).demand = s.demand := rfl
@[simp] theorem modTemp_roles (s : State) (i : Nat) (f : TempChannel → TempChannel) : (s.modTemp i f).roles = s.roles := rfl
@[simp] theorem modTemp_fans (s : State) (i : Nat) (f : TempChannel → TempChannel) : (s.modTemp i f).fans = s.fans := rfl
@[simp] theorem modTemp_peers (s : State) (i : Nat) (f : TempChannel → TempChannel) : (s.modTemp i f).peers = s.peers := rfl
@[simp] theorem modTemp_line (s : State) (i : Nat) (f : TempChannel → TempChannel) : (s.modTemp i f).line = s.line := rfl
@[simp] theorem modTemp_txq (s : State) (i : Nat) (f : TempChannel → TempChannel) : (s.modTemp i f).txq = s.txq := rfl
@[simp] theorem modTemp_badCount (s : State) (i : Nat) (f : TempChannel → TempChannel) : (s.modTemp i f).badCount = s.badCount := rfl
@[simp] theorem modTemp_shutdown (s : State) (i : Nat) (f : TempChannel → TempChannel) : (s.modTemp i f).shutdown = s.shutdown := rfl
@[simp] theorem modTemp_throttle (s : State) (i : Nat) (f : TempChannel → TempChannel) : (s.modTemp i f).throttle = s.throttle := rfl
@[simp] theorem modTemp_notices (s : State) (i : Nat) (f : TempChannel → TempChannel) : (s.modTemp i f).notices = s.notices := rfl
@[simp] theorem modTemp_port (s : State) (i : Nat) (f : TempChannel → TempChannel) : (s.modTemp i f).port = s.port := rfl

@[simp] theorem modEntry_pending (s : State) (i : Nat) (f : DemandEntry → DemandEntry) : (s.modEntry i f).pending = s.pending := rfl
@[simp] theorem modEntry_now (s : State) (i : Nat) (f : DemandEntry → DemandEntry) : (s.modEntry i f).now = s.now := rfl
@[simp] theorem modEntry_choices (s : State) (i : Nat) (f : DemandEntry → DemandEntry) : (s.modEntry i f).choices = s.choices := rfl
@[simp] theorem modEntry_stamp (s : State) (i : Nat) (f : DemandEntry → DemandEntry) : (s.modEntry i f).stamp = s.stamp := rfl
@[simp] theorem modEntry_ctl (s : State) (i : Nat) (f : DemandEntry → DemandEntry) : (s.modEntry i f).ctl = s.ctl := rfl
@[simp] theorem modEntry_timing (s : State) (i : Nat) (f : DemandEntry → DemandEntry) : (s.modEntry i f).timing = s.timing := rfl
@[simp] theorem modEntry_temps (s : State) (i : Nat) (f : DemandEntry → DemandEntry) : (s.modEntry i f).temps = s.temps := rfl
@[simp] theorem modEntry_roundTimer (s : State) (i : Nat) (f : DemandEntry → DemandEntry) : (s.modEntry i f).roundTimer = s.roundTimer := rfl
@[simp] theorem modEntry_demand (s : State) (i : Nat) (f : DemandEntry → DemandEntry) : (s.modEntry i f).demand = { s.demand with entries := s.demand.entries.modify i f } := rfl
@[simp] theorem modEntry_roles (s : State) (i : Nat) (f : DemandEntry → DemandEntry) : (s.modEntry i f).roles = s.roles := rfl
@[simp] theorem modEntry_fans (s : State) (i : Nat) (f : DemandEntry → DemandEntry) : (s.modEntry i f).fans = s.fans := rfl
@[simp] theorem modEntry_peers (s : State) (i : Nat) (f : DemandEntry → DemandEntry) : (s.modEntry i f).peers = s.peers := rfl
@[simp] theorem modEntry_line (s : State) (i : Nat) (f : DemandEntry → DemandEntry) : (s.modEntry i f).line = s.line := rfl
@[simp] theorem modEntry_txq (s : State) (i : Nat) (f : DemandEntry → DemandEntry) : (s.modEntry i f).txq = s.txq := rfl
@[simp] theorem modEntry_badCount (s : State) (i : Nat) (f : DemandEntry → DemandEntry) : (s.modEntry i f).badCount = s.badCount := rfl
@[simp] theorem modEntry_shutdown (s : State) (i : Nat) (f : DemandEntry → DemandEntry) : (s.modEntry i f).shutdown = s.shutdown := rfl
@[simp] theorem modEntry_throttle (s : State) (i : Nat) (f : DemandEntry → DemandEntry) : (s.modEntry i f).throttle = s.throttle := rfl
@[simp] theorem modEntry_notices (s : State) (i : Nat) (f : DemandEntry → DemandEntry) : (s.modEntry i f).notices = s.notices := rfl
@[simp] theorem modEntry_port (s : State) (i : Nat) (f : DemandEntry → DemandEntry) : (s.modEntry i f).port = s.port := rfl

@[simp] theorem setLine_pending (s : State) (l : LineState) : (s.setLine l).pending = s.pending := rfl
@[simp] theorem setLine_now (s : State) (l : LineState) : (s.setLine l).now = s.now := rfl
@[simp] theorem setLine_choices (s : State) (l : LineState) : (s.setLine l).choices = s.choices := rfl
@[simp] theorem setLine_stamp (s : State) (l : LineState) : (s.setLine l).stamp = s.stamp := rfl
@[simp] theorem setLine_ctl (s : State) (l : LineState) : (s.setLine l).ctl = s.ctl := rfl
@[simp] theorem setLine_timing (s : State) (l : LineState) : (s.setLine l).timing = s.timing := rfl
@[simp] theorem setLine_temps (s : State) (l : LineState) : (s.setLine l).temps = s.temps := rfl
@[simp] theorem setLine_roundTimer (s : State) (l : LineState) : (s.setLine l).roundTimer = s.roundTimer := rfl
@[simp] theorem setLine_demand (s : State) (l : LineState) : (s.setLine l).demand = s.demand := rfl
@[simp] theorem setLine_roles (s : State) (l : LineState) : (s.setLine l).roles = s.roles := rfl
@[simp] theorem setLine_fans (s : State) (l : LineState) : (s.setLine l).fans = s.fans := rfl
@[simp] theorem setLine_peers (s : State) (l : LineState) : (s.setLine l).peers = s.peers := rfl
@[simp] theorem setLine_line (s : State) (l : LineState) : (s.setLine l).line = { s.line with state := l } := rfl
@[simp] theorem setLine_txq (s : State) (l : LineState) : (s.setLine l).txq = s.txq := rfl
@[simp] theorem setLine_badCount (s : State) (l : LineState) : (s.setLine l).badCount = s.badCount := rfl
@[simp] theorem setLine_shutdown (s : State) (l : LineState) : (s.setLine l).shutdown = s.shutdown := rfl
@[simp] theorem setLine_throttle (s : State) (l : LineState) : (s.setLine l).throttle = s.throttle := rfl
@[simp] theorem setLine_notices (s : State) (l : LineState) : (s.setLine l).notices = s.notices := rfl
@[simp] theorem setLine_port (s : State) (l : LineState) : (s.setLine l).port = s.port := rfl

@[simp] theorem countBad_pending (s : State) : (s.countBad).pending = s.pending := rfl
@[simp] theorem countBad_now (s : State) : (s.countBad).now = s.now := rfl
@[simp] theorem countBad_choices (s : State) : (s.countBad).choices = s.choices := rfl
@[simp] theorem countBad_stamp (s : State) : (s.countBad).stamp = s.stamp := rfl
@[simp] theorem countBad_ctl (s : State) : (s.countBad).ctl = s.ctl := rfl
@[simp] theorem countBad_timing (s : State) : (s.countBad).timing = s.timing := rfl
@[simp] theorem countBad_temps (s : State) : (s.countBad).temps = s.temps := rfl
@[simp] theorem countBad_roundTimer (s : State) : (s.countBad).roundTimer = s.roundTimer := rfl
@[simp] theorem countBad_demand (s : State) : (s.countBad).demand = s.demand := rfl
@[simp] theorem countBad_roles (s : State) : (s.countBad).roles = s.roles := rfl
@[simp] theorem countBad_fans (s : State) : (s.countBad).fans = s.fans := rfl
@[simp] theorem countBad_peers (s : State) : (s.countBad).peers = s.peers := rfl
@[simp] theorem countBad_line (s : State) : (s.countBad).line = s.line := rfl
@[simp] theorem countBad_txq (s : State) : (s.countBad).txq = s.txq := rfl
@[simp] theorem countBad_badCount (s : State) : (s.countBad).badCount = min 65535 (s.badCount + 1) := rfl
@[simp] theorem countBad_shutdown (s : State) : (s.countBad).shutdown = s.shutdown := rfl
@[simp] theorem countBad_throttle (s : State) : (s.countBad).throttle = s.throttle := rfl
@[simp] theorem countBad_notices (s : State) : (s.countBad).notices = s.notices := rfl
@[simp] theorem countBad_port (s : State) : (s.countBad).port = s.port := rfl

@[simp] theorem restartRefresh_pending (s : State) : (s.restartRefresh).pending = s.pending := rfl
@[simp] theorem restartRefresh_now (s : State) : (s.restartRefresh).now = s.now := rfl
@[simp] theorem restartRefresh_choices (s : State) : (s.restartRefresh).choices = s.choices := rfl
@[simp] theorem restartRefresh_stamp (s : State) : (s.restartRefresh).stamp = s.stamp := rfl
@[simp] theorem restartRefresh_ctl (s : State) : (s.restartRefresh).ctl = s.ctl := rfl
@[simp] theorem restartRefresh_timing (s : State) : (s.restartRefresh).timing = s.timing := rfl
@[simp] theorem restartRefresh_temps (s : State) : (s.restartRefresh).temps = s.temps := rfl
@[simp] theorem restartRefresh_roundTimer (s : State) : (s.restartRefresh).roundTimer = s.roundTimer := rfl
@[simp] theorem restartRefresh_demand (s : State) : (s.restartRefresh).demand = { s.demand with refresh := .running (s.now + s.refreshMs) } := rfl
@[simp] theorem restartRefresh_roles (s : State) : (s.restartRefresh).roles = s.roles := rfl
@[simp] theorem restartRefresh_fans (s : State) : (s.restartRefresh).fans = s.fans := rfl
@[simp] theorem restartRefresh_peers (s : State) : (s.restartRefresh).peers = s.peers := rfl
@[simp] theorem restartRefresh_line (s : State) : (s.restartRefresh).line = s.line := rfl
@[simp] theorem restartRefresh_txq (s : State) : (s.restartRefresh).txq = s.txq := rfl
@[simp] theorem restartRefresh_badCount (s : State) : (s.restartRefresh).badCount = s.badCount := rfl
@[simp] theorem restartRefresh_shutdown (s : State) : (s.restartRefresh).shutdown = s.shutdown := rfl
@[simp] theorem restartRefresh_throttle (s : State) : (s.restartRefresh).throttle = s.throttle := rfl
@[simp] theorem restartRefresh_notices (s : State) : (s.restartRefresh).notices = s.notices := rfl
@[simp] theorem restartRefresh_port (s : State) : (s.restartRefresh).port = s.port := rfl

@[simp] theorem restartLink_pending (s : State) : (s.restartLink).pending = s.pending := rfl
@[simp] theorem restartLink_now (s : State) : (s.restartLink).now = s.now := rfl
@[simp] theorem restartLink_choices (s : State) : (s.restartLink).choices = s.choices := rfl
@[simp] theorem restartLink_stamp (s : State) : (s.restartLink).stamp = s.stamp := rfl
@[simp] theorem restartLink_ctl (s : State) : (s.restartLink).ctl = s.ctl := rfl
@[simp] theorem restartLink_timing (s : State) : (s.restartLink).timing = s.timing := rfl
@[simp] theorem restartLink_temps (s : State) : (s.restartLink).temps = s.temps := rfl
@[simp] theorem restartLink_roundTimer (s : State) : (s.restartLink).roundTimer = s.roundTimer := rfl
@[simp] theorem restartLink_demand (s : State) : (s.restartLink).demand = s.demand := rfl
@[simp] theorem restartLink_roles (s : State) : (s.restartLink).roles = s.roles := rfl
@[simp] theorem restartLink_fans (s : State) : (s.restartLink).fans = s.fans := rfl
@[simp] theorem restartLink_peers (s : State) : (s.restartLink).peers = { s.peers with linkTimer := .running (s.now + s.isolationMs) } := rfl
@[simp] theorem restartLink_line (s : State) : (s.restartLink).line = s.line := rfl
@[simp] theorem restartLink_txq (s : State) : (s.restartLink).txq = s.txq := rfl
@[simp] theorem restartLink_badCount (s : State) : (s.restartLink).badCount = s.badCount := rfl
@[simp] theorem restartLink_shutdown (s : State) : (s.restartLink).shutdown = s.shutdown := rfl
@[simp] theorem restartLink_throttle (s : State) : (s.restartLink).throttle = s.throttle := rfl
@[simp] theorem restartLink_notices (s : State) : (s.restartLink).notices = s.notices := rfl
@[simp] theorem restartLink_port (s : State) : (s.restartLink).port = s.port := rfl

@[simp] theorem evaluateThrottle_pending (s : State) : (s.evaluateThrottle).pending = s.pending := rfl
@[simp] theorem evaluateThrottle_now (s : State) : (s.evaluateThrottle).now = s.now := rfl
@[simp] theorem evaluateThrottle_choices (s : State) : (s.evaluateThrottle).choices = s.choices := rfl
@[simp] theorem evaluateThrottle_stamp (s : State) : (s.evaluateThrottle).stamp = s.stamp := rfl
@[simp] theorem evaluateThrottle_ctl (s : State) : (s.evaluateThrottle).ctl = s.ctl := rfl
@[simp] theorem evaluateThrottle_timing (s : State) : (s.evaluateThrottle).timing = s.timing := rfl
@[simp] theorem evaluateThrottle_temps (s : State) : (s.evaluateThrottle).temps = s.temps := rfl
@[simp] theorem evaluateThrottle_roundTimer (s : State) : (s.evaluateThrottle).roundTimer = s.roundTimer := rfl
@[simp] theorem evaluateThrottle_demand (s : State) : (s.evaluateThrottle).demand = s.demand := rfl
@[simp] theorem evaluateThrottle_roles (s : State) : (s.evaluateThrottle).roles = s.roles := rfl
@[simp] theorem evaluateThrottle_fans (s : State) : (s.evaluateThrottle).fans = s.fans := rfl
@[simp] theorem evaluateThrottle_peers (s : State) : (s.evaluateThrottle).peers = s.peers := rfl
@[simp] theorem evaluateThrottle_line (s : State) : (s.evaluateThrottle).line = s.line := rfl
@[simp] theorem evaluateThrottle_txq (s : State) : (s.evaluateThrottle).txq = s.txq := rfl
@[simp] theorem evaluateThrottle_badCount (s : State) : (s.evaluateThrottle).badCount = s.badCount := rfl
@[simp] theorem evaluateThrottle_shutdown (s : State) : (s.evaluateThrottle).shutdown = s.shutdown := rfl
@[simp] theorem evaluateThrottle_throttle (s : State) : (s.evaluateThrottle).throttle = throttleCondition s := rfl
@[simp] theorem evaluateThrottle_notices (s : State) : (s.evaluateThrottle).notices = s.notices := rfl
@[simp] theorem evaluateThrottle_port (s : State) : (s.evaluateThrottle).port = s.port := rfl

@[simp] theorem withdraw_pending (s : State) (k : FrameKind) (g : Nat) : (s.withdraw k g).pending = s.pending := rfl
@[simp] theorem withdraw_now (s : State) (k : FrameKind) (g : Nat) : (s.withdraw k g).now = s.now := rfl
@[simp] theorem withdraw_choices (s : State) (k : FrameKind) (g : Nat) : (s.withdraw k g).choices = s.choices := rfl
@[simp] theorem withdraw_stamp (s : State) (k : FrameKind) (g : Nat) : (s.withdraw k g).stamp = s.stamp := rfl
@[simp] theorem withdraw_ctl (s : State) (k : FrameKind) (g : Nat) : (s.withdraw k g).ctl = s.ctl := rfl
@[simp] theorem withdraw_timing (s : State) (k : FrameKind) (g : Nat) : (s.withdraw k g).timing = s.timing := rfl
@[simp] theorem withdraw_temps (s : State) (k : FrameKind) (g : Nat) : (s.withdraw k g).temps = s.temps := rfl
@[simp] theorem withdraw_roundTimer (s : State) (k : FrameKind) (g : Nat) : (s.withdraw k g).roundTimer = s.roundTimer := rfl
@[simp] theorem withdraw_demand (s : State) (k : FrameKind) (g : Nat) : (s.withdraw k g).demand = s.demand := rfl
@[simp] theorem withdraw_roles (s : State) (k : FrameKind) (g : Nat) : (s.withdraw k g).roles = s.roles := rfl
@[simp] theorem withdraw_fans (s : State) (k : FrameKind) (g : Nat) : (s.withdraw k g).fans = s.fans := rfl
@[simp] theorem withdraw_peers (s : State) (k : FrameKind) (g : Nat) : (s.withdraw k g).peers = s.peers := rfl
@[simp] theorem withdraw_line (s : State) (k : FrameKind) (g : Nat) : (s.withdraw k g).line = s.line := rfl
@[simp] theorem withdraw_txq (s : State) (k : FrameKind) (g : Nat) : (s.withdraw k g).txq = s.txq.filter (fun e => e.onWire || !e.isFor k g) := rfl
@[simp] theorem withdraw_badCount (s : State) (k : FrameKind) (g : Nat) : (s.withdraw k g).badCount = s.badCount := rfl
@[simp] theorem withdraw_shutdown (s : State) (k : FrameKind) (g : Nat) : (s.withdraw k g).shutdown = s.shutdown := rfl
@[simp] theorem withdraw_throttle (s : State) (k : FrameKind) (g : Nat) : (s.withdraw k g).throttle = s.throttle := rfl
@[simp] theorem withdraw_notices (s : State) (k : FrameKind) (g : Nat) : (s.withdraw k g).notices = s.notices := rfl
@[simp] theorem withdraw_port (s : State) (k : FrameKind) (g : Nat) : (s.withdraw k g).port = s.port := rfl

@[simp] theorem rebuildTakeover_pending (s : State) (g : Nat) (e : Epoch) : (s.rebuildTakeover g e).pending = s.pending := rfl
@[simp] theorem rebuildTakeover_now (s : State) (g : Nat) (e : Epoch) : (s.rebuildTakeover g e).now = s.now := rfl
@[simp] theorem rebuildTakeover_choices (s : State) (g : Nat) (e : Epoch) : (s.rebuildTakeover g e).choices = s.choices := rfl
@[simp] theorem rebuildTakeover_stamp (s : State) (g : Nat) (e : Epoch) : (s.rebuildTakeover g e).stamp = s.stamp := rfl
@[simp] theorem rebuildTakeover_ctl (s : State) (g : Nat) (e : Epoch) : (s.rebuildTakeover g e).ctl = s.ctl := rfl
@[simp] theorem rebuildTakeover_timing (s : State) (g : Nat) (e : Epoch) : (s.rebuildTakeover g e).timing = s.timing := rfl
@[simp] theorem rebuildTakeover_temps (s : State) (g : Nat) (e : Epoch) : (s.rebuildTakeover g e).temps = s.temps := rfl
@[simp] theorem rebuildTakeover_roundTimer (s : State) (g : Nat) (e : Epoch) : (s.rebuildTakeover g e).roundTimer = s.roundTimer := rfl
@[simp] theorem rebuildTakeover_demand (s : State) (g : Nat) (e : Epoch) : (s.rebuildTakeover g e).demand = s.demand := rfl
@[simp] theorem rebuildTakeover_roles (s : State) (g : Nat) (e : Epoch) : (s.rebuildTakeover g e).roles = s.roles := rfl
@[simp] theorem rebuildTakeover_fans (s : State) (g : Nat) (e : Epoch) : (s.rebuildTakeover g e).fans = s.fans := rfl
@[simp] theorem rebuildTakeover_peers (s : State) (g : Nat) (e : Epoch) : (s.rebuildTakeover g e).peers = s.peers := rfl
@[simp] theorem rebuildTakeover_line (s : State) (g : Nat) (e : Epoch) : (s.rebuildTakeover g e).line = s.line := rfl
@[simp] theorem rebuildTakeover_badCount (s : State) (g : Nat) (e : Epoch) : (s.rebuildTakeover g e).badCount = s.badCount := rfl
@[simp] theorem rebuildTakeover_shutdown (s : State) (g : Nat) (e : Epoch) : (s.rebuildTakeover g e).shutdown = s.shutdown := rfl
@[simp] theorem rebuildTakeover_throttle (s : State) (g : Nat) (e : Epoch) : (s.rebuildTakeover g e).throttle = s.throttle := rfl
@[simp] theorem rebuildTakeover_notices (s : State) (g : Nat) (e : Epoch) : (s.rebuildTakeover g e).notices = s.notices := rfl
@[simp] theorem rebuildTakeover_port (s : State) (g : Nat) (e : Epoch) : (s.rebuildTakeover g e).port = s.port := rfl

end Sys2Proof.Machine.State
end

