-- ==== Sys2Proof/Laws/Frames.lean ====
section
/-! SUPPORT. What each shared operation leaves unchanged, said once: one lemma for each operation, one conjunct for each
field (simp takes a conjunction apart). -/

namespace Sys2Proof.Machine.State

/-- What every step of a run over the roles keeps, the run keeps. -/
theorem forRoles_same {α : Type} (g : State → α) (f : State → Nat → State) (s : State) (h : ∀ s r, g (f s r) = g s) :
    g (s.forRoles f) = g s := by
  unfold forRoles
  induction List.range s.roles.length generalizing s with
  | nil => rfl
  | cons r rs ih => rw [List.foldl_cons, ih, h]

/-- What every step of a run over the roles keeps true, the run keeps true. -/
theorem forRoles_keeps (P : State → Prop) (f : State → Nat → State) (s : State) (h : ∀ s r, P s → P (f s r)) (hs : P s) :
    P (s.forRoles f) := by
  unfold forRoles
  induction List.range s.roles.length generalizing s with
  | nil => exact hs
  | cons r rs ih => rw [List.foldl_cons]; exact ih _ (h _ _ hs)

/-- What every step of a run over a list keeps, the run keeps. -/
theorem foldl_same {α β : Type} (g : State → α) (f : State → β → State) (xs : List β) (s : State)
    (h : ∀ s x, g (f s x) = g s) : g (xs.foldl f s) = g s := by
  induction xs generalizing s with
  | nil => rfl
  | cons x xs ih => rw [List.foldl_cons, ih, h]

/-- What every step of a run over a list keeps true, the run keeps true. -/
theorem foldl_keeps {β : Type} (P : State → Prop) (f : State → β → State) (xs : List β) (s : State)
    (h : ∀ s x, P s → P (f s x)) (hs : P s) : P (xs.foldl f s) := by
  induction xs generalizing s with
  | nil => exact hs
  | cons x xs ih => rw [List.foldl_cons]; exact ih _ (h _ _ hs)

@[simp] theorem startHead_frame (s : State) :
    (s.startHead).pending = s.pending ∧ (s.startHead).now = s.now ∧ (s.startHead).choices = s.choices ∧ (s.startHead).stamp = s.stamp ∧ (s.startHead).ctl = s.ctl ∧ (s.startHead).timing = s.timing ∧ (s.startHead).temps = s.temps ∧ (s.startHead).roundTimer = s.roundTimer ∧ (s.startHead).demand = s.demand ∧ (s.startHead).roles = s.roles ∧ (s.startHead).fans = s.fans ∧ (s.startHead).peers = s.peers ∧ (s.startHead).badCount = s.badCount ∧ (s.startHead).shutdown = s.shutdown ∧ (s.startHead).throttle = s.throttle ∧ (s.startHead).notices = s.notices ∧ (s.startHead).port = s.port := by
  unfold startHead; repeat' split
  all_goals simp

@[simp] theorem enter_frame (s : State) (p : Payload) :
    (s.enter p).pending = s.pending ∧ (s.enter p).now = s.now ∧ (s.enter p).choices = s.choices ∧ (s.enter p).ctl = s.ctl ∧ (s.enter p).timing = s.timing ∧ (s.enter p).temps = s.temps ∧ (s.enter p).roundTimer = s.roundTimer ∧ (s.enter p).demand = s.demand ∧ (s.enter p).roles = s.roles ∧ (s.enter p).fans = s.fans ∧ (s.enter p).peers = s.peers ∧ (s.enter p).badCount = s.badCount ∧ (s.enter p).shutdown = s.shutdown ∧ (s.enter p).throttle = s.throttle ∧ (s.enter p).notices = s.notices ∧ (s.enter p).port = s.port := by
  unfold enter; simp

@[simp] theorem postOverflow_frame (s : State) (p : Payload) :
    (s.postOverflow p).pending = s.pending ∧ (s.postOverflow p).now = s.now ∧ (s.postOverflow p).choices = s.choices ∧ (s.postOverflow p).stamp = s.stamp ∧ (s.postOverflow p).ctl = s.ctl ∧ (s.postOverflow p).timing = s.timing ∧ (s.postOverflow p).temps = s.temps ∧ (s.postOverflow p).roundTimer = s.roundTimer ∧ (s.postOverflow p).demand = s.demand ∧ (s.postOverflow p).roles = s.roles ∧ (s.postOverflow p).fans = s.fans ∧ (s.postOverflow p).peers = s.peers ∧ (s.postOverflow p).line = s.line ∧ (s.postOverflow p).txq = s.txq ∧ (s.postOverflow p).badCount = s.badCount ∧ (s.postOverflow p).shutdown = s.shutdown ∧ (s.postOverflow p).throttle = s.throttle ∧ (s.postOverflow p).port = s.port := by
  unfold postOverflow; simp

@[simp] theorem reportDiscard_frame (s : State) (p : Payload) :
    (s.reportDiscard p).pending = s.pending ∧ (s.reportDiscard p).now = s.now ∧ (s.reportDiscard p).choices = s.choices ∧ (s.reportDiscard p).stamp = s.stamp ∧ (s.reportDiscard p).ctl = s.ctl ∧ (s.reportDiscard p).timing = s.timing ∧ (s.reportDiscard p).temps = s.temps ∧ (s.reportDiscard p).roundTimer = s.roundTimer ∧ (s.reportDiscard p).demand = s.demand ∧ (s.reportDiscard p).fans = s.fans ∧ (s.reportDiscard p).peers = s.peers ∧ (s.reportDiscard p).line = s.line ∧ (s.reportDiscard p).txq = s.txq ∧ (s.reportDiscard p).badCount = s.badCount ∧ (s.reportDiscard p).shutdown = s.shutdown ∧ (s.reportDiscard p).throttle = s.throttle ∧ (s.reportDiscard p).notices = s.notices ∧ (s.reportDiscard p).port = s.port := by
  unfold reportDiscard; repeat' split
  all_goals simp

@[simp] theorem discard_frame (s : State) (p : Payload) :
    (s.discard p).pending = s.pending ∧ (s.discard p).now = s.now ∧ (s.discard p).choices = s.choices ∧ (s.discard p).stamp = s.stamp ∧ (s.discard p).ctl = s.ctl ∧ (s.discard p).timing = s.timing ∧ (s.discard p).temps = s.temps ∧ (s.discard p).roundTimer = s.roundTimer ∧ (s.discard p).demand = s.demand ∧ (s.discard p).fans = s.fans ∧ (s.discard p).peers = s.peers ∧ (s.discard p).line = s.line ∧ (s.discard p).txq = s.txq ∧ (s.discard p).badCount = s.badCount ∧ (s.discard p).shutdown = s.shutdown ∧ (s.discard p).throttle = s.throttle ∧ (s.discard p).port = s.port := by
  unfold discard; simp

@[simp] theorem offer_frame (s : State) (p : Payload) :
    (s.offer p).pending = s.pending ∧ (s.offer p).now = s.now ∧ (s.offer p).choices = s.choices ∧ (s.offer p).ctl = s.ctl ∧ (s.offer p).timing = s.timing ∧ (s.offer p).temps = s.temps ∧ (s.offer p).roundTimer = s.roundTimer ∧ (s.offer p).demand = s.demand ∧ (s.offer p).fans = s.fans ∧ (s.offer p).peers = s.peers ∧ (s.offer p).badCount = s.badCount ∧ (s.offer p).shutdown = s.shutdown ∧ (s.offer p).throttle = s.throttle ∧ (s.offer p).port = s.port := by
  unfold offer; repeat' split
  all_goals simp

@[simp] theorem followDrive_frame (s : State) (r : Nat) :
    (s.followDrive r).pending = s.pending ∧ (s.followDrive r).now = s.now ∧ (s.followDrive r).choices = s.choices ∧ (s.followDrive r).stamp = s.stamp ∧ (s.followDrive r).ctl = s.ctl ∧ (s.followDrive r).timing = s.timing ∧ (s.followDrive r).temps = s.temps ∧ (s.followDrive r).roundTimer = s.roundTimer ∧ (s.followDrive r).demand = s.demand ∧ (s.followDrive r).roles = s.roles ∧ (s.followDrive r).peers = s.peers ∧ (s.followDrive r).line = s.line ∧ (s.followDrive r).txq = s.txq ∧ (s.followDrive r).badCount = s.badCount ∧ (s.followDrive r).shutdown = s.shutdown ∧ (s.followDrive r).throttle = s.throttle ∧ (s.followDrive r).notices = s.notices ∧ (s.followDrive r).port = s.port := by
  unfold followDrive; repeat' split
  all_goals simp

@[simp] theorem judgeGroup_frame (s : State) (r : Nat) :
    (s.judgeGroup r).pending = s.pending ∧ (s.judgeGroup r).now = s.now ∧ (s.judgeGroup r).choices = s.choices ∧ (s.judgeGroup r).stamp = s.stamp ∧ (s.judgeGroup r).ctl = s.ctl ∧ (s.judgeGroup r).timing = s.timing ∧ (s.judgeGroup r).temps = s.temps ∧ (s.judgeGroup r).roundTimer = s.roundTimer ∧ (s.judgeGroup r).demand = s.demand ∧ (s.judgeGroup r).peers = s.peers ∧ (s.judgeGroup r).line = s.line ∧ (s.judgeGroup r).txq = s.txq ∧ (s.judgeGroup r).badCount = s.badCount ∧ (s.judgeGroup r).shutdown = s.shutdown ∧ (s.judgeGroup r).throttle = s.throttle ∧ (s.judgeGroup r).notices = s.notices ∧ (s.judgeGroup r).port = s.port := by
  unfold judgeGroup; dsimp only; repeat' split
  all_goals try simp

@[simp] theorem driveEvent_frame (s : State) (r : Nat) (f : RoleCfg → Drive → Drive) :
    (s.driveEvent r f).pending = s.pending ∧ (s.driveEvent r f).now = s.now ∧ (s.driveEvent r f).choices = s.choices ∧ (s.driveEvent r f).stamp = s.stamp ∧ (s.driveEvent r f).ctl = s.ctl ∧ (s.driveEvent r f).timing = s.timing ∧ (s.driveEvent r f).temps = s.temps ∧ (s.driveEvent r f).roundTimer = s.roundTimer ∧ (s.driveEvent r f).demand = s.demand ∧ (s.driveEvent r f).peers = s.peers ∧ (s.driveEvent r f).line = s.line ∧ (s.driveEvent r f).txq = s.txq ∧ (s.driveEvent r f).badCount = s.badCount ∧ (s.driveEvent r f).shutdown = s.shutdown ∧ (s.driveEvent r f).throttle = s.throttle ∧ (s.driveEvent r f).notices = s.notices ∧ (s.driveEvent r f).port = s.port := by
  unfold driveEvent; repeat' split
  all_goals simp

@[simp] theorem startActing_frame (s : State) (r level : Nat) :
    (s.startActing r level).pending = s.pending ∧ (s.startActing r level).now = s.now ∧ (s.startActing r level).choices = s.choices ∧ (s.startActing r level).stamp = s.stamp ∧ (s.startActing r level).ctl = s.ctl ∧ (s.startActing r level).timing = s.timing ∧ (s.startActing r level).temps = s.temps ∧ (s.startActing r level).roundTimer = s.roundTimer ∧ (s.startActing r level).demand = s.demand ∧ (s.startActing r level).peers = s.peers ∧ (s.startActing r level).line = s.line ∧ (s.startActing r level).txq = s.txq ∧ (s.startActing r level).badCount = s.badCount ∧ (s.startActing r level).shutdown = s.shutdown ∧ (s.startActing r level).throttle = s.throttle ∧ (s.startActing r level).notices = s.notices ∧ (s.startActing r level).port = s.port := by
  unfold startActing; simp

@[simp] theorem stopActing_frame (s : State) (r : Nat) :
    (s.stopActing r).pending = s.pending ∧ (s.stopActing r).now = s.now ∧ (s.stopActing r).choices = s.choices ∧ (s.stopActing r).stamp = s.stamp ∧ (s.stopActing r).ctl = s.ctl ∧ (s.stopActing r).timing = s.timing ∧ (s.stopActing r).temps = s.temps ∧ (s.stopActing r).roundTimer = s.roundTimer ∧ (s.stopActing r).demand = s.demand ∧ (s.stopActing r).peers = s.peers ∧ (s.stopActing r).line = s.line ∧ (s.stopActing r).txq = s.txq ∧ (s.stopActing r).badCount = s.badCount ∧ (s.stopActing r).shutdown = s.shutdown ∧ (s.stopActing r).throttle = s.throttle ∧ (s.stopActing r).notices = s.notices ∧ (s.stopActing r).port = s.port := by
  unfold stopActing; simp

@[simp] theorem setCausesAll_frame (s : State) (f : Causes → Causes) :
    (s.setCausesAll f).pending = s.pending ∧ (s.setCausesAll f).now = s.now ∧ (s.setCausesAll f).choices = s.choices ∧ (s.setCausesAll f).stamp = s.stamp ∧ (s.setCausesAll f).ctl = s.ctl ∧ (s.setCausesAll f).timing = s.timing ∧ (s.setCausesAll f).temps = s.temps ∧ (s.setCausesAll f).roundTimer = s.roundTimer ∧ (s.setCausesAll f).demand = s.demand ∧ (s.setCausesAll f).peers = s.peers ∧ (s.setCausesAll f).line = s.line ∧ (s.setCausesAll f).txq = s.txq ∧ (s.setCausesAll f).badCount = s.badCount ∧ (s.setCausesAll f).shutdown = s.shutdown ∧ (s.setCausesAll f).throttle = s.throttle ∧ (s.setCausesAll f).notices = s.notices ∧ (s.setCausesAll f).port = s.port :=
  ⟨forRoles_same (·.pending) _ s (fun s r => by simp), forRoles_same (·.now) _ s (fun s r => by simp), forRoles_same (·.choices) _ s (fun s r => by simp), forRoles_same (·.stamp) _ s (fun s r => by simp), forRoles_same (·.ctl) _ s (fun s r => by simp), forRoles_same (·.timing) _ s (fun s r => by simp), forRoles_same (·.temps) _ s (fun s r => by simp), forRoles_same (·.roundTimer) _ s (fun s r => by simp), forRoles_same (·.demand) _ s (fun s r => by simp), forRoles_same (·.peers) _ s (fun s r => by simp), forRoles_same (·.line) _ s (fun s r => by simp), forRoles_same (·.txq) _ s (fun s r => by simp), forRoles_same (·.badCount) _ s (fun s r => by simp), forRoles_same (·.shutdown) _ s (fun s r => by simp), forRoles_same (·.throttle) _ s (fun s r => by simp), forRoles_same (·.notices) _ s (fun s r => by simp), forRoles_same (·.port) _ s (fun s r => by simp)⟩

@[simp] theorem queueStatus_frame (s : State) (r : Nat) :
    (s.queueStatus r).pending = s.pending ∧ (s.queueStatus r).now = s.now ∧ (s.queueStatus r).choices = s.choices ∧ (s.queueStatus r).stamp = s.stamp ∧ (s.queueStatus r).ctl = s.ctl ∧ (s.queueStatus r).timing = s.timing ∧ (s.queueStatus r).temps = s.temps ∧ (s.queueStatus r).roundTimer = s.roundTimer ∧ (s.queueStatus r).demand = s.demand ∧ (s.queueStatus r).fans = s.fans ∧ (s.queueStatus r).peers = s.peers ∧ (s.queueStatus r).line = s.line ∧ (s.queueStatus r).txq = s.txq ∧ (s.queueStatus r).badCount = s.badCount ∧ (s.queueStatus r).shutdown = s.shutdown ∧ (s.queueStatus r).throttle = s.throttle ∧ (s.queueStatus r).notices = s.notices ∧ (s.queueStatus r).port = s.port := by
  unfold queueStatus; simp

@[simp] theorem flushRole_frame (s : State) (r : Nat) :
    (s.flushRole r).pending = s.pending ∧ (s.flushRole r).now = s.now ∧ (s.flushRole r).choices = s.choices ∧ (s.flushRole r).ctl = s.ctl ∧ (s.flushRole r).timing = s.timing ∧ (s.flushRole r).temps = s.temps ∧ (s.flushRole r).roundTimer = s.roundTimer ∧ (s.flushRole r).demand = s.demand ∧ (s.flushRole r).fans = s.fans ∧ (s.flushRole r).peers = s.peers ∧ (s.flushRole r).badCount = s.badCount ∧ (s.flushRole r).shutdown = s.shutdown ∧ (s.flushRole r).throttle = s.throttle ∧ (s.flushRole r).port = s.port := by
  unfold flushRole; repeat' split
  all_goals simp

@[simp] theorem finish_frame (s : State) :
    (s.finish).pending = s.pending ∧ (s.finish).now = s.now ∧ (s.finish).choices = s.choices ∧ (s.finish).ctl = s.ctl ∧ (s.finish).timing = s.timing ∧ (s.finish).temps = s.temps ∧ (s.finish).roundTimer = s.roundTimer ∧ (s.finish).demand = s.demand ∧ (s.finish).fans = s.fans ∧ (s.finish).peers = s.peers ∧ (s.finish).badCount = s.badCount ∧ (s.finish).shutdown = s.shutdown ∧ (s.finish).throttle = s.throttle ∧ (s.finish).port = s.port :=
  ⟨forRoles_same (·.pending) _ s (fun s r => by simp), forRoles_same (·.now) _ s (fun s r => by simp), forRoles_same (·.choices) _ s (fun s r => by simp), forRoles_same (·.ctl) _ s (fun s r => by simp), forRoles_same (·.timing) _ s (fun s r => by simp), forRoles_same (·.temps) _ s (fun s r => by simp), forRoles_same (·.roundTimer) _ s (fun s r => by simp), forRoles_same (·.demand) _ s (fun s r => by simp), forRoles_same (·.fans) _ s (fun s r => by simp), forRoles_same (·.peers) _ s (fun s r => by simp), forRoles_same (·.badCount) _ s (fun s r => by simp), forRoles_same (·.shutdown) _ s (fun s r => by simp), forRoles_same (·.throttle) _ s (fun s r => by simp), forRoles_same (·.port) _ s (fun s r => by simp)⟩

@[simp] theorem handTarget_frame (s : State) (r : Nat) :
    (s.handTarget r).pending = s.pending ∧ (s.handTarget r).now = s.now ∧ (s.handTarget r).choices = s.choices ∧ (s.handTarget r).stamp = s.stamp ∧ (s.handTarget r).ctl = s.ctl ∧ (s.handTarget r).timing = s.timing ∧ (s.handTarget r).temps = s.temps ∧ (s.handTarget r).roundTimer = s.roundTimer ∧ (s.handTarget r).demand = s.demand ∧ (s.handTarget r).peers = s.peers ∧ (s.handTarget r).line = s.line ∧ (s.handTarget r).txq = s.txq ∧ (s.handTarget r).badCount = s.badCount ∧ (s.handTarget r).shutdown = s.shutdown ∧ (s.handTarget r).throttle = s.throttle ∧ (s.handTarget r).notices = s.notices ∧ (s.handTarget r).port = s.port := by
  unfold handTarget; repeat' split
  all_goals simp

@[simp] theorem handTargets_frame (s : State) :
    (s.handTargets).pending = s.pending ∧ (s.handTargets).now = s.now ∧ (s.handTargets).choices = s.choices ∧ (s.handTargets).stamp = s.stamp ∧ (s.handTargets).ctl = s.ctl ∧ (s.handTargets).timing = s.timing ∧ (s.handTargets).temps = s.temps ∧ (s.handTargets).roundTimer = s.roundTimer ∧ (s.handTargets).demand = s.demand ∧ (s.handTargets).peers = s.peers ∧ (s.handTargets).line = s.line ∧ (s.handTargets).txq = s.txq ∧ (s.handTargets).badCount = s.badCount ∧ (s.handTargets).shutdown = s.shutdown ∧ (s.handTargets).throttle = s.throttle ∧ (s.handTargets).notices = s.notices ∧ (s.handTargets).port = s.port :=
  ⟨forRoles_same (·.pending) _ s (fun s r => by simp), forRoles_same (·.now) _ s (fun s r => by simp), forRoles_same (·.choices) _ s (fun s r => by simp), forRoles_same (·.stamp) _ s (fun s r => by simp), forRoles_same (·.ctl) _ s (fun s r => by simp), forRoles_same (·.timing) _ s (fun s r => by simp), forRoles_same (·.temps) _ s (fun s r => by simp), forRoles_same (·.roundTimer) _ s (fun s r => by simp), forRoles_same (·.demand) _ s (fun s r => by simp), forRoles_same (·.peers) _ s (fun s r => by simp), forRoles_same (·.line) _ s (fun s r => by simp), forRoles_same (·.txq) _ s (fun s r => by simp), forRoles_same (·.badCount) _ s (fun s r => by simp), forRoles_same (·.shutdown) _ s (fun s r => by simp), forRoles_same (·.throttle) _ s (fun s r => by simp), forRoles_same (·.notices) _ s (fun s r => by simp), forRoles_same (·.port) _ s (fun s r => by simp)⟩

@[simp] theorem endClaim_frame (s : State) (r n : Nat) :
    (s.endClaim r n).pending = s.pending ∧ (s.endClaim r n).now = s.now ∧ (s.endClaim r n).choices = s.choices ∧ (s.endClaim r n).stamp = s.stamp ∧ (s.endClaim r n).ctl = s.ctl ∧ (s.endClaim r n).timing = s.timing ∧ (s.endClaim r n).temps = s.temps ∧ (s.endClaim r n).roundTimer = s.roundTimer ∧ (s.endClaim r n).demand = s.demand ∧ (s.endClaim r n).fans = s.fans ∧ (s.endClaim r n).peers = s.peers ∧ (s.endClaim r n).line = s.line ∧ (s.endClaim r n).txq = s.txq ∧ (s.endClaim r n).badCount = s.badCount ∧ (s.endClaim r n).shutdown = s.shutdown ∧ (s.endClaim r n).throttle = s.throttle ∧ (s.endClaim r n).port = s.port := by
  unfold endClaim; repeat' split
  all_goals simp

@[simp] theorem refreshClaim_frame (s : State) (r n : Nat) (i : DemandItem) (e : ClaimEntry) :
    (s.refreshClaim r n i e).pending = s.pending ∧ (s.refreshClaim r n i e).now = s.now ∧ (s.refreshClaim r n i e).choices = s.choices ∧ (s.refreshClaim r n i e).stamp = s.stamp ∧ (s.refreshClaim r n i e).ctl = s.ctl ∧ (s.refreshClaim r n i e).timing = s.timing ∧ (s.refreshClaim r n i e).temps = s.temps ∧ (s.refreshClaim r n i e).roundTimer = s.roundTimer ∧ (s.refreshClaim r n i e).demand = s.demand ∧ (s.refreshClaim r n i e).fans = s.fans ∧ (s.refreshClaim r n i e).peers = s.peers ∧ (s.refreshClaim r n i e).line = s.line ∧ (s.refreshClaim r n i e).txq = s.txq ∧ (s.refreshClaim r n i e).badCount = s.badCount ∧ (s.refreshClaim r n i e).shutdown = s.shutdown ∧ (s.refreshClaim r n i e).throttle = s.throttle ∧ (s.refreshClaim r n i e).port = s.port := by
  unfold refreshClaim; repeat' split
  all_goals simp

@[simp] theorem foldPeak_frame (s : State) (r : Nat) (role : Role) (l : Nat) :
    (s.foldPeak r role l).pending = s.pending ∧ (s.foldPeak r role l).now = s.now ∧ (s.foldPeak r role l).choices = s.choices ∧ (s.foldPeak r role l).stamp = s.stamp ∧ (s.foldPeak r role l).ctl = s.ctl ∧ (s.foldPeak r role l).timing = s.timing ∧ (s.foldPeak r role l).temps = s.temps ∧ (s.foldPeak r role l).roundTimer = s.roundTimer ∧ (s.foldPeak r role l).demand = s.demand ∧ (s.foldPeak r role l).fans = s.fans ∧ (s.foldPeak r role l).peers = s.peers ∧ (s.foldPeak r role l).line = s.line ∧ (s.foldPeak r role l).txq = s.txq ∧ (s.foldPeak r role l).badCount = s.badCount ∧ (s.foldPeak r role l).shutdown = s.shutdown ∧ (s.foldPeak r role l).throttle = s.throttle ∧ (s.foldPeak r role l).port = s.port := by
  unfold foldPeak; repeat' split
  all_goals simp

@[simp] theorem newClaim_frame (s : State) (r n : Nat) (role : Role) (i : DemandItem) :
    (s.newClaim r n role i).pending = s.pending ∧ (s.newClaim r n role i).now = s.now ∧ (s.newClaim r n role i).choices = s.choices ∧ (s.newClaim r n role i).stamp = s.stamp ∧ (s.newClaim r n role i).ctl = s.ctl ∧ (s.newClaim r n role i).timing = s.timing ∧ (s.newClaim r n role i).temps = s.temps ∧ (s.newClaim r n role i).roundTimer = s.roundTimer ∧ (s.newClaim r n role i).demand = s.demand ∧ (s.newClaim r n role i).fans = s.fans ∧ (s.newClaim r n role i).peers = s.peers ∧ (s.newClaim r n role i).line = s.line ∧ (s.newClaim r n role i).txq = s.txq ∧ (s.newClaim r n role i).badCount = s.badCount ∧ (s.newClaim r n role i).shutdown = s.shutdown ∧ (s.newClaim r n role i).throttle = s.throttle ∧ (s.newClaim r n role i).port = s.port := by
  unfold newClaim; repeat' split
  all_goals simp

@[simp] theorem postFan_frame (s : State) (c : Nat) (a b : FanChannel) :
    (s.postFan c a b).pending = s.pending ∧ (s.postFan c a b).now = s.now ∧ (s.postFan c a b).choices = s.choices ∧ (s.postFan c a b).stamp = s.stamp ∧ (s.postFan c a b).ctl = s.ctl ∧ (s.postFan c a b).timing = s.timing ∧ (s.postFan c a b).temps = s.temps ∧ (s.postFan c a b).roundTimer = s.roundTimer ∧ (s.postFan c a b).demand = s.demand ∧ (s.postFan c a b).roles = s.roles ∧ (s.postFan c a b).fans = s.fans ∧ (s.postFan c a b).peers = s.peers ∧ (s.postFan c a b).line = s.line ∧ (s.postFan c a b).txq = s.txq ∧ (s.postFan c a b).badCount = s.badCount ∧ (s.postFan c a b).shutdown = s.shutdown ∧ (s.postFan c a b).throttle = s.throttle ∧ (s.postFan c a b).port = s.port := by
  unfold postFan; repeat' split
  all_goals simp

@[simp] theorem measureFan_frame (s : State) (c : Nat) (f : FanChannel) (es : List Nat) :
    (s.measureFan c f es).pending = s.pending ∧ (s.measureFan c f es).now = s.now ∧ (s.measureFan c f es).choices = s.choices ∧ (s.measureFan c f es).stamp = s.stamp ∧ (s.measureFan c f es).ctl = s.ctl ∧ (s.measureFan c f es).timing = s.timing ∧ (s.measureFan c f es).temps = s.temps ∧ (s.measureFan c f es).roundTimer = s.roundTimer ∧ (s.measureFan c f es).demand = s.demand ∧ (s.measureFan c f es).peers = s.peers ∧ (s.measureFan c f es).line = s.line ∧ (s.measureFan c f es).txq = s.txq ∧ (s.measureFan c f es).badCount = s.badCount ∧ (s.measureFan c f es).shutdown = s.shutdown ∧ (s.measureFan c f es).throttle = s.throttle ∧ (s.measureFan c f es).port = s.port := by
  unfold measureFan; repeat' split
  all_goals simp

@[simp] theorem postHealth_frame (s : State) (i : Nat) (a b : TempChannel) :
    (s.postHealth i a b).pending = s.pending ∧ (s.postHealth i a b).now = s.now ∧ (s.postHealth i a b).choices = s.choices ∧ (s.postHealth i a b).stamp = s.stamp ∧ (s.postHealth i a b).ctl = s.ctl ∧ (s.postHealth i a b).timing = s.timing ∧ (s.postHealth i a b).temps = s.temps ∧ (s.postHealth i a b).roundTimer = s.roundTimer ∧ (s.postHealth i a b).demand = s.demand ∧ (s.postHealth i a b).roles = s.roles ∧ (s.postHealth i a b).fans = s.fans ∧ (s.postHealth i a b).peers = s.peers ∧ (s.postHealth i a b).line = s.line ∧ (s.postHealth i a b).txq = s.txq ∧ (s.postHealth i a b).badCount = s.badCount ∧ (s.postHealth i a b).shutdown = s.shutdown ∧ (s.postHealth i a b).throttle = s.throttle ∧ (s.postHealth i a b).port = s.port := by
  unfold postHealth; repeat' split
  all_goals simp

@[simp] theorem postWatch_frame (s : State) (i : Nat) (a b : TempChannel) :
    (s.postWatch i a b).pending = s.pending ∧ (s.postWatch i a b).now = s.now ∧ (s.postWatch i a b).choices = s.choices ∧ (s.postWatch i a b).stamp = s.stamp ∧ (s.postWatch i a b).ctl = s.ctl ∧ (s.postWatch i a b).timing = s.timing ∧ (s.postWatch i a b).temps = s.temps ∧ (s.postWatch i a b).roundTimer = s.roundTimer ∧ (s.postWatch i a b).demand = s.demand ∧ (s.postWatch i a b).roles = s.roles ∧ (s.postWatch i a b).fans = s.fans ∧ (s.postWatch i a b).peers = s.peers ∧ (s.postWatch i a b).line = s.line ∧ (s.postWatch i a b).txq = s.txq ∧ (s.postWatch i a b).badCount = s.badCount ∧ (s.postWatch i a b).shutdown = s.shutdown ∧ (s.postWatch i a b).throttle = s.throttle ∧ (s.postWatch i a b).port = s.port := by
  unfold postWatch; repeat' split
  all_goals simp

@[simp] theorem enterCritical_frame (s : State) (i : Nat) (v : Option Int) :
    (s.enterCritical i v).pending = s.pending ∧ (s.enterCritical i v).now = s.now ∧ (s.enterCritical i v).choices = s.choices ∧ (s.enterCritical i v).ctl = s.ctl ∧ (s.enterCritical i v).timing = s.timing ∧ (s.enterCritical i v).roundTimer = s.roundTimer ∧ (s.enterCritical i v).demand = s.demand ∧ (s.enterCritical i v).peers = s.peers ∧ (s.enterCritical i v).badCount = s.badCount ∧ (s.enterCritical i v).throttle = s.throttle ∧ (s.enterCritical i v).port = s.port := by
  unfold enterCritical; dsimp only; repeat' split
  all_goals try simp

@[simp] theorem queueTakeover_frame (s : State) (r : Nat) :
    (s.queueTakeover r).pending = s.pending ∧ (s.queueTakeover r).now = s.now ∧ (s.queueTakeover r).choices = s.choices ∧ (s.queueTakeover r).ctl = s.ctl ∧ (s.queueTakeover r).timing = s.timing ∧ (s.queueTakeover r).temps = s.temps ∧ (s.queueTakeover r).roundTimer = s.roundTimer ∧ (s.queueTakeover r).demand = s.demand ∧ (s.queueTakeover r).fans = s.fans ∧ (s.queueTakeover r).peers = s.peers ∧ (s.queueTakeover r).badCount = s.badCount ∧ (s.queueTakeover r).shutdown = s.shutdown ∧ (s.queueTakeover r).throttle = s.throttle ∧ (s.queueTakeover r).port = s.port := by
  unfold queueTakeover; repeat' split
  all_goals simp

@[simp] theorem queueHandback_frame (s : State) (r : Nat) :
    (s.queueHandback r).pending = s.pending ∧ (s.queueHandback r).now = s.now ∧ (s.queueHandback r).choices = s.choices ∧ (s.queueHandback r).ctl = s.ctl ∧ (s.queueHandback r).timing = s.timing ∧ (s.queueHandback r).temps = s.temps ∧ (s.queueHandback r).roundTimer = s.roundTimer ∧ (s.queueHandback r).demand = s.demand ∧ (s.queueHandback r).fans = s.fans ∧ (s.queueHandback r).peers = s.peers ∧ (s.queueHandback r).badCount = s.badCount ∧ (s.queueHandback r).shutdown = s.shutdown ∧ (s.queueHandback r).throttle = s.throttle ∧ (s.queueHandback r).port = s.port := by
  unfold queueHandback; repeat' split
  all_goals simp

@[simp] theorem forceTakeover_frame (s : State) (r : Nat) (m : Forcing) :
    (s.forceTakeover r m).pending = s.pending ∧ (s.forceTakeover r m).now = s.now ∧ (s.forceTakeover r m).choices = s.choices ∧ (s.forceTakeover r m).ctl = s.ctl ∧ (s.forceTakeover r m).timing = s.timing ∧ (s.forceTakeover r m).temps = s.temps ∧ (s.forceTakeover r m).roundTimer = s.roundTimer ∧ (s.forceTakeover r m).demand = s.demand ∧ (s.forceTakeover r m).fans = s.fans ∧ (s.forceTakeover r m).peers = s.peers ∧ (s.forceTakeover r m).badCount = s.badCount ∧ (s.forceTakeover r m).shutdown = s.shutdown ∧ (s.forceTakeover r m).throttle = s.throttle ∧ (s.forceTakeover r m).port = s.port := by
  unfold forceTakeover; simp

@[simp] theorem claimGroup_frame (s : State) (r : Nat) :
    (s.claimGroup r).pending = s.pending ∧ (s.claimGroup r).now = s.now ∧ (s.claimGroup r).choices = s.choices ∧ (s.claimGroup r).ctl = s.ctl ∧ (s.claimGroup r).timing = s.timing ∧ (s.claimGroup r).temps = s.temps ∧ (s.claimGroup r).roundTimer = s.roundTimer ∧ (s.claimGroup r).demand = s.demand ∧ (s.claimGroup r).fans = s.fans ∧ (s.claimGroup r).peers = s.peers ∧ (s.claimGroup r).badCount = s.badCount ∧ (s.claimGroup r).shutdown = s.shutdown ∧ (s.claimGroup r).throttle = s.throttle ∧ (s.claimGroup r).port = s.port := by
  unfold claimGroup; simp

@[simp] theorem enterWatch_frame (s : State) (r : Nat) :
    (s.enterWatch r).pending = s.pending ∧ (s.enterWatch r).now = s.now ∧ (s.enterWatch r).choices = s.choices ∧ (s.enterWatch r).stamp = s.stamp ∧ (s.enterWatch r).ctl = s.ctl ∧ (s.enterWatch r).timing = s.timing ∧ (s.enterWatch r).temps = s.temps ∧ (s.enterWatch r).roundTimer = s.roundTimer ∧ (s.enterWatch r).demand = s.demand ∧ (s.enterWatch r).fans = s.fans ∧ (s.enterWatch r).peers = s.peers ∧ (s.enterWatch r).line = s.line ∧ (s.enterWatch r).txq = s.txq ∧ (s.enterWatch r).badCount = s.badCount ∧ (s.enterWatch r).shutdown = s.shutdown ∧ (s.enterWatch r).throttle = s.throttle ∧ (s.enterWatch r).notices = s.notices ∧ (s.enterWatch r).port = s.port := by
  unfold enterWatch; simp

@[simp] theorem loseConflict_frame (s : State) (r : Nat) (role : Role) (n : Nat) (e : Epoch) :
    (s.loseConflict r role n e).pending = s.pending ∧ (s.loseConflict r role n e).now = s.now ∧ (s.loseConflict r role n e).choices = s.choices ∧ (s.loseConflict r role n e).stamp = s.stamp ∧ (s.loseConflict r role n e).ctl = s.ctl ∧ (s.loseConflict r role n e).timing = s.timing ∧ (s.loseConflict r role n e).temps = s.temps ∧ (s.loseConflict r role n e).roundTimer = s.roundTimer ∧ (s.loseConflict r role n e).demand = s.demand ∧ (s.loseConflict r role n e).peers = s.peers ∧ (s.loseConflict r role n e).line = s.line ∧ (s.loseConflict r role n e).badCount = s.badCount ∧ (s.loseConflict r role n e).shutdown = s.shutdown ∧ (s.loseConflict r role n e).throttle = s.throttle ∧ (s.loseConflict r role n e).port = s.port := by
  unfold loseConflict; repeat' split
  all_goals simp

@[simp] theorem takeConflict_frame (s : State) (r : Nat) (role : Role) (n : Nat) (e : Epoch) (k : RoleKind) :
    (s.takeConflict r role n e k).pending = s.pending ∧ (s.takeConflict r role n e k).now = s.now ∧ (s.takeConflict r role n e k).choices = s.choices ∧ (s.takeConflict r role n e k).stamp = s.stamp ∧ (s.takeConflict r role n e k).ctl = s.ctl ∧ (s.takeConflict r role n e k).timing = s.timing ∧ (s.takeConflict r role n e k).temps = s.temps ∧ (s.takeConflict r role n e k).roundTimer = s.roundTimer ∧ (s.takeConflict r role n e k).demand = s.demand ∧ (s.takeConflict r role n e k).peers = s.peers ∧ (s.takeConflict r role n e k).line = s.line ∧ (s.takeConflict r role n e k).badCount = s.badCount ∧ (s.takeConflict r role n e k).shutdown = s.shutdown ∧ (s.takeConflict r role n e k).throttle = s.throttle ∧ (s.takeConflict r role n e k).port = s.port := by
  unfold takeConflict; dsimp only; repeat' split
  all_goals try simp

@[simp] theorem hearOther_frame (s : State) (r : Nat) (role : Role) (n : Nat) (e : Epoch) :
    (s.hearOther r role n e).pending = s.pending ∧ (s.hearOther r role n e).now = s.now ∧ (s.hearOther r role n e).choices = s.choices ∧ (s.hearOther r role n e).ctl = s.ctl ∧ (s.hearOther r role n e).timing = s.timing ∧ (s.hearOther r role n e).temps = s.temps ∧ (s.hearOther r role n e).roundTimer = s.roundTimer ∧ (s.hearOther r role n e).demand = s.demand ∧ (s.hearOther r role n e).fans = s.fans ∧ (s.hearOther r role n e).peers = s.peers ∧ (s.hearOther r role n e).badCount = s.badCount ∧ (s.hearOther r role n e).shutdown = s.shutdown ∧ (s.hearOther r role n e).throttle = s.throttle ∧ (s.hearOther r role n e).port = s.port := by
  unfold hearOther; repeat' split
  all_goals simp

@[simp] theorem acceptYield_frame (s : State) (r : Nat) (role : Role) (e : Epoch) (l : Nat) :
    (s.acceptYield r role e l).pending = s.pending ∧ (s.acceptYield r role e l).now = s.now ∧ (s.acceptYield r role e l).choices = s.choices ∧ (s.acceptYield r role e l).stamp = s.stamp ∧ (s.acceptYield r role e l).ctl = s.ctl ∧ (s.acceptYield r role e l).timing = s.timing ∧ (s.acceptYield r role e l).temps = s.temps ∧ (s.acceptYield r role e l).roundTimer = s.roundTimer ∧ (s.acceptYield r role e l).demand = s.demand ∧ (s.acceptYield r role e l).peers = s.peers ∧ (s.acceptYield r role e l).line = s.line ∧ (s.acceptYield r role e l).badCount = s.badCount ∧ (s.acceptYield r role e l).shutdown = s.shutdown ∧ (s.acceptYield r role e l).throttle = s.throttle ∧ (s.acceptYield r role e l).port = s.port := by
  unfold acceptYield; simp

@[simp] theorem answerHandback_frame (s : State) (role : Role) (n : Nat) (e : Epoch) :
    (s.answerHandback role n e).pending = s.pending ∧ (s.answerHandback role n e).now = s.now ∧ (s.answerHandback role n e).choices = s.choices ∧ (s.answerHandback role n e).ctl = s.ctl ∧ (s.answerHandback role n e).timing = s.timing ∧ (s.answerHandback role n e).temps = s.temps ∧ (s.answerHandback role n e).roundTimer = s.roundTimer ∧ (s.answerHandback role n e).demand = s.demand ∧ (s.answerHandback role n e).fans = s.fans ∧ (s.answerHandback role n e).peers = s.peers ∧ (s.answerHandback role n e).badCount = s.badCount ∧ (s.answerHandback role n e).shutdown = s.shutdown ∧ (s.answerHandback role n e).throttle = s.throttle ∧ (s.answerHandback role n e).port = s.port := by
  unfold answerHandback; dsimp only; repeat' split
  all_goals try simp

@[simp] theorem roleFrame_frame (s : State) (r : Nat) (role : Role) (n : Nat) (e : Epoch) (p : Payload) :
    (s.roleFrame r role n e p).pending = s.pending ∧ (s.roleFrame r role n e p).now = s.now ∧ (s.roleFrame r role n e p).choices = s.choices ∧ (s.roleFrame r role n e p).ctl = s.ctl ∧ (s.roleFrame r role n e p).timing = s.timing ∧ (s.roleFrame r role n e p).temps = s.temps ∧ (s.roleFrame r role n e p).roundTimer = s.roundTimer ∧ (s.roleFrame r role n e p).demand = s.demand ∧ (s.roleFrame r role n e p).peers = s.peers ∧ (s.roleFrame r role n e p).badCount = s.badCount ∧ (s.roleFrame r role n e p).shutdown = s.shutdown ∧ (s.roleFrame r role n e p).throttle = s.throttle ∧ (s.roleFrame r role n e p).port = s.port := by
  unfold roleFrame; repeat' split
  all_goals simp

@[simp] theorem checkTakeover_frame (s : State) (r : Nat) :
    (s.checkTakeover r).pending = s.pending ∧ (s.checkTakeover r).now = s.now ∧ (s.checkTakeover r).choices = s.choices ∧ (s.checkTakeover r).stamp = s.stamp ∧ (s.checkTakeover r).ctl = s.ctl ∧ (s.checkTakeover r).timing = s.timing ∧ (s.checkTakeover r).temps = s.temps ∧ (s.checkTakeover r).roundTimer = s.roundTimer ∧ (s.checkTakeover r).demand = s.demand ∧ (s.checkTakeover r).fans = s.fans ∧ (s.checkTakeover r).peers = s.peers ∧ (s.checkTakeover r).line = s.line ∧ (s.checkTakeover r).badCount = s.badCount ∧ (s.checkTakeover r).shutdown = s.shutdown ∧ (s.checkTakeover r).throttle = s.throttle ∧ (s.checkTakeover r).notices = s.notices ∧ (s.checkTakeover r).port = s.port := by
  unfold checkTakeover; repeat' split
  all_goals simp

@[simp] theorem driveshipTakes_frame (s : State) (n : Nat) (p : Payload) :
    (s.driveshipTakes n p).pending = s.pending ∧ (s.driveshipTakes n p).now = s.now ∧ (s.driveshipTakes n p).choices = s.choices ∧ (s.driveshipTakes n p).ctl = s.ctl ∧ (s.driveshipTakes n p).timing = s.timing ∧ (s.driveshipTakes n p).temps = s.temps ∧ (s.driveshipTakes n p).roundTimer = s.roundTimer ∧ (s.driveshipTakes n p).demand = s.demand ∧ (s.driveshipTakes n p).peers = s.peers ∧ (s.driveshipTakes n p).badCount = s.badCount ∧ (s.driveshipTakes n p).shutdown = s.shutdown ∧ (s.driveshipTakes n p).throttle = s.throttle ∧ (s.driveshipTakes n p).port = s.port := by
  unfold driveshipTakes; repeat' split
  all_goals simp

@[simp] theorem takeoverTransmitted_frame (s : State) (g : Nat) (e : Epoch) :
    (s.takeoverTransmitted g e).pending = s.pending ∧ (s.takeoverTransmitted g e).now = s.now ∧ (s.takeoverTransmitted g e).choices = s.choices ∧ (s.takeoverTransmitted g e).stamp = s.stamp ∧ (s.takeoverTransmitted g e).ctl = s.ctl ∧ (s.takeoverTransmitted g e).timing = s.timing ∧ (s.takeoverTransmitted g e).temps = s.temps ∧ (s.takeoverTransmitted g e).roundTimer = s.roundTimer ∧ (s.takeoverTransmitted g e).demand = s.demand ∧ (s.takeoverTransmitted g e).peers = s.peers ∧ (s.takeoverTransmitted g e).line = s.line ∧ (s.takeoverTransmitted g e).txq = s.txq ∧ (s.takeoverTransmitted g e).badCount = s.badCount ∧ (s.takeoverTransmitted g e).shutdown = s.shutdown ∧ (s.takeoverTransmitted g e).throttle = s.throttle ∧ (s.takeoverTransmitted g e).port = s.port := by
  unfold takeoverTransmitted; repeat' split
  all_goals simp

@[simp] theorem handbackTransmitted_frame (s : State) (g : Nat) :
    (s.handbackTransmitted g).pending = s.pending ∧ (s.handbackTransmitted g).now = s.now ∧ (s.handbackTransmitted g).choices = s.choices ∧ (s.handbackTransmitted g).stamp = s.stamp ∧ (s.handbackTransmitted g).ctl = s.ctl ∧ (s.handbackTransmitted g).timing = s.timing ∧ (s.handbackTransmitted g).temps = s.temps ∧ (s.handbackTransmitted g).roundTimer = s.roundTimer ∧ (s.handbackTransmitted g).demand = s.demand ∧ (s.handbackTransmitted g).fans = s.fans ∧ (s.handbackTransmitted g).peers = s.peers ∧ (s.handbackTransmitted g).line = s.line ∧ (s.handbackTransmitted g).txq = s.txq ∧ (s.handbackTransmitted g).badCount = s.badCount ∧ (s.handbackTransmitted g).shutdown = s.shutdown ∧ (s.handbackTransmitted g).throttle = s.throttle ∧ (s.handbackTransmitted g).notices = s.notices ∧ (s.handbackTransmitted g).port = s.port := by
  unfold handbackTransmitted; repeat' split
  all_goals simp

@[simp] theorem yieldTransmitted_frame (s : State) (g : Nat) (e : Epoch) :
    (s.yieldTransmitted g e).pending = s.pending ∧ (s.yieldTransmitted g e).now = s.now ∧ (s.yieldTransmitted g e).choices = s.choices ∧ (s.yieldTransmitted g e).stamp = s.stamp ∧ (s.yieldTransmitted g e).ctl = s.ctl ∧ (s.yieldTransmitted g e).timing = s.timing ∧ (s.yieldTransmitted g e).temps = s.temps ∧ (s.yieldTransmitted g e).roundTimer = s.roundTimer ∧ (s.yieldTransmitted g e).demand = s.demand ∧ (s.yieldTransmitted g e).peers = s.peers ∧ (s.yieldTransmitted g e).line = s.line ∧ (s.yieldTransmitted g e).txq = s.txq ∧ (s.yieldTransmitted g e).badCount = s.badCount ∧ (s.yieldTransmitted g e).shutdown = s.shutdown ∧ (s.yieldTransmitted g e).throttle = s.throttle ∧ (s.yieldTransmitted g e).port = s.port := by
  unfold yieldTransmitted; repeat' split
  all_goals simp

@[simp] theorem roleRuns_frame (s : State) (r : Nat) :
    (s.roleRuns r).pending = s.pending ∧ (s.roleRuns r).now = s.now ∧ (s.roleRuns r).choices = s.choices ∧ (s.roleRuns r).ctl = s.ctl ∧ (s.roleRuns r).timing = s.timing ∧ (s.roleRuns r).temps = s.temps ∧ (s.roleRuns r).roundTimer = s.roundTimer ∧ (s.roleRuns r).demand = s.demand ∧ (s.roleRuns r).peers = s.peers ∧ (s.roleRuns r).badCount = s.badCount ∧ (s.roleRuns r).shutdown = s.shutdown ∧ (s.roleRuns r).throttle = s.throttle ∧ (s.roleRuns r).port = s.port := by
  unfold roleRuns; repeat' split
  all_goals simp

@[simp] theorem roleIsolated_frame (s : State) (r : Nat) :
    (s.roleIsolated r).pending = s.pending ∧ (s.roleIsolated r).now = s.now ∧ (s.roleIsolated r).choices = s.choices ∧ (s.roleIsolated r).stamp = s.stamp ∧ (s.roleIsolated r).ctl = s.ctl ∧ (s.roleIsolated r).timing = s.timing ∧ (s.roleIsolated r).temps = s.temps ∧ (s.roleIsolated r).roundTimer = s.roundTimer ∧ (s.roleIsolated r).demand = s.demand ∧ (s.roleIsolated r).fans = s.fans ∧ (s.roleIsolated r).peers = s.peers ∧ (s.roleIsolated r).line = s.line ∧ (s.roleIsolated r).badCount = s.badCount ∧ (s.roleIsolated r).shutdown = s.shutdown ∧ (s.roleIsolated r).throttle = s.throttle ∧ (s.roleIsolated r).notices = s.notices ∧ (s.roleIsolated r).port = s.port := by
  unfold roleIsolated; dsimp only; repeat' split
  all_goals try simp

@[simp] theorem roleRejoined_frame (s : State) (r : Nat) :
    (s.roleRejoined r).pending = s.pending ∧ (s.roleRejoined r).now = s.now ∧ (s.roleRejoined r).choices = s.choices ∧ (s.roleRejoined r).ctl = s.ctl ∧ (s.roleRejoined r).timing = s.timing ∧ (s.roleRejoined r).temps = s.temps ∧ (s.roleRejoined r).roundTimer = s.roundTimer ∧ (s.roleRejoined r).demand = s.demand ∧ (s.roleRejoined r).fans = s.fans ∧ (s.roleRejoined r).peers = s.peers ∧ (s.roleRejoined r).badCount = s.badCount ∧ (s.roleRejoined r).shutdown = s.shutdown ∧ (s.roleRejoined r).throttle = s.throttle ∧ (s.roleRejoined r).port = s.port := by
  unfold roleRejoined; dsimp only; repeat' split
  all_goals try simp

@[simp] theorem rosterTakes_frame (s : State) (n : Nat) (k : FrameKind) :
    (s.rosterTakes n k).pending = s.pending ∧ (s.rosterTakes n k).now = s.now ∧ (s.rosterTakes n k).choices = s.choices ∧ (s.rosterTakes n k).stamp = s.stamp ∧ (s.rosterTakes n k).ctl = s.ctl ∧ (s.rosterTakes n k).timing = s.timing ∧ (s.rosterTakes n k).temps = s.temps ∧ (s.rosterTakes n k).roundTimer = s.roundTimer ∧ (s.rosterTakes n k).demand = s.demand ∧ (s.rosterTakes n k).roles = s.roles ∧ (s.rosterTakes n k).fans = s.fans ∧ (s.rosterTakes n k).line = s.line ∧ (s.rosterTakes n k).txq = s.txq ∧ (s.rosterTakes n k).badCount = s.badCount ∧ (s.rosterTakes n k).shutdown = s.shutdown ∧ (s.rosterTakes n k).throttle = s.throttle ∧ (s.rosterTakes n k).port = s.port := by
  unfold rosterTakes; repeat' split
  all_goals simp

@[simp] theorem isolate_frame (s : State) :
    (s.isolate).pending = s.pending ∧ (s.isolate).now = s.now ∧ (s.isolate).choices = s.choices ∧ (s.isolate).stamp = s.stamp ∧ (s.isolate).ctl = s.ctl ∧ (s.isolate).timing = s.timing ∧ (s.isolate).temps = s.temps ∧ (s.isolate).roundTimer = s.roundTimer ∧ (s.isolate).demand = s.demand ∧ (s.isolate).line = s.line ∧ (s.isolate).badCount = s.badCount ∧ (s.isolate).shutdown = s.shutdown ∧ (s.isolate).throttle = s.throttle ∧ (s.isolate).port = s.port := by
  unfold isolate
  refine ⟨(forRoles_same (·.pending) _ _ (fun s r => by simp)).trans (by simp), (forRoles_same (·.now) _ _ (fun s r => by simp)).trans (by simp), (forRoles_same (·.choices) _ _ (fun s r => by simp)).trans (by simp), (forRoles_same (·.stamp) _ _ (fun s r => by simp)).trans (by simp), (forRoles_same (·.ctl) _ _ (fun s r => by simp)).trans (by simp), (forRoles_same (·.timing) _ _ (fun s r => by simp)).trans (by simp), (forRoles_same (·.temps) _ _ (fun s r => by simp)).trans (by simp), (forRoles_same (·.roundTimer) _ _ (fun s r => by simp)).trans (by simp), (forRoles_same (·.demand) _ _ (fun s r => by simp)).trans (by simp), (forRoles_same (·.line) _ _ (fun s r => by simp)).trans (by simp), (forRoles_same (·.badCount) _ _ (fun s r => by simp)).trans (by simp), (forRoles_same (·.shutdown) _ _ (fun s r => by simp)).trans (by simp), (forRoles_same (·.throttle) _ _ (fun s r => by simp)).trans (by simp), (forRoles_same (·.port) _ _ (fun s r => by simp)).trans (by simp)⟩

@[simp] theorem rejoin_frame (s : State) (n : Nat) :
    (s.rejoin n).pending = s.pending ∧ (s.rejoin n).now = s.now ∧ (s.rejoin n).choices = s.choices ∧ (s.rejoin n).ctl = s.ctl ∧ (s.rejoin n).timing = s.timing ∧ (s.rejoin n).temps = s.temps ∧ (s.rejoin n).roundTimer = s.roundTimer ∧ (s.rejoin n).demand = s.demand ∧ (s.rejoin n).badCount = s.badCount ∧ (s.rejoin n).shutdown = s.shutdown ∧ (s.rejoin n).throttle = s.throttle ∧ (s.rejoin n).port = s.port := by
  unfold rejoin
  refine ⟨(forRoles_same (·.pending) _ _ (fun s r => by simp)).trans (by simp), (forRoles_same (·.now) _ _ (fun s r => by simp)).trans (by simp), (forRoles_same (·.choices) _ _ (fun s r => by simp)).trans (by simp), (forRoles_same (·.ctl) _ _ (fun s r => by simp)).trans (by simp), (forRoles_same (·.timing) _ _ (fun s r => by simp)).trans (by simp), (forRoles_same (·.temps) _ _ (fun s r => by simp)).trans (by simp), (forRoles_same (·.roundTimer) _ _ (fun s r => by simp)).trans (by simp), (forRoles_same (·.demand) _ _ (fun s r => by simp)).trans (by simp), (forRoles_same (·.badCount) _ _ (fun s r => by simp)).trans (by simp), (forRoles_same (·.shutdown) _ _ (fun s r => by simp)).trans (by simp), (forRoles_same (·.throttle) _ _ (fun s r => by simp)).trans (by simp), (forRoles_same (·.port) _ _ (fun s r => by simp)).trans (by simp)⟩

@[simp] theorem linkTakes_frame (s : State) (n : Nat) :
    (s.linkTakes n).pending = s.pending ∧ (s.linkTakes n).now = s.now ∧ (s.linkTakes n).choices = s.choices ∧ (s.linkTakes n).ctl = s.ctl ∧ (s.linkTakes n).timing = s.timing ∧ (s.linkTakes n).temps = s.temps ∧ (s.linkTakes n).roundTimer = s.roundTimer ∧ (s.linkTakes n).demand = s.demand ∧ (s.linkTakes n).badCount = s.badCount ∧ (s.linkTakes n).shutdown = s.shutdown ∧ (s.linkTakes n).throttle = s.throttle ∧ (s.linkTakes n).port = s.port := by
  unfold linkTakes; repeat' split
  all_goals simp

@[simp] theorem takeView_frame (s : State) (n : Nat) (c : StatusContent) :
    (s.takeView n c).pending = s.pending ∧ (s.takeView n c).now = s.now ∧ (s.takeView n c).choices = s.choices ∧ (s.takeView n c).stamp = s.stamp ∧ (s.takeView n c).ctl = s.ctl ∧ (s.takeView n c).timing = s.timing ∧ (s.takeView n c).temps = s.temps ∧ (s.takeView n c).roundTimer = s.roundTimer ∧ (s.takeView n c).demand = s.demand ∧ (s.takeView n c).roles = s.roles ∧ (s.takeView n c).fans = s.fans ∧ (s.takeView n c).line = s.line ∧ (s.takeView n c).txq = s.txq ∧ (s.takeView n c).badCount = s.badCount ∧ (s.takeView n c).shutdown = s.shutdown ∧ (s.takeView n c).throttle = s.throttle ∧ (s.takeView n c).notices = s.notices ∧ (s.takeView n c).port = s.port := by
  unfold takeView; repeat' split
  all_goals simp

@[simp] theorem modBoard_frame (s : State) (g : Nat) (f : List Member → List Member) :
    (s.modBoard g f).pending = s.pending ∧ (s.modBoard g f).now = s.now ∧ (s.modBoard g f).choices = s.choices ∧ (s.modBoard g f).stamp = s.stamp ∧ (s.modBoard g f).ctl = s.ctl ∧ (s.modBoard g f).timing = s.timing ∧ (s.modBoard g f).temps = s.temps ∧ (s.modBoard g f).roundTimer = s.roundTimer ∧ (s.modBoard g f).demand = s.demand ∧ (s.modBoard g f).roles = s.roles ∧ (s.modBoard g f).fans = s.fans ∧ (s.modBoard g f).line = s.line ∧ (s.modBoard g f).txq = s.txq ∧ (s.modBoard g f).badCount = s.badCount ∧ (s.modBoard g f).shutdown = s.shutdown ∧ (s.modBoard g f).notices = s.notices ∧ (s.modBoard g f).port = s.port := by
  unfold modBoard; simp

@[simp] theorem takeSaturation_frame (s : State) (n g : Nat) :
    (s.takeSaturation n g).pending = s.pending ∧ (s.takeSaturation n g).now = s.now ∧ (s.takeSaturation n g).choices = s.choices ∧ (s.takeSaturation n g).stamp = s.stamp ∧ (s.takeSaturation n g).ctl = s.ctl ∧ (s.takeSaturation n g).timing = s.timing ∧ (s.takeSaturation n g).temps = s.temps ∧ (s.takeSaturation n g).roundTimer = s.roundTimer ∧ (s.takeSaturation n g).demand = s.demand ∧ (s.takeSaturation n g).roles = s.roles ∧ (s.takeSaturation n g).fans = s.fans ∧ (s.takeSaturation n g).line = s.line ∧ (s.takeSaturation n g).txq = s.txq ∧ (s.takeSaturation n g).badCount = s.badCount ∧ (s.takeSaturation n g).shutdown = s.shutdown ∧ (s.takeSaturation n g).port = s.port := by
  unfold takeSaturation; repeat' split
  all_goals simp

@[simp] theorem dropMember_frame (s : State) (n g : Nat) :
    (s.dropMember n g).pending = s.pending ∧ (s.dropMember n g).now = s.now ∧ (s.dropMember n g).choices = s.choices ∧ (s.dropMember n g).stamp = s.stamp ∧ (s.dropMember n g).ctl = s.ctl ∧ (s.dropMember n g).timing = s.timing ∧ (s.dropMember n g).temps = s.temps ∧ (s.dropMember n g).roundTimer = s.roundTimer ∧ (s.dropMember n g).demand = s.demand ∧ (s.dropMember n g).roles = s.roles ∧ (s.dropMember n g).fans = s.fans ∧ (s.dropMember n g).line = s.line ∧ (s.dropMember n g).txq = s.txq ∧ (s.dropMember n g).badCount = s.badCount ∧ (s.dropMember n g).shutdown = s.shutdown ∧ (s.dropMember n g).notices = s.notices ∧ (s.dropMember n g).port = s.port := by
  unfold dropMember; simp

@[simp] theorem dropStation_frame (s : State) (n : Nat) :
    (s.dropStation n).pending = s.pending ∧ (s.dropStation n).now = s.now ∧ (s.dropStation n).choices = s.choices ∧ (s.dropStation n).stamp = s.stamp ∧ (s.dropStation n).ctl = s.ctl ∧ (s.dropStation n).timing = s.timing ∧ (s.dropStation n).temps = s.temps ∧ (s.dropStation n).roundTimer = s.roundTimer ∧ (s.dropStation n).demand = s.demand ∧ (s.dropStation n).roles = s.roles ∧ (s.dropStation n).fans = s.fans ∧ (s.dropStation n).line = s.line ∧ (s.dropStation n).txq = s.txq ∧ (s.dropStation n).badCount = s.badCount ∧ (s.dropStation n).shutdown = s.shutdown ∧ (s.dropStation n).notices = s.notices ∧ (s.dropStation n).port = s.port := by
  unfold dropStation; simp

@[simp] theorem takeCritical_frame (s : State) (n c : Nat) (v : Int) :
    (s.takeCritical n c v).pending = s.pending ∧ (s.takeCritical n c v).now = s.now ∧ (s.takeCritical n c v).choices = s.choices ∧ (s.takeCritical n c v).stamp = s.stamp ∧ (s.takeCritical n c v).ctl = s.ctl ∧ (s.takeCritical n c v).timing = s.timing ∧ (s.takeCritical n c v).temps = s.temps ∧ (s.takeCritical n c v).roundTimer = s.roundTimer ∧ (s.takeCritical n c v).demand = s.demand ∧ (s.takeCritical n c v).roles = s.roles ∧ (s.takeCritical n c v).fans = s.fans ∧ (s.takeCritical n c v).line = s.line ∧ (s.takeCritical n c v).txq = s.txq ∧ (s.takeCritical n c v).badCount = s.badCount ∧ (s.takeCritical n c v).throttle = s.throttle ∧ (s.takeCritical n c v).port = s.port := by
  unfold takeCritical; repeat' split
  all_goals simp

@[simp] theorem peerContent_frame (s : State) (n : Nat) (p : Payload) :
    (s.peerContent n p).pending = s.pending ∧ (s.peerContent n p).now = s.now ∧ (s.peerContent n p).choices = s.choices ∧ (s.peerContent n p).stamp = s.stamp ∧ (s.peerContent n p).ctl = s.ctl ∧ (s.peerContent n p).timing = s.timing ∧ (s.peerContent n p).temps = s.temps ∧ (s.peerContent n p).roundTimer = s.roundTimer ∧ (s.peerContent n p).demand = s.demand ∧ (s.peerContent n p).roles = s.roles ∧ (s.peerContent n p).fans = s.fans ∧ (s.peerContent n p).line = s.line ∧ (s.peerContent n p).txq = s.txq ∧ (s.peerContent n p).badCount = s.badCount ∧ (s.peerContent n p).port = s.port := by
  unfold peerContent; repeat' split
  all_goals simp

@[simp] theorem peerTakes_frame (s : State) (n : Nat) (p : Payload) :
    (s.peerTakes n p).pending = s.pending ∧ (s.peerTakes n p).now = s.now ∧ (s.peerTakes n p).choices = s.choices ∧ (s.peerTakes n p).ctl = s.ctl ∧ (s.peerTakes n p).timing = s.timing ∧ (s.peerTakes n p).temps = s.temps ∧ (s.peerTakes n p).roundTimer = s.roundTimer ∧ (s.peerTakes n p).demand = s.demand ∧ (s.peerTakes n p).badCount = s.badCount ∧ (s.peerTakes n p).port = s.port := by
  unfold peerTakes; simp

@[simp] theorem loseContention_frame (s : State) :
    (s.loseContention).pending = s.pending ∧ (s.loseContention).now = s.now ∧ (s.loseContention).choices = s.choices ∧ (s.loseContention).stamp = s.stamp ∧ (s.loseContention).ctl = s.ctl ∧ (s.loseContention).timing = s.timing ∧ (s.loseContention).temps = s.temps ∧ (s.loseContention).roundTimer = s.roundTimer ∧ (s.loseContention).demand = s.demand ∧ (s.loseContention).roles = s.roles ∧ (s.loseContention).fans = s.fans ∧ (s.loseContention).peers = s.peers ∧ (s.loseContention).line = s.line ∧ (s.loseContention).badCount = s.badCount ∧ (s.loseContention).shutdown = s.shutdown ∧ (s.loseContention).throttle = s.throttle ∧ (s.loseContention).notices = s.notices ∧ (s.loseContention).port = s.port := by
  unfold loseContention; simp

end Sys2Proof.Machine.State
end

