-- ==== Sys2Proof/Laws/Drive.lean ====
section
/-! SUPPORT. What an event at a role's drive does: to its record, to its role, to the other roles, and to the fan channels. -/

namespace Sys2Proof.Machine

/-! ### The group condition -/

/-- UNCHECKED channels alone make a NORMAL group (R31). -/
theorem groupCondition_unchecked {hs : List FanHealth} (h : ∀ x ∈ hs, x = .unchecked) : groupCondition hs = .normal := by
  have e : hs.filter (· != .unchecked) = [] := by
    simp only [List.filter_eq_nil_iff, bne_iff_ne, ne_eq, not_not]; exact h
  simp [groupCondition, e]

/-! ### Targets and causes at a drive record -/

/-- A new target at a drive record, as the rules say (R36, R38 to R41). -/
theorem Drive.takeTarget_taken (now : Nat) (cfg : RoleCfg) (target : Nat) (d : Drive) (h : target ≠ d.target) :
    TargetTaken now cfg d (d.takeTarget now cfg target) := by
  have ht : (d.takeTarget now cfg target).target = target := by
    unfold Drive.takeTarget; cases d.state <;> simp
    split <;> rfl
  refine ⟨?_, ?_, ?_⟩
  · rintro (he | hs | hs | hs)
    · exact absurd (ht.symm.trans he) h
    all_goals simp [Drive.takeTarget, hs]
  · intro _ hs
    have e : d.takeTarget now cfg target = { d with
        target := target, ramp := d.ramp.retarget now cfg d.level target
        stopDelay := if target = 0 then (if d.stopDelay = .stopped then .running (now + cfg.stopDelayMs) else d.stopDelay)
          else .stopped } := by simp [Drive.takeTarget, hs]
    rw [e]
    refine ⟨rfl, ?_, ?_, ?_, ?_, ?_⟩
    · intro hl; dsimp only at hl ⊢
      cases hr : d.ramp <;> simp [Ramp.retarget, Ramp.toward, hl, Nat.not_lt.2 hl.le]
    · intro hl; dsimp only at hl ⊢
      cases hr : d.ramp <;> simp [Ramp.retarget, Ramp.toward, hl, Nat.not_lt.2 hl.le]
    · intro hl; dsimp only at hl ⊢
      subst hl
      cases hr : d.ramp <;> simp [Ramp.retarget, Ramp.toward]
    · intro hp; dsimp only at hp ⊢; rw [if_neg (by omega)]
    · intro hz hd; dsimp only at hz ⊢; rw [if_pos hz, if_pos hd]
  · intro _ hs hp
    rw [ht] at hp
    simp [Drive.takeTarget, hs, hp, Drive.enterSpinUp]

/-- A change of causes at a drive record, as the rules say (R42 to R44). -/
theorem Drive.setCauses_taken (now : Nat) (cfg : RoleCfg) (causes : Causes) (d : Drive) :
    CausesTaken now cfg d (d.setCauses now cfg causes) := by
  by_cases hc : causes = d.causes
  · subst hc
    simp [CausesTaken, Drive.setCauses]
  · cases hs : d.state <;> cases he : causes.empty <;>
      simp [CausesTaken, Drive.setCauses, hc, hs, he, Drive.enterFailsafe, Drive.enterTracking, Ramp.toward]

/-! ### A channel follows its drive -/

theorem FanChannel.follow_role (cfg : RoleCfg) (d : Drive) (f : FanChannel) : (f.follow cfg d).role = f.role := by
  unfold FanChannel.follow; split <;> rfl

theorem FanChannel.follow_output (cfg : RoleCfg) (d : Drive) (f : FanChannel) : (f.follow cfg d).output = d.output := by
  unfold FanChannel.follow; split <;> rfl

theorem FanChannel.follow_cfg (cfg : RoleCfg) (d : Drive) (f : FanChannel) : (f.follow cfg d).cfg = f.cfg := by
  unfold FanChannel.follow; split <;> rfl

theorem FanChannel.follow_window (cfg : RoleCfg) (d : Drive) (f : FanChannel) : (f.follow cfg d).window = f.window := by
  unfold FanChannel.follow; split <;> rfl

theorem FanChannel.follow_speed (cfg : RoleCfg) (d : Drive) (f : FanChannel) : (f.follow cfg d).speed = f.speed := by
  unfold FanChannel.follow; split <;> rfl

theorem FanChannel.follow_unchecked (cfg : RoleCfg) (d : Drive) (f : FanChannel) (h : d.checks cfg = false) :
    (f.follow cfg d).health = .unchecked ∧ (f.follow cfg d).run = none := by
  simp [FanChannel.follow, h]

theorem FanChannel.follow_checked (cfg : RoleCfg) (d : Drive) (f : FanChannel) (h : d.checks cfg = true) :
    f.follow cfg d = { f with output := d.output } := by
  simp [FanChannel.follow, h]

/-- A RELEASED drive checks no channel (R28). -/
theorem Drive.checks_released (cfg : RoleCfg) (d : Drive) (h : d.state = .released) : d.checks cfg = false := by
  simp [Drive.checks, h]

namespace State

/-! ### The channels of a role follow -/

theorem followDrive_fans (s : State) (r : Nat) (role : Role) (h : s.roles[r]? = some role) :
    (s.followDrive r).fans = s.fans.map (fun f => if f.role = some r then f.follow role.cfg role.drive else f) := by
  simp [followDrive, h]

/-- Every channel keeps its role, its window, its speed and its configuration when the channels of a role follow. -/
theorem followDrive_fan (s : State) (r i : Nat) (f : FanChannel) (h : (s.followDrive r).fans[i]? = some f) :
    ∃ g, s.fans[i]? = some g ∧ f.role = g.role ∧ f.window = g.window ∧ f.speed = g.speed ∧ f.cfg = g.cfg := by
  unfold followDrive at h
  split at h
  · exact ⟨f, h, rfl, rfl, rfl, rfl⟩
  · simp only [List.getElem?_map, Option.map_eq_some_iff] at h
    obtain ⟨g, hg, rfl⟩ := h
    refine ⟨g, hg, ?_⟩
    split
    · exact ⟨FanChannel.follow_role _ _ _, FanChannel.follow_window _ _ _, FanChannel.follow_speed _ _ _,
        FanChannel.follow_cfg _ _ _⟩
    · exact ⟨rfl, rfl, rfl, rfl⟩

/-- The healths of a role whose drive checks no channel are UNCHECKED after its channels have followed. -/
theorem healths_followDrive_unchecked (s : State) (r : Nat) (role : Role) (h : s.roles[r]? = some role)
    (hc : role.drive.checks role.cfg = false) : ∀ x ∈ (s.followDrive r).healths r, x = .unchecked := by
  intro x hx
  simp only [healths, followDrive_fans s r role h, List.mem_map, List.mem_filter] at hx
  obtain ⟨f, ⟨⟨g, -, rfl⟩, hr⟩, rfl⟩ := hx
  split
  · exact (FanChannel.follow_unchecked _ _ _ hc).1
  · rename_i hn; rw [if_neg hn] at hr; simp at hr; exact absurd hr hn

/-- The healths of a role whose drive checks its channels are unchanged when they follow. -/
theorem healths_followDrive_checked (s : State) (r : Nat) (role : Role) (h : s.roles[r]? = some role)
    (hc : role.drive.checks role.cfg = true) : (s.followDrive r).healths r = s.healths r := by
  simp only [healths, followDrive_fans s r role h, List.filter_map, List.map_map]
  have e : (s.fans.filter ((fun f => f.role == some r) ∘ fun f => if f.role = some r then f.follow role.cfg role.drive else f))
      = s.fans.filter (fun f => f.role == some r) := by
    apply List.filter_congr
    intro f _
    simp only [Function.comp]
    split
    · rw [FanChannel.follow_role]
    · rfl
  rw [e]
  apply List.map_congr_left
  intro f _
  simp only [Function.comp]
  split
  · rw [FanChannel.follow_checked _ _ _ hc]
  · rfl

/-! ### An event at a drive -/

theorem modDrive_get_self (s : State) (r : Nat) (f : Drive → Drive) (role : Role) (h : s.roles[r]? = some role) :
    (s.modDrive r f).roles[r]? = some { role with drive := f role.drive } := by
  simp [h]

theorem modDrive_get_other (s : State) (r q : Nat) (f : Drive → Drive) (h : q ≠ r) :
    (s.modDrive r f).roles[q]? = s.roles[q]? := by
  simp [Ne.symm h]

theorem judgeGroup_length (s : State) (r : Nat) : (s.judgeGroup r).roles.length = s.roles.length := by
  unfold judgeGroup; dsimp only; split
  · rfl
  · split <;> simp

theorem judgeGroup_get_other (s : State) (r q : Nat) (h : q ≠ r) : (s.judgeGroup r).roles[q]? = s.roles[q]? := by
  unfold judgeGroup; dsimp only; split
  · rfl
  · split
    · rfl
    · simp [Ne.symm h]

theorem driveEvent_length (s : State) (r : Nat) (f : RoleCfg → Drive → Drive) :
    (s.driveEvent r f).roles.length = s.roles.length := by
  unfold driveEvent; split
  · rfl
  · simp [judgeGroup_length]

/-- An event at one role's drive leaves every other role as it was. -/
theorem driveEvent_get_other (s : State) (r q : Nat) (f : RoleCfg → Drive → Drive) (h : q ≠ r) :
    (s.driveEvent r f).roles[q]? = s.roles[q]? := by
  unfold driveEvent; split
  · rfl
  · rw [judgeGroup_get_other _ _ _ h]; simp [Ne.symm h]

/-- The drive of the role after an event: the record as the event leaves it, and then, when the channels call for another
condition, with that condition taken (R31). -/
theorem driveEvent_get_self (s : State) (r : Nat) (f : RoleCfg → Drive → Drive) (role : Role) (h : s.roles[r]? = some role) :
    (s.driveEvent r f).roles[r]? = some { role with
      drive :=
        let d := f role.cfg role.drive
        let c := groupCondition (((s.modDrive r (f role.cfg)).followDrive r).healths r)
        if c = d.condition then d else d.takeCondition s.now role.cfg c } := by
  have h1 : (s.modDrive r (f role.cfg)).roles[r]? = some { role with drive := f role.cfg role.drive } :=
    modDrive_get_self _ _ _ _ h
  simp only [driveEvent, h, judgeGroup, followDrive_frame, h1]
  split
  · simp [h]
  · simp [h]

/-- An event that leaves the drive RELEASED with a NORMAL condition: nothing more happens, for no channel is checked. -/
theorem driveEvent_get_released (s : State) (r : Nat) (f : RoleCfg → Drive → Drive) (role : Role)
    (h : s.roles[r]? = some role) (hs : (f role.cfg role.drive).state = .released)
    (hn : (f role.cfg role.drive).condition = .normal) :
    (s.driveEvent r f).roles[r]? = some { role with drive := f role.cfg role.drive } := by
  rw [driveEvent_get_self s r f role h]
  have h1 : (s.modDrive r (f role.cfg)).roles[r]? = some { role with drive := f role.cfg role.drive } :=
    modDrive_get_self _ _ _ _ h
  have h2 := healths_followDrive_unchecked _ r _ h1 (Drive.checks_released _ _ hs)
  simp [groupCondition_unchecked h2, hn]

/-! ### An event taken at every role -/

theorem foldl_get_other (f : State → Nat → State) (ho : ∀ s r q, q ≠ r → (f s r).roles[q]? = s.roles[q]?) (q : Nat)
    (rs : List Nat) (hq : q ∉ rs) (s : State) : (rs.foldl f s).roles[q]? = s.roles[q]? := by
  induction rs generalizing s with
  | nil => rfl
  | cons r rs ih =>
    simp only [List.mem_cons, not_or] at hq
    rw [List.foldl_cons, ih hq.2, ho _ _ _ hq.1]

/-- An event taken at every role, whose part at a role leaves the other roles as they were: each role is as its own part left
it, and that part found the role as it stood before the event. -/
theorem forRoles_get (P : State → Prop) (f : State → Nat → State) (ho : ∀ s r q, q ≠ r → (f s r).roles[q]? = s.roles[q]?)
    (hP : ∀ s r, P s → P (f s r)) (s : State) (hs : P s) (q : Nat) (hq : q < s.roles.length) :
    ∃ s1, P s1 ∧ s1.roles[q]? = s.roles[q]? ∧ (s.forRoles f).roles[q]? = (f s1 q).roles[q]? := by
  have hsplit : List.range s.roles.length = List.range q ++ q :: (List.range (s.roles.length - q - 1)).map (· + (q + 1)) := by
    have h1 : s.roles.length = q + (s.roles.length - q - 1 + 1) := by omega
    conv_lhs => rw [h1, List.range_add, List.range_succ_eq_map]
    simp [Function.comp_def, Nat.add_left_comm]
  refine ⟨(List.range q).foldl f s, foldl_keeps P f _ s (fun s x h => hP s x h) hs, ?_, ?_⟩
  · exact foldl_get_other f ho q _ (by simp) s
  · unfold forRoles
    rw [hsplit, List.foldl_append, List.foldl_cons]
    exact foldl_get_other f ho q _ (by simp; omega) _

end State

end Sys2Proof.Machine
end

