-- ==== Sys2Proof/Laws/Line.lean ====
section
/-! SUPPORT. What a contender drives (R125, R126): its edges, and its lows when no earlier edge is on the line. -/

namespace Sys2Proof.Machine

/-- A start mark's low is accepted from 20 to 28 µs (Table 7-1). -/
theorem startLow_accepted (ns : Nat) : pulseIsError (.startLow ns) = false ↔ 20000 ≤ ns ∧ ns ≤ 28000 := by
  unfold pulseIsError
  rw [Bool.or_eq_false_iff, decide_eq_false_iff_not, decide_eq_false_iff_not, Nat.not_lt, Nat.not_lt]

@[simp] theorem cellEdge_none (first : Bool) : cellEdge first none = some (edgeDue first) := rfl

/-- An edge that a contender takes is in the accepted window, and no later than its own edge is due. -/
theorem cellEdge_accepted (first : Bool) (fall : Option Nat) (ns : Nat) (h : cellEdge first fall = some ns) :
    inEdgeWindow first ns = true ∧ ns ≤ edgeDue first := by
  have due : inEdgeWindow first (edgeDue first) = true := by cases first <;> decide
  cases fall with
  | none => obtain rfl := Option.some.inj h; exact ⟨due, Nat.le_refl _⟩
  | some f =>
    simp only [cellEdge] at h
    split at h
    · obtain rfl := Option.some.inj h; exact ⟨due, Nat.le_refl _⟩
    · next hf =>
      split at h
      · next hw => obtain rfl := Option.some.inj h; exact ⟨hw, Nat.le_of_lt (Nat.not_le.mp hf)⟩
      · cases h

/-- A contender whose own edge is due first takes it, and one that sees an earlier edge in the window takes that. -/
theorem cellEdge_some (first : Bool) (fall : Nat) (h : inEdgeWindow first fall = true) :
    cellEdge first (some fall) = some (min fall (edgeDue first)) := by
  simp only [cellEdge, h, if_true]
  split
  · next hd => rw [Nat.min_eq_right hd]
  · next hd => rw [Nat.min_eq_left (Nat.le_of_lt (Nat.not_le.mp hd))]

/-- Later cells without an earlier edge on the line start every 8 µs. -/
theorem cellLows_alone (t : Nat) (cells : List Bool) :
    cellLows false t cells [] = cells.mapIdx (fun i bit => (t + 8000 + 8000 * i, cellLow bit)) := by
  induction cells generalizing t with
  | nil => rfl
  | cons bit cells ih =>
    simp only [cellLows, List.headD_nil, cellEdge_none, List.tail_nil, ih, List.mapIdx_cons]
    congr 2
    funext i b
    simp only [edgeDue, Bool.false_eq_true, if_false, Prod.mk.injEq, and_true]
    omega

/-- The lows of a contender that meets no earlier edge on the line. -/
theorem drivenLows_alone (delay : Nat) (cells : List Bool) :
    drivenLows delay cells [] = (delay, startLow) :: cells.mapIdx (fun i bit => (32000 + 8000 * i, cellLow bit)) := by
  unfold drivenLows
  cases cells with
  | nil => rfl
  | cons bit cells =>
    simp only [cellLows, List.headD_nil, cellEdge_none, List.tail_nil, cellLows_alone, List.mapIdx_cons]
    congr 3
    funext i b
    simp only [edgeDue, if_true, Prod.mk.injEq, and_true]
    omega

end Sys2Proof.Machine
end

