-- ==== Sys2Proof/Laws/Load.lean ====
section
/-! SUPPORT. What the reading of a slot can do (R161): the answer to a status query, bytes of the read, and `LoadOk`. -/

namespace Sys2Proof.Machine

@[simp] theorem Load.ready_start (slot : Slot) (a : Option Image) (now : Nat) : (Load.start slot a now).ready = false := by
  simp [Load.start, Load.ready]

/-- An answered query keeps the slot and slot A's image. -/
@[simp] theorem Load.queried_slot (l : Load) (status : Byte) : (l.queried status).slot = l.slot := by
  unfold Load.queried; split <;> rfl

@[simp] theorem Load.queried_imageA (l : Load) (status : Byte) : (l.queried status).imageA = l.imageA := by
  unfold Load.queried; split <;> rfl

/-- A memory that has not answered ready is ready after a query exactly when its status is not busy. -/
theorem Load.queried_ready (l : Load) (status : Byte) (h : l.ready = false) : (l.queried status).ready = !memoryBusy status := by
  unfold Load.queried
  cases hb : memoryBusy status
  · simp [Load.ready]
  · simpa [Load.ready] using h

/-- Bytes after which the port reads on are held. -/
theorem State.slotAnswered_part (s : State) (l : Load) (bytes : List Byte)
    (h : (l.returned ++ bytes).length < readLength (l.returned ++ bytes)) :
    s.slotAnswered l bytes false = { s with ctl := { s.ctl with load := some { l with returned := l.returned ++ bytes } } } := by
  have : ¬readLength (l.returned ++ bytes) ≤ (l.returned ++ bytes).length := Nat.not_le.mpr h
  simp only [State.slotAnswered, Bool.false_eq_true, false_or, if_neg this]

/-- The bytes that end a read are judged with those that came before. -/
theorem State.slotAnswered_end (s : State) (l : Load) (bytes : List Byte) (ended : Bool)
    (h : ended = true ∨ readLength (l.returned ++ bytes) ≤ (l.returned ++ bytes).length) :
    s.slotAnswered l bytes ended =
      s.slotJudged l (judgeSlot (s.ctl.station.getD 0) (l.returned ++ bytes)).1
        (judgeSlot (s.ctl.station.getD 0) (l.returned ++ bytes)).2 := by
  simp only [State.slotAnswered, if_pos h]

/-- A slot whose bytes come in parts is judged as one whose bytes come at once. -/
theorem State.slotAnswered_append (s : State) (l : Load) (first rest : List Byte) (ended : Bool) :
    ({ s with ctl := { s.ctl with load := some { l with returned := l.returned ++ first } } } : State).slotAnswered
        { l with returned := l.returned ++ first } rest ended = s.slotAnswered l (first ++ rest) ended := by
  simp only [State.slotAnswered, List.append_assoc]
  split
  · unfold State.slotJudged
    cases l.slot <;> rfl
  · rfl

theorem LoadOk.start (slot : Slot) (a : Option Image) (now : Nat) : LoadOk (Load.start slot a now) := by
  simp [LoadOk, Load.start]

/-- A read takes five bytes at least. -/
theorem readLength_ge (b : List Byte) : 5 ≤ readLength b := by
  unfold readLength lengthRefused
  split
  · exact Nat.le_refl 5
  · next h => simp at h; omega

theorem LoadOk.queried (l : Load) (status : Byte) (h : LoadOk l) (hr : l.ready = false) : LoadOk (l.queried status) := by
  have hs : l.answer ≠ .stopped := by simpa [Load.ready] using hr
  have hm : l.msel ≠ true := fun hm => hs (h.1.mp hm)
  unfold Load.queried
  split
  · exact ⟨h.1, fun hx => absurd hx hm⟩
  · exact ⟨by simp, fun _ => ⟨rfl, Nat.lt_of_lt_of_le (Nat.zero_lt_succ 4) (readLength_ge [])⟩⟩

theorem LoadOk.part (l : Load) (bytes : List Byte) (h : LoadOk l)
    (hb : (l.returned ++ bytes).length < readLength (l.returned ++ bytes)) :
    LoadOk { l with returned := l.returned ++ bytes } :=
  ⟨h.1, fun hm => ⟨(h.2 hm).1, hb⟩⟩

end Sys2Proof.Machine
end

