-- ==== Sys2Proof/Laws/Port.lean ====
section
/-! SUPPORT. What a transaction at the service port does when it starts, brings bytes and ends, and the bytes of a view's field. -/

namespace Sys2Proof.Machine

/-! ### Transactions (R169, R170) -/

/-- In RESET_HELD the port takes nothing. -/
theorem State.endTransfer_of_not_started (s : State) (straps : Straps) (h : s.started = false) : s.endTransfer straps = s := by
  simp [State.endTransfer, h]

/-- The end of a transaction that takes no action leaves the port free, and nothing else changes. -/
theorem State.endTransfer_of_none (s : State) (straps : Straps) (h : s.started = true) (ha : writeAction s.port.held = none) :
    s.endTransfer straps = { s with port := { s.port with transfer := .idle } } := by
  simp [State.endTransfer, h, ha]

/-- The end of a transaction that takes an action. -/
theorem State.endTransfer_of_some (s : State) (straps : Straps) (action : PortAction) (h : s.started = true)
    (ha : writeAction s.port.held = some action) :
    s.endTransfer straps = ({ s with port := { s.port with transfer := .idle } } : State).portAct straps action := by
  simp [State.endTransfer, h, ha]

/-- A write that holds no byte takes no action. -/
@[simp] theorem writeAction_nil : writeAction [] = none := rfl

/-- A start leaves the station out of RESET_HELD. -/
theorem State.restart_started (s : State) (straps : Straps) : (s.restart straps).started = true := by
  unfold State.restart State.beginLoading
  split
  · rfl
  · simp [State.enterFaulted, State.blocksFault, State.forRoles, State.started, State.evaluateThrottle, State.post,
      State.resetHeld, State.reset]

/-- A start keeps the transaction state of the port. -/
theorem State.restart_transfer (s : State) (straps : Straps) : (s.restart straps).port.transfer = s.port.transfer := by
  unfold State.restart State.beginLoading
  split
  · rfl
  · simp [State.enterFaulted, State.blocksFault, State.forRoles, State.evaluateThrottle, State.post, State.resetHeld, State.reset]

/-- An action keeps the station started. -/
theorem State.portAct_started (s : State) (straps : Straps) (action : PortAction) (h : s.started = true) :
    (s.portAct straps action).started = true := by
  cases action with
  | restart => exact s.restart_started straps
  | select _ => exact h
  | takeNotice => exact h
  | clearLatches => exact h

/-- An action keeps the transaction state of the port. -/
theorem State.portAct_transfer (s : State) (straps : Straps) (action : PortAction) :
    (s.portAct straps action).port.transfer = s.port.transfer := by
  cases action with
  | restart => exact s.restart_transfer straps
  | select _ => rfl
  | takeNotice => rfl
  | clearLatches => rfl

/-- The end of a transaction keeps the station started. -/
theorem State.endTransfer_started (s : State) (straps : Straps) (h : s.started = true) : (s.endTransfer straps).started = true := by
  cases ha : writeAction s.port.held with
  | none => rw [s.endTransfer_of_none straps h ha]; exact h
  | some action => rw [s.endTransfer_of_some straps action h ha]; exact State.portAct_started _ straps action h

/-- After the end of a transaction none is in progress. -/
theorem State.endTransfer_transfer (s : State) (straps : Straps) (h : s.started = true) :
    (s.endTransfer straps).port.transfer = .idle := by
  cases ha : writeAction s.port.held with
  | none => rw [s.endTransfer_of_none straps h ha]
  | some action => rw [s.endTransfer_of_some straps action h ha]; exact State.portAct_transfer _ straps action

/-- No write is held by a port that is free. -/
theorem Port.held_idle (p : Port) (h : p.transfer = .idle) : p.held = [] := by simp [Port.held, h]

/-- A whole write is its bytes judged and its end, on the state that the start of the transaction left. -/
theorem State.portWrite_eq (s : State) (straps : Straps) (bytes : List Byte) (h : s.started = true) :
    s.portWrite straps bytes
      = (match writeAction ((newTransaction s).judgeBytes [] bytes) with
         | some action => (newTransaction s).portAct straps action
         | none => newTransaction s) := by
  have hs := s.endTransfer_started s.ctl.straps h
  have ht := s.endTransfer_transfer s.ctl.straps h
  have hb : ({ newTransaction s with port := { (newTransaction s).port with transfer := .idle } } : State) = newTransaction s := by
    have he : ({ (newTransaction s).port with transfer := .idle } : Port) = (newTransaction s).port := by rw [← ht]; rfl
    rw [he]
  unfold State.portWrite
  rw [if_pos h]
  change ((newTransaction s).bringBytes bytes).endTransfer straps = _
  have hu : ((newTransaction s).bringBytes bytes).started = true := hs
  have hheld : ((newTransaction s).bringBytes bytes).port.held = (newTransaction s).judgeBytes [] bytes := by
    simp only [State.bringBytes, Port.held_idle _ ht, newTransaction] at *
    rfl
  cases ha : writeAction ((newTransaction s).judgeBytes [] bytes) with
  | none =>
    rw [State.endTransfer_of_none _ straps hu (by rw [hheld]; exact ha)]
    exact hb
  | some action =>
    rw [State.endTransfer_of_some _ straps action hu (by rw [hheld]; exact ha)]
    exact congrArg (fun x : State => x.portAct straps action) hb

/-- Bytes that arrive one after another are judged one after another. -/
theorem State.judgeBytes_cons (s : State) (held : List (Byte × Bool)) (byte : Byte) (bytes : List Byte) :
    s.judgeBytes held (byte :: bytes) = s.judgeBytes (held ++ [(byte, s.acknowledges (held.map Prod.fst) byte)]) bytes := rfl

/-! ### Fields of views (R183) -/

/-- One byte of a number. -/
theorem Field.bytes_one (n : Nat) : Field.bytes 1 (n : Int) = [byteOf n] := by
  simp [Field.bytes, byteOf]

/-- Two bytes of a number. -/
theorem Field.bytes_two (n : Nat) : Field.bytes 2 (n : Int) = bytes2 n := by
  have h : ((n : Int) / 256 ^ 1) = ((n / 256 : Nat) : Int) := by simp
  change [BitVec.ofInt 8 ((n : Int) / 256 ^ 1), BitVec.ofInt 8 ((n : Int) / 256 ^ 0)] = [BitVec.ofNat 8 (n / 256), BitVec.ofNat 8 n]
  rw [h, pow_zero, Int.ediv_one, BitVec.ofInt_natCast, BitVec.ofInt_natCast]

/-- The low byte of a number modulo 256. -/
theorem byteOf_congr (v : Int) (n : Nat) (h : v % 256 = (n : Int) % 256) : BitVec.ofInt 8 v = byteOf n := by
  apply BitVec.eq_of_toNat_eq
  simp only [byteOf, BitVec.toNat_ofInt, BitVec.toNat_ofNat]
  norm_num
  omega

/-- Two bytes of a signed value. -/
theorem Field.bytes_signed (v : Int) : Field.bytes 2 v = bytesInt v := by
  change [BitVec.ofInt 8 (v / 256 ^ 1), BitVec.ofInt 8 (v / 256 ^ 0)]
    = [byteOf ((BitVec.ofInt 16 v).toNat / 256), byteOf (BitVec.ofInt 16 v).toNat]
  have h : ((BitVec.ofInt 16 v).toNat : Int) = v % 65536 := by
    simp only [BitVec.toNat_ofInt]
    norm_num
    omega
  rw [byteOf_congr _ ((BitVec.ofInt 16 v).toNat / 256) (by push_cast; rw [h]; omega),
    byteOf_congr _ (BitVec.ofInt 16 v).toNat (by rw [h]; norm_num)]

/-- Fields laid out in turn. -/
theorem laidOut_append (a b : List Field) : laidOut (a ++ b) = laidOut a ++ laidOut b := by simp [laidOut]

end Sys2Proof.Machine
end

