-- ==== Sys2Proof/Laws/Queue.lean ====
section
/-! SUPPORT. What the transmit queue and the notice queue do when a frame is offered or a notice is posted, and that the end
of an event with no STATUS due changes nothing. -/

namespace Sys2Proof.Machine

/-! ### The notice queue (R176, R177, R181) -/

/-- A posting never makes the queue longer than 16. -/
theorem Notices.push_length (n : Notices) (time : Nat) (kind : NoticeKind) (subject : Nat) (value : Option Int)
    (h : n.queue.length ≤ 16) : (n.push time kind subject value).queue.length ≤ 16 := by
  unfold Notices.push
  split <;> simp <;> omega

/-- After a posting ALERT is asserted and the queue is not empty. -/
theorem Notices.push_alert (n : Notices) (time : Nat) (kind : NoticeKind) (subject : Nat) (value : Option Int) :
    (n.push time kind subject value).alertLine = true ∧ (n.push time kind subject value).queue ≠ [] := by
  unfold Notices.push
  split <;> simp

/-- A posting takes the next sequence number. -/
theorem Notices.push_next (n : Notices) (time : Nat) (kind : NoticeKind) (subject : Nat) (value : Option Int) :
    (n.push time kind subject value).next = n.next + 1 := by
  unfold Notices.push
  split <;> rfl

/-- The dropped count stops at 255. -/
theorem Notices.push_dropped (n : Notices) (time : Nat) (kind : NoticeKind) (subject : Nat) (value : Option Int)
    (h : n.dropped ≤ 255) : (n.push time kind subject value).dropped ≤ 255 := by
  unfold Notices.push
  split
  · exact h
  · simp

/-! ### The order of the transmit queue (R142) -/

/-- An entry put into the queue is in it, with every entry it held. -/
theorem insertEntry_mem (e x : QEntry) (q : List QEntry) : x ∈ insertEntry e q ↔ x = e ∨ x ∈ q := by
  induction q with
  | nil => simp [insertEntry]
  | cons y ys ih =>
    unfold insertEntry
    split
    · simp
    · simp only [List.mem_cons, ih]
      tauto

/-- The queue is one longer. -/
theorem insertEntry_length (e : QEntry) (q : List QEntry) : (insertEntry e q).length = q.length + 1 := by
  induction q with
  | nil => rfl
  | cons y ys ih =>
    unfold insertEntry
    split
    · simp
    · simp [ih]

/-- An entry stands between the entries it is not before and one it is before. -/
theorem insertEntry_split (e : QEntry) (q : List QEntry) :
    ∃ front back, q = front ++ back ∧ insertEntry e q = front ++ e :: back ∧ (∀ x ∈ front, e.before x = false)
      ∧ ∀ x, back.head? = some x → e.before x = true := by
  induction q with
  | nil => exact ⟨[], [], rfl, rfl, by simp, by simp⟩
  | cons y ys ih =>
    unfold insertEntry
    split
    · rename_i h
      exact ⟨[], y :: ys, rfl, rfl, by simp, by simpa using h⟩
    · rename_i h
      obtain ⟨front, back, hq, hi, hf, hb⟩ := ih
      refine ⟨y :: front, back, by simp [hq], by simp [hi], ?_, hb⟩
      intro x hx
      rcases List.mem_cons.mp hx with rfl | hx
      · simpa using h
      · exact hf x hx

/-- Marking the head changes no payload, no instant and no length. -/
theorem markHead_map {α : Type} (g : QEntry → α) (hg : ∀ e : QEntry, g { e with onWire := true } = g e) (q : List QEntry) :
    (markHead q).map g = q.map g := by
  induction q with
  | nil => rfl
  | cons e es ih =>
    unfold markHead
    split
    · simp [ih]
    · simp [hg]

namespace State

/-! ### A frame is offered (R143, R144, R146) -/

/-- Outside JOINING and RUNNING an offer changes nothing. -/
theorem offer_off (s : State) (p : Payload) (h : s.transmits = false) : s.offer p = s := by
  simp [offer, h]

/-- An offer that coalesces. -/
theorem offer_coalesce (s : State) (p : Payload) (h : s.transmits = true) (hc : s.txq.any (coalesces p) = true) :
    s.offer p = { s with txq := s.txq.map (coalesce p s.stamp), stamp := s.stamp + 1 } := by
  simp [offer, h, hc]

/-- An offer that needs a new entry and finds room. -/
theorem offer_room (s : State) (p : Payload) (h : s.transmits = true) (hc : s.txq.any (coalesces p) = false)
    (hl : s.txq.length < 8) : s.offer p = s.enter p := by
  simp [offer, h, hc, hl]

/-- An offer to a full queue with no candidate to evict. -/
theorem offer_refused (s : State) (p : Payload) (h : s.transmits = true) (hc : s.txq.any (coalesces p) = false)
    (hl : ¬s.txq.length < 8) (hv : victim p s.txq = none) : s.offer p = s.discard p := by
  simp [offer, h, hc, hl, hv]

/-- An offer to a full queue that evicts an entry. -/
theorem offer_evicts (s : State) (p : Payload) (v : QEntry) (h : s.transmits = true) (hc : s.txq.any (coalesces p) = false)
    (hl : ¬s.txq.length < 8) (hv : victim p s.txq = some v) :
    s.offer p = (({ s with txq := s.txq.erase v }).enter p).discard v.payload := by
  simp [offer, h, hc, hl, hv]

/-- A frame that enters stands in the queue with its payload and its instant. -/
theorem enter_queued (s : State) (p : Payload) : Queued (s.enter p) s.stamp p := by
  have key : (p, s.stamp) ∈ (s.enter p).txq.map (fun e => (e.payload, e.stamp)) := by
    unfold enter startHead
    split
    · simp only
      rw [markHead_map _ (fun _ => rfl)]
      exact List.mem_map.mpr ⟨_, (insertEntry_mem _ _ _).mpr (Or.inl rfl), rfl⟩
    · exact List.mem_map.mpr ⟨_, (insertEntry_mem _ _ _).mpr (Or.inl rfl), rfl⟩
  obtain ⟨e, he, heq⟩ := List.mem_map.mp key
  simp only [Prod.mk.injEq] at heq
  exact ⟨e, he, heq.1, le_of_eq heq.2.symm⟩

/-- A frame that enters makes the queue one longer. -/
theorem enter_length (s : State) (p : Payload) : (s.enter p).txq.length = s.txq.length + 1 := by
  have hm (q : List QEntry) : (markHead q).length = q.length := by
    simpa using congrArg List.length (markHead_map (fun e => e.payload) (fun _ => rfl) q)
  unfold enter startHead
  split
  · simp [hm, insertEntry_length]
  · simp [insertEntry_length]

/-- A frame that enters changes the roles, the fans, the notices and the peers not at all. -/
theorem enter_keeps (s : State) (p : Payload) :
    (s.enter p).roles = s.roles ∧ (s.enter p).fans = s.fans ∧ (s.enter p).notices = s.notices ∧ (s.enter p).peers = s.peers
      ∧ (s.enter p).stamp = s.stamp + 1 := by
  unfold enter startHead
  split <;> simp

/-! ### A discard is reported (R68, R147) -/

/-- Changing the one role of a group in place, where no two roles have one group. -/
theorem modify_group (roles : List Role) (g : Nat) (f : Role → Role) (h : (roles.map (·.cfg.group)).Nodup) :
    (match roles.findIdx? (fun r => r.cfg.group == g) with
      | some r => roles.modify r f
      | none => roles) = roles.map (fun r => if r.cfg.group = g then f r else r) := by
  induction roles with
  | nil => rfl
  | cons x xs ih =>
    simp only [List.map_cons, List.nodup_cons] at h
    rw [List.findIdx?_cons]
    by_cases hx : x.cfg.group = g
    · have hn : xs.map (fun r => if r.cfg.group = g then f r else r) = xs := by
        conv_rhs => rw [← List.map_id xs]
        apply List.map_congr_left
        intro y hy
        have : y.cfg.group ≠ g := fun e => h.1 (List.mem_map.mpr ⟨y, hy, e.trans hx.symm⟩)
        simp [this]
      simp [hx, hn]
    · have h' := ih h.2
      simp only [beq_iff_eq, hx, List.map_cons, if_false]
      rw [← h']
      cases xs.findIdx? (fun r => r.cfg.group == g) <;> simp [List.modify_succ_cons]

/-- A discarded frame is told to its role and to no other, where no two roles have one group (R68, R147). -/
theorem reportDiscard_told (s : State) (p : Payload) (h : (s.roles.map (·.cfg.group)).Nodup) :
    s.reportDiscard p = { s with roles := s.roles.map (toldOfDiscard s p) } := by
  let tell (r : Role) : Role :=
    { r with ship := r.ship.discarded (payloadKind p) (s.startFreezable s.takeoverMs) (s.startFreezable 1000) }
  have key (g : Nat) (hp : payloadSource p = .drivershipUnit g)
      (ht : ∀ r : Role, toldOfDiscard s p r = if r.cfg.group = g then tell r else r) :
      s.reportDiscard p = { s with roles := s.roles.map (toldOfDiscard s p) } := by
    have e := modify_group s.roles g tell h
    rw [List.map_congr_left (g := fun r => if r.cfg.group = g then tell r else r) (fun r _ => ht r), ← e]
    simp only [State.reportDiscard, hp, State.roleIndex]
    cases s.roles.findIdx? (fun r => r.cfg.group == g) <;> rfl
  have unmoved (hp : ∀ r, toldOfDiscard s p r = r) (hs : s.reportDiscard p = s) :
      s.reportDiscard p = { s with roles := s.roles.map (toldOfDiscard s p) } := by
    rw [hs, List.map_congr_left (g := id) (fun r _ => hp r), List.map_id]
  cases p with
  | demand items => exact unmoved (fun _ => rfl) rfl
  | status c => exact unmoved (fun _ => rfl) rfl
  | alert k n v => exact unmoved (fun _ => rfl) (by cases k <;> rfl)
  | yield g e a l =>
    refine key g rfl (fun r => ?_)
    cases hm : r.ship.machine <;> simp [tell, toldOfDiscard, Ship.discarded, payloadKind]
  | takeover g e =>
    refine key g rfl (fun r => ?_)
    by_cases hg : r.cfg.group = g
    · cases hm : r.ship.machine <;> simp [tell, toldOfDiscard, Ship.discarded, payloadKind, hm, hg, State.startFreezable]
    · simp [toldOfDiscard, hg, Ne.symm hg]
  | handback g e =>
    refine key g rfl (fun r => ?_)
    by_cases hg : r.cfg.group = g
    · cases hm : r.ship.machine <;> cases hf : r.ship.forcing <;>
        simp [tell, toldOfDiscard, Ship.discarded, payloadKind, hm, hg, hf, State.startFreezable]
    · simp [toldOfDiscard, hg, Ne.symm hg]

/-! ### The end of an event (R45) -/

/-- With no STATUS due the end of an event changes nothing. -/
theorem finish_settled (s : State) (h : Settled s) : s.finish = s := by
  unfold finish forRoles
  suffices hs : ∀ xs : List Nat, xs.foldl flushRole s = s from hs _
  intro xs
  induction xs with
  | nil => rfl
  | cons r rs ih =>
    have hr : s.flushRole r = s := by
      unfold flushRole
      split
      · rfl
      · rename_i role hrole
        simp [h role (List.mem_of_getElem? hrole)]
    rw [List.foldl_cons, hr, ih]

end State

end Sys2Proof.Machine
end

