-- ==== Sys2Proof/Tests/Slice0.lean ====
section
/-! SUPPORT. Tests: ill-formed commands refused, the manual's worked values, and a state that meets the hypotheses of each
statement. -/

namespace Sys2Proof.Tests

open Sys2Proof Sys2Proof.Machine

set_option Elab.async false

/-! ### A small station -/

/-- The states a command leads to, one after another. -/
def after (cs : List Instr) (s : State) : State :=
  cs.foldl (fun s c => match exec c s with
    | .next t => t
    | .fault _ | .refused _ => s) s

/-- Station 6's primary of group 2 on fan channel 0. -/
def primaryCfg : RoleCfg :=
  ⟨2, .primary, true, some 9, [0], 10, 100, 500, 60, 2000, 2000, 30, 20, 4000, 100, []⟩

/-- Station 6's standby of group 5 on fan channel 1, with station 7 required. -/
def standbyCfg : RoleCfg :=
  ⟨5, .standby, false, some 3, [1], 10, 100, 500, 60, 2000, 2000, 30, 20, 4000, 80, [7]⟩

/-- A curve from 30 to 85 degrees. -/
def curve : Curve := ⟨0, 30, 50, 70, 85, 0, 20, 40, 80, 100⟩

/-- The demand group for group 2, with neighbour 5. -/
def demandCfg : DemandCfg := ⟨2, [curve], [5], 20, 100⟩

/-- Station timing: a takeover time of 3 s, a saturation time of 10 s, share-throttle, station 12 in the enclosure list. -/
def timing : Timing := ⟨10, 5, 5, false, true, 3, 10, 10, [12]⟩

/-- An image of generation 41. -/
def image : Image :=
  ⟨41, timing, some ⟨-2, 70, 65, 90, .rise⟩ :: List.replicate 7 none, List.replicate 6 ⟨2, 1200⟩, [primaryCfg, standbyCfg],
    [demandCfg]⟩

/-- A station of a number in LOADING, its address offset 2. -/
def loadingAs (number : Nat) : State :=
  { State.reset with ctl := { Control.reset with state := .loading, station := some number, offset := some 2 } }

/-- Station 6 at its entry into JOINING. -/
def joining : State :=
  (loadingAs 6).enterJoining .a image

/-- Station 6 at its entry into RUNNING: its primary acts under epoch 1, its STATUS waits. -/
def running : State := after [.joinWindowExpiry] joining

/-- A frame is on the line, and stations 3, 7, 9 and 12 were heard before (a new sender's frame meets the free order of log entry 5). -/
def hearing (s : State) : State :=
  { s.setLine .frame with peers := { s.peers with roster := [3, 7, 9, 12].map (fun n => ⟨n, 0, 0, 0, false⟩) } }

/-- A STATUS of group 2. -/
def status2 (epoch : Epoch) (kind : RoleKind) : StatusContent := ⟨2, epoch, kind, .tracking, 50, .normal, [1500]⟩

/-- Station 6 after its standby of group 2 was heard in JOINING. -/
def joiningHeard : State := after [.statusFrame 9 (status2 4 .standby)] (hearing joining)

/-- Station 6 displaced by station 9 under epoch 4. -/
def displaced : State := after [.statusFrame 9 (status2 4 .standby)] (hearing running)

/-- Station 6 asking station 9 for its group: the HANDBACK was sent. -/
def reclaiming : State :=
  (displaced.modShip 0 (fun sh => { sh with machine := .reclaim, attempts := 1, hold := .stopped, wait := .running 9000 }))

/-- Station 6's standby claims group 5: its TAKEOVER is on the wire. -/
def claiming : State := after [.silenceTimerExpiry 1, .lineIdle false] running

/-- Station 6's standby acts for group 5 under epoch 1. -/
def acting : State := after [.frameTransmitted] claiming

/-- An entry of the transmit queue that waits. -/
def waiting (p : Payload) (stamp : Nat) : QEntry := ⟨p, stamp, 0, false, none⟩

/-- A frame of the station on the wire. -/
def sending (s : State) (p : Payload) : State :=
  { s with txq := [⟨p, 0, 0, true, none⟩], line := ⟨.frame, false⟩ }

/-- Eight ORDINARY claims at a level, and eight more at another. -/
def crowd (a b : Nat) : List ClaimEntry :=
  (List.range 16).map (fun i => ⟨i + 10, .ordinary, some ⟨if i < 8 then a else b, .curve, 0⟩, false⟩)

/-- Station 6 with a full table for group 2. -/
def crowded (a b : Nat) : State := running.modClaims 0 (fun t => { t with entries := crowd a b })

/-- Station 6's group 2 waits for station 7, whose claim is required; nothing else claims it. -/
def waitingForSeven : State :=
  running.modClaims 0 (fun t => { t with entries := [⟨7, .required, none, false⟩], grace := .running 9000 })

/-- The demand entry of group 2 at a curve part, in a saturation state with a count. -/
def saturating (s : State) (curvePart : Nat) (sat : SatState) (count : Nat) : State :=
  s.modEntry 0 (fun d => { d with curvePart := curvePart, sat := sat, satCount := count })

/-! ### Ill-formed commands -/

theorem test_wf_operands :
    (Instr.slotReadComplete (List.replicate 513 0)).wf = false ∧ (Instr.roundComplete []).wf = false
      ∧ (Instr.criticalAlertRepeatExpiry 8).wf = false ∧ (Instr.claimExpiry 4 7).wf = false ∧ (Instr.claimExpiry 0 31).wf = false
      ∧ (Instr.joinGraceEnd 4).wf = false ∧ (Instr.peakExpiry 4).wf = false ∧ (Instr.tachMeasurement 6 []).wf = false
      ∧ (Instr.tachMeasurement 0 [500001]).wf = false ∧ (Instr.tachMeasurement 0 [9, 9]).wf = false
      ∧ (Instr.rampTimerExpiry 4).wf = false ∧ (Instr.stopDelayExpiry 4).wf = false ∧ (Instr.spinUpExpiry 4).wf = false
      ∧ (Instr.statusTimerExpiry 4).wf = false ∧ (Instr.silenceTimerExpiry 4).wf = false
      ∧ (Instr.otherSilenceExpiry 4).wf = false ∧ (Instr.displacedHoldExpiry 4).wf = false
      ∧ (Instr.handbackWaitExpiry 4).wf = false ∧ (Instr.viewStale 16).wf = false
      ∧ (Instr.saturationAlertRepeatExpiry 16).wf = false ∧ (Instr.boardRenewalExpiry 16 7).wf = false
      ∧ (Instr.boardRenewalExpiry 2 0).wf = false ∧ (Instr.rosterSilent 0).wf = false ∧ (Instr.rosterLoss 31).wf = false
      ∧ (Instr.contentionLoss 0).wf = false ∧ (Instr.contentionLoss 8).wf = false ∧ (Instr.overlap (.cell 0)).wf = false
      ∧ (Instr.badFrameReceived ⟨0, 3, 2, 3, [], 0⟩).wf = false := by decide +kernel

theorem test_wf_frames :
    (Instr.demandFrame 0 []).wf = false ∧ (Instr.demandFrame 3 (List.replicate 9 ⟨2, 0, .curve⟩)).wf = false
      ∧ (Instr.demandFrame 3 [⟨16, 0, .curve⟩]).wf = false ∧ (Instr.demandFrame 3 [⟨2, 101, .curve⟩]).wf = false
      ∧ (Instr.demandFrame 3 [⟨2, 0, .curve⟩, ⟨2, 5, .curve⟩]).wf = false
      ∧ (Instr.statusFrame 31 (status2 1 .primary)).wf = false
      ∧ (Instr.statusFrame 3 { status2 1 .primary with group := 16 }).wf = false
      ∧ (Instr.statusFrame 3 { status2 1 .primary with level := 101 }).wf = false
      ∧ (Instr.statusFrame 3 { status2 1 .primary with drive := .released }).wf = false
      ∧ (Instr.statusFrame 3 { status2 1 .primary with speeds := [] }).wf = false
      ∧ (Instr.statusFrame 3 { status2 1 .primary with speeds := [1, 2, 3, 4, 5] }).wf = false
      ∧ (Instr.statusFrame 3 { status2 1 .primary with speeds := [25001] }).wf = false
      ∧ (Instr.takeoverFrame 0 2 1).wf = false ∧ (Instr.takeoverFrame 3 16 1).wf = false
      ∧ (Instr.handbackFrame 0 2 1).wf = false ∧ (Instr.handbackFrame 3 16 1).wf = false
      ∧ (Instr.yieldFrame 0 2 1 6 50).wf = false ∧ (Instr.yieldFrame 3 16 1 6 50).wf = false
      ∧ (Instr.yieldFrame 3 2 1 0 50).wf = false ∧ (Instr.yieldFrame 3 2 1 31 50).wf = false
      ∧ (Instr.yieldFrame 3 2 1 256 50).wf = false ∧ (Instr.yieldFrame 3 2 1 6 101).wf = false
      ∧ (Instr.alertFrame 0 .critical 2 95).wf = false ∧ (Instr.alertFrame 3 .critical 8 95).wf = false
      ∧ (Instr.alertFrame 3 .critical 2 151).wf = false ∧ (Instr.alertFrame 3 .critical 2 (-41)).wf = false
      ∧ (Instr.alertFrame 3 .saturation 16 0).wf = false ∧ (Instr.alertFrame 3 .saturation 2 1).wf = false
      ∧ (Instr.alertFrame 3 .saturationClear 16 0).wf = false ∧ (Instr.alertFrame 3 .saturationClear 2 1).wf = false := by
  decide +kernel

theorem test_wf_views :
    (Instr.channelView 8).wf = false ∧ (Instr.fanView 6).wf = false ∧ (Instr.roleView 4).wf = false
      ∧ (Instr.claimsView 4).wf = false ∧ (Instr.groupviewView 16).wf = false
      ∧ (Instr.channelView 7).wf = true ∧ (Instr.fanView 5).wf = true ∧ (Instr.groupviewView 15).wf = true := by decide +kernel

/-! ### The manual's worked values -/

/-- The nine digits give 29B1 (R182). -/
theorem test_crc : crcOf (bytesBits [0x31, 0x32, 0x33, 0x34, 0x35, 0x36, 0x37, 0x38, 0x39]) = 0x29B1 := by decide +kernel

/-- Frame lengths on the wire (R128; 08, section 8.5). -/
theorem test_frame_micros :
    frameMicros 0 = 280 ∧ frameMicros 31 = 2264 ∧ frameMicros 4 = 536 ∧ frameMicros 3 = 472 ∧ frameMicros 8 = 792 := by decide

/-- A TAKEOVER of station 9 for group 5 under epoch 258, byte by byte (Tables 12-1 and 12-2). -/
theorem test_takeover_bytes :
    (wireOf 9 (.takeover 5 258)).cls = 1 ∧ (wireOf 9 (.takeover 5 258)).sender = 9 ∧ (wireOf 9 (.takeover 5 258)).kind = 2
      ∧ (wireOf 9 (.takeover 5 258)).length = 3 ∧ (wireOf 9 (.takeover 5 258)).payload = [5, 1, 2] := by decide +kernel

/-- Payload bytes of the other kinds (Table 12-2). -/
theorem test_payload_bytes :
    payloadBytes (.demand [⟨5, 100, .compensation⟩]) = [1, 0x25, 100]
      ∧ payloadBytes (.status ⟨5, 258, .standby, .failsafe, 100, .failed, [2600]⟩) = [0x5E, 1, 2, 0xE4, 0x0A, 0x28]
      ∧ payloadBytes (.yield 5 258 6 44) = [5, 1, 2, 6, 44] ∧ payloadBytes (.handback 5 258) = [5, 1, 2]
      ∧ payloadBytes (.alert .critical 2 (-2)) = [0, 2, 0xFF, 0xFE] := by decide +kernel

/-- A frame comes back from the wire; one with a changed CRC, a foreign class or a sender of 31 does not (R138). -/
theorem test_reception :
    receptionCheck (wireOf 9 (.status (status2 4 .standby))) = some (9, .status (status2 4 .standby))
      ∧ receptionCheck { wireOf 9 (.takeover 5 7) with crc := 0 } = none
      ∧ receptionCheck (wireOf 31 (.takeover 5 7)) = none
      ∧ receptionCheck (wireOf 9 (.takeover 16 7)) = none := by decide +kernel

/-- Of the numbers that a YIELD's address can hold, 0 and 31 fail the range check, and no other does (R138). -/
theorem test_reception_addressee :
    receptionCheck (wireOf 9 (.yield 5 7 0 50)) = none ∧ receptionCheck (wireOf 9 (.yield 5 7 31 50)) = none
      ∧ receptionCheck (wireOf 9 (.yield 5 7 1 50)) = some (9, .yield 5 7 1 50)
      ∧ receptionCheck (wireOf 9 (.yield 5 7 30 50)) = some (9, .yield 5 7 30 50)
      ∧ receptionCheck (wireOf 9 (.yield 5 7 32 50)) = some (9, .yield 5 7 32 50)
      ∧ receptionCheck (wireOf 9 (.yield 5 7 255 50)) = some (9, .yield 5 7 255 50) := by decide +kernel

/-- Health after a round (Table 4-3). -/
theorem test_health :
    let h (c : Health) (p : Option Health) (m : Health) : Health := ({ TempChannel.reset with health := c, prev := p }).nextHealth m
    h .valid none .openCircuit = .valid ∧ h .valid (some .valid) .openCircuit = .valid
      ∧ h .valid (some .openCircuit) .openCircuit = .openCircuit ∧ h .valid (some .openCircuit) .shorted = .valid
      ∧ h .openCircuit (some .openCircuit) .shorted = .openCircuit ∧ h .openCircuit (some .shorted) .shorted = .shorted
      ∧ h .openCircuit (some .openCircuit) .valid = .openCircuit ∧ h .openCircuit (some .valid) .valid = .valid
      ∧ h .shorted (some .valid) .openCircuit = .shorted := by decide

/-- The watch for H = 70, Rl = 65 (Table 4-4). -/
theorem test_watch :
    let w (c : Watch) (v : Int) : Watch := ({ TempChannel.reset with cfg := ⟨0, 70, 65, 90, .rise⟩, watch := c }).nextWatch (some v)
    w .below 69 = .below ∧ w .below 70 = .above ∧ w .above 65 = .above ∧ w .above 64 = .below ∧ w .below 67 = .below := by decide

/-- The critical count of a CRITICAL channel: 0 after a fault, kept else (R80, log entry 11). -/
theorem test_critical_count :
    let c : TempChannel := { TempChannel.reset with used := true, critical := true, critCount := 2, prev := some .openCircuit }
    (c.round .openCircuit).critCount = 0 ∧ (c.round .openCircuit).critical = true ∧ (c.round (.value 20)).critCount = 2 := by decide

/-- A measurement's value (R76). -/
theorem test_measured : measuredValue 5 148 = 150 ∧ measuredValue (-4) (-38) = -40 ∧ measuredValue (-2) 72 = 70 := by decide

/-- Epochs compared as serial numbers (03, section 3.2). -/
theorem test_newer :
    newer 2 65534 = true ∧ newer 65534 2 = false ∧ newer 32768 0 = false ∧ newer 0 32768 = false ∧ newer 32767 0 = true
      ∧ nextEpoch (some 65535) = 0 ∧ nextEpoch none = 1 := by decide

/-- The conflict rule (Table 3-5): a role in OWN at epoch 40 of station 6. -/
theorem test_conflict :
    conflictWins 40 .primary 6 41 .standby 11 = false ∧ conflictWins 40 .primary 6 39 .standby 11 = true
      ∧ conflictWins 40 .primary 6 40 .standby 11 = true ∧ conflictWins 40 .primary 6 40 .primary 3 = false
      ∧ conflictReported 40 .primary 41 .standby = false ∧ conflictReported 40 .primary 40 .standby = true
      ∧ conflictReported 40 .primary 41 .primary = true := by decide

/-- A speed from a window (R27): 26 edges 8,000 µs apart at two pulses per revolution; an edge within 100 µs is ignored. -/
theorem test_speed :
    tachSpeed 2 ((List.range 26).map (· * 8000)) = 3750 ∧ tachSpeed 2 [0, 99, 8000] = 3750 ∧ tachSpeed 2 [0, 100] = 25000
      ∧ tachSpeed 2 [5] = 0 := by decide +kernel

/-- The group condition (Table 2-4): UNCHECKED channels are left out. -/
theorem test_condition :
    groupCondition [.unchecked, .unchecked] = .normal ∧ groupCondition [.failed, .unchecked] = .failed
      ∧ groupCondition [.failed, .slow] = .degraded ∧ groupCondition [.slow, .ok] = .normal ∧ groupCondition [] = .normal := by decide

/-- A level between two points of a curve is rounded up (R92). -/
theorem test_curve :
    curve.level 29 = 0 ∧ curve.level 30 = 20 ∧ curve.level 31 = 21 ∧ curve.level 50 = 40 ∧ curve.level 51 = 42
      ∧ curve.level 84 = 99 ∧ curve.level 85 = 100 := by decide

/-- A joined station drives its group under epoch 1 from 100; its standby waits (R54, R61). -/
theorem test_running :
    running.ctl.state = .running ∧ running.roles.map (·.ship.machine) = [.own, .watch]
      ∧ running.roles.map (·.drive.state) = [.tracking, .released] ∧ running.fans.map (·.output) = [some 100, none, none, none, none, none]
      ∧ running.txq.map (fun e => payloadKind e.payload) = [.status] ∧ running.notices.queue.map (·.kind) = [.joined] := by decide +kernel

/-- A takeover: TAKEOVER queued, sent, and acted on (R62, R63). -/
theorem test_takeover :
    claiming.roles.map (·.ship.machine) = [.own, .claiming] ∧ claiming.txq.map (fun e => (payloadKind e.payload, e.onWire)) =
        [(.takeover, true), (.status, false)]
      ∧ acting.roles.map (·.ship.machine) = [.own, .act] ∧ acting.roles.map (·.ship.epoch) = [some 1, some 1]
      ∧ acting.txq.map (fun e => payloadSubject e.payload) = [2, 5] ∧ acting.line.state = .notIdle := by decide +kernel

/-- The edge of a peer's start mark taken first at idle: nothing is started, and the own frame waits (R124). -/
theorem test_peer_first :
    (after [.lineIdle true] running).line.state = .frame ∧ (after [.lineIdle true] running).txq.map (·.onWire) = [false]
      ∧ (after [.lineIdle false] running).txq.map (·.onWire) = [true] := by decide +kernel

/-- A primary outranked by a newer epoch (R56). -/
theorem test_displaced :
    displaced.roles.map (·.ship.machine) = [.displaced, .watch] ∧ displaced.roles.map (·.ship.other) = [some (9, 4), none]
      ∧ displaced.fans.map (·.output) = List.replicate 6 none
      ∧ displaced.notices.queue.map (·.kind) = [.joined, .displaced] := by decide +kernel

/-- The layout of an image and its tests (Table 12-3, R161): one role, one demand group of one curve, no enclosure. -/
def imageHead (generation : Byte) : List Byte :=
  [0x26, 0, 127, 0, generation, 10, 5, 5, 0, 3, 0, 60, 10, 1, 1, 1, 0, 0, 0, 0, 0, 0, 0, 0]
    ++ [3, 0xFE, 110, 105, 130] ++ List.replicate 35 0 ++ (List.replicate 6 [2, 4, 0xB0]).flatten
    ++ [2, 2, 9, 1, 0, 0, 0, 0, 10, 0, 100, 1, 0xF4, 60, 20, 2, 30, 20, 4, 100, 0, 0, 0, 0, 0]
    ++ [2, 0, 0, 0, 0, 0, 20, 100, 0, 70, 90, 110, 125, 0, 20, 40, 80, 100]

/-- An image with its CRC. -/
def slotBytes' (head : List Byte) : List Byte := head ++ bytes2 (crcOf (bytesBits head)).toNat

set_option maxRecDepth 100000 in
/-- A valid slot of generation 41, by every test of R161. -/
theorem test_image_valid :
    (judgeSlot 6 (slotBytes' (imageHead 41))).2.map (fun i => (i.generation, i.roles.map (·.group), i.demands)) =
      some (41, [2], [⟨2, [curve], [], 20, 100⟩]) := by decide +kernel

/-- The length tests at their ends, and the content test with the drive role's index at its partner (R161, R162). -/
theorem test_image_refused :
    (judgeSlot 6 [0x26, 0, 6]).1 = .bad .imageFormat 0 ∧ (judgeSlot 6 [0x26, 2, 1]).1 = .bad .imageFormat 0
      ∧ contentFault 9 (imageHead 41) = some 16 := by decide +kernel

/-- A YIELD that ends an isolation gives the drive its level (R59, R154; log entry 33). -/
theorem test_yield_rejoins :
    let isolated : State := (hearing (running.isolate.modShip 0 (fun sh =>
      { sh with machine := .reclaim, known := some 4, other := some (9, 4) }))).modDrive 0 (fun d => { d with state := .released })
    (after [.yieldFrame 9 2 5 6 44] isolated).roles.map (fun r => (r.ship.machine, r.drive.state, r.drive.level)) =
      [(.own, .tracking, 44), (.watch, .released, 100)] := by decide +kernel

/-- An index refused in LOADING stays refused when JOINING begins before the write ends (R170, log entry 35). -/
theorem test_refused_index :
    let held : State := after [.writeRefused 0x38 [0x04, 0] false] (loadingAs 6)
    let joined : State := { joining with port := held.port }
    held.port.transfer = .write [(0x04, true), (0, false)]
      ∧ (after [.writeRefused 0x38 [] true] joined).port = ⟨.station, [], [], .idle⟩
      ∧ (after [.writeRefused 0x38 [0x04] false, .writeRefused 0x38 [0] true] joining).port.selection = .role 0 := by
  decide +kernel

/-- A read that RESET_HELD cuts, and a write that it cuts (R169). -/
theorem test_cut :
    (after [.readTransaction 0x38 16, .resetHeldEntry 3] joining).port = ⟨.station, [], [2, 0, 0], .idle⟩
      ∧ (after [.writeRefused 0x38 [0x40] false, .resetHeldEntry 0] joining).port = ⟨.station, [], [], .idle⟩ := by
  decide +kernel

/-! ### Conditions that the witnesses meet -/

/-- A property of every element with its number, checked number by number. -/
theorem forall_get {α : Type} {l : List α} {P : Nat → α → Prop}
    (h : ∀ i : Fin l.length, P i.val (l[i.val]'i.isLt)) : ∀ i a, l[i]? = some a → P i a := by
  intro i a e
  obtain ⟨hi, he⟩ := List.getElem?_eq_some_iff.1 e
  exact he ▸ h ⟨i, hi⟩

/-- The conditions of `JudgedOk` on a state without a held image, as checks. -/
theorem judged_of (s : State) (h : heldImage s = none) (hr : s.ctl.load = none) (hs : s.ctl.state ≠ .resetHeld)
    (hf : ∀ f ∈ s.fans, s.checked f = false → f.health = .unchecked ∧ f.run = none)
    (hc : ∀ i : Fin s.roles.length,
      (s.roles[i.val]'i.isLt).drive.condition = groupCondition (s.healths i.val)
        ∧ ((s.roles[i.val]'i.isLt).drive.causes.groupFailed = true ↔ (s.roles[i.val]'i.isLt).drive.condition = .failed)
        ∧ (s.roles[i.val]'i.isLt).cfg.checkLevel ≤ 100) : JudgedOk s := by
  refine ⟨hf, forall_get hc, ?_, ?_⟩
  · intro img hi; rw [h] at hi; cases hi
  · intro ho; rcases ho with ho | ho
    · rw [hr] at ho; cases ho
    · exact absurd ho hs

theorem judged_joining : JudgedOk joining := by
  apply judged_of <;> decide +kernel

theorem judged_running : JudgedOk running := by
  apply judged_of <;> decide +kernel

theorem judged_claiming : JudgedOk claiming := by
  apply judged_of <;> decide +kernel

theorem judged_acting : JudgedOk acting := by
  apply judged_of <;> decide +kernel

theorem judged_reclaiming : JudgedOk reclaiming := by
  apply judged_of <;> decide +kernel

/-- The conditions of `QueueOk` on a queue without a successor and with at most one STATUS, as checks. -/
theorem queue_of (s : State) (hl : s.txq.length ≤ 8) (hp : s.txq.Pairwise (fun a b => a.before b = true))
    (hn : (s.txq.map (·.stamp)).Nodup)
    (he : ∀ e ∈ s.txq, e.overlaps ≤ 2 ∧ e.stamp < s.stamp ∧ e.successor = none) (hw : (s.txq.filter (·.onWire)).length ≤ 1)
    (hf : s.ownOnWire = true → s.line.state = .frame)
    (hd : (s.txq.filter (fun e => payloadKind e.payload == .demand)).length ≤ 1)
    (hs : (s.txq.filter (fun e => payloadKind e.payload == .status)).length ≤ 1) (ht : s.transmits = true) : QueueOk s := by
  refine ⟨hl, hp, hn, ?_, hw, hf, hd, fun g => ?_, fun e h => ⟨(he e h).1, (he e h).2.1, ?_⟩, fun h => by rw [ht] at h; cases h⟩
  · intro e h c n hc; rw [(he e h).2.2] at hc; cases hc
  · have : s.txq.filter (fun e => e.isFor .status g)
        = (s.txq.filter (fun e => payloadKind e.payload == .status)).filter (fun e => payloadSubject e.payload == g) := by
      rw [List.filter_filter]; congr 1; funext e; simp [QEntry.isFor, Bool.and_comm]
    rw [this]; exact (List.length_filter_le _ _).trans hs
  · intro c n hc; rw [(he e h).2.2] at hc; cases hc

/-! ### A state and operands for the hypotheses of each statement -/

/-- A station in RESET_HELD with one command waiting. -/
def queued : State := { State.reset with pending := [.takeNotice] }

theorem witness_StepTakesFront : queued.pending = .takeNotice :: [] ∧ State.reset.pending = [] := by decide

theorem witness_StepKeeps : step queued = .next State.reset := rfl

theorem witness_StepKeepsNotices : NoticesOk queued := by
  refine ⟨by decide, by decide, by decide, ?_⟩
  intro i n h; exact absurd h (by simp [queued, State.reset, Notices.reset])

theorem witness_StepKeepsQueue : QueueOk queued := by
  refine ⟨by decide, List.Pairwise.nil, by decide, (fun e he => by cases he), by decide, by decide, by decide, ?_, ?_, fun _ => rfl⟩
  · intro g; exact Nat.zero_le _
  · intro e he; cases he

theorem witness_StepKeepsOutputs : OutputsOk queued := by
  refine ⟨?_, ?_, fun _ => rfl, fun l h => by cases h⟩
  · intro f hf
    rw [List.eq_of_mem_replicate (show f ∈ List.replicate 6 FanChannel.reset from hf)]
    rfl
  · intro r hr; cases hr

/-- The clauses on a driven role's causes and level, in TRACKING, STOPPED, SPIN_UP and FAILSAFE. -/
theorem witness_StepKeepsOutputs_roles :
    ∀ s ∈ [running, after [.stopDelayExpiry 0] running, after [.stopDelayExpiry 0, .joinGraceEnd 0] waitingForSeven,
      running.isolate.finish], ∀ role ∈ s.roles, RoleOk role := by
  unfold RoleOk; decide +kernel

theorem witness_StepKeepsJudgement : JudgedOk queued := by
  refine ⟨?_, ?_, ?_, fun _ => rfl⟩
  · intro f hf _
    rw [List.eq_of_mem_replicate (show f ∈ List.replicate 6 FanChannel.reset from hf)]
    exact ⟨rfl, rfl⟩
  · intro r role h; exact absurd h (by simp [queued, State.reset])
  · intro img h; exact absurd h (by simp [heldImage, queued, State.reset, Control.reset])

theorem witness_StepKeepsCapacity : CapacityOk queued := by
  refine ⟨by decide, ?_, ?_⟩
  · intro r hr; cases hr
  · intro img h; exact absurd h (by simp [heldImage, queued, State.reset, Control.reset])

theorem witness_StepKeepsTargets : TargetsOk queued :=
  ⟨fun h => absurd h (by decide), fun h => absurd rfl h⟩

theorem witness_StepKeepsPeers : PeersOk queued := by
  have none (l : List Nat) (h : l = []) : PeerList queued.ctl.station l := by
    subst h; exact ⟨List.nodup_nil, fun n hn => by cases hn⟩
  have empty (ms : List Member) (h : ms ∈ queued.peers.board) : ms = [] :=
    List.eq_of_mem_replicate (show ms ∈ List.replicate 16 [] from h)
  refine ⟨none _ rfl, rfl, ?_, none _ rfl, fun _ => ⟨rfl, empty, rfl⟩⟩
  intro ms h; rw [empty ms h]; exact none _ rfl

theorem witness_StepKeepsThrottle : ThrottleOk queued := by
  have empty (ms : List Member) (h : ms ∈ queued.peers.board) : ms = [] :=
    List.eq_of_mem_replicate (show ms ∈ List.replicate 16 [] from h)
  refine ⟨by decide +kernel, fun _ => ⟨empty, ?_⟩, fun h => absurd h (by decide), fun h => absurd rfl h⟩
  intro d hd; cases hd

theorem witness_StepKeepsProtection : ProtectionOk queued := by
  have same (c : TempChannel) (h : c ∈ queued.temps) : c = .reset :=
    List.eq_of_mem_replicate (show c ∈ List.replicate 8 TempChannel.reset from h)
  refine ⟨?_, by decide, ?_, fun _ => ⟨rfl, ?_⟩, fun h => absurd h (by decide), fun h => absurd rfl h⟩
  · intro r hr; cases hr
  · intro c h; rw [same c h]
    refine ⟨?_, by decide, by decide, by decide⟩
    intro v hv; cases hv
  · intro c h; rw [same c h]; exact ⟨rfl, rfl⟩

theorem witness_FramesSurviveTheWire :
    stationOk 1 = true ∧ stationOk 30 = true ∧ (Payload.status (status2 4 .standby)).wf = true ∧ (Payload.demand []).wf = true
      ∧ (Payload.alert .critical 7 (-40)).wf = true := by decide +kernel

theorem witness_StationStarts :
    State.reset.ctl.state = .resetHeld ∧ (1 : BitVec 5).toNat = 1 ∧ (30 : BitVec 5).toNat = 30 ∧ (0 : BitVec 5).toNat = 0
      ∧ (31 : BitVec 5).toNat = 31 ∧ running.started = true ∧ running.port.held = []
      ∧ (after [.readTransaction 0x38 16] running).port.transfer = .read := by decide +kernel

/-- Station 6 reads slot A. -/
def loading : State := after [.resetHeldEnd ⟨6, 2⟩] State.reset

/-- Station 6 reads slot B, slot A being valid or not. -/
def loadingB (a : Option Image) (result : SlotResult) : State :=
  { loading with ctl := { loading.ctl with slotA := result, load := some ⟨.b, a, .running 200, false, [], []⟩ } }

theorem witness_SlotsJudged :
    loading.ctl.load = some ⟨.a, none, .running 100, false, [], []⟩
      ∧ (loadingB (some image) .valid).ctl.load = some ⟨.b, some image, .running 200, false, [], []⟩
      ∧ (loadingB none (.bad .imageCrc 0)).ctl.load = some ⟨.b, none, .running 200, false, [], []⟩
      ∧ (loadingB none (.bad .imageCrc 0)).ctl.slotA = .bad .imageCrc 0
      ∧ judgeSlot ((loadingB none .notRead).ctl.station.getD 0) [0x26, 0, 6] = (.bad .imageFormat 0, none) := by decide +kernel

/-- Slot A valid and slot B valid: the image of `test_image_valid` serves both. -/
theorem witness_SlotsJudged_valid :
    (loadingB (some image) .valid).ctl.station.getD 0 = 6
      ∧ (loadingB (some image) .valid).ctl.load = some ⟨.b, some image, .running 200, false, [], []⟩ := by
  decide +kernel

/-- Slot A's memory has answered ready, and the read has brought the first bytes of the header. -/
def readingA : State := after [.slotReadComplete [] 0x01 false, .slotReadComplete [0x26, 0] 0 false] loading

/-- A query answered busy, a read in parts, its own end at the header of a length that fails, and at the stated length. -/
theorem witness_SlotsJudged_parts :
    (0x01 : Byte).getLsbD 0 = true ∧ (0xFF : Byte).getLsbD 0 = true ∧ (0 : Byte).getLsbD 0 = false
      ∧ (after [.slotReadComplete [] 0x01 false] loading).ctl.load = some ⟨.a, none, .running 100, false, [0x05], [0x01]⟩
      ∧ readingA.ctl.load = some ⟨.a, none, .stopped, true, [0x03, 0, 0], [0x26, 0]⟩ ∧ readingA.msel = true
      ∧ (after [.memoryAnswerTimeout] readingA) = readingA ∧ State.reset.ctl.load = none
      ∧ (after [.slotReadComplete [6, 0] 0 false] readingA).ctl.load = some ⟨.a, none, .stopped, true, [0x03, 0, 0], [0x26, 0, 6, 0]⟩
      ∧ (after [.slotReadComplete [6, 0, 0] 0 false] readingA).ctl.slotA = .bad .imageFormat 0
      ∧ (after [.slotReadComplete [6, 0, 0] 0 false] readingA).msel = false
      ∧ (after [.slotReadComplete [7, 0, 0, 0] 0 false] readingA).msel = true
      ∧ (after [.slotReadComplete [7, 0, 0, 0, 0] 0 false] readingA).ctl.slotA = .bad .imageCrc 0
      ∧ (after [.slotReadComplete [] 0 false] (loadingB none .notRead)).ctl.load.map (·.request) = some [0x03, 2, 0]
      ∧ (after [.restart ⟨6, 2⟩] readingA).msel = false ∧ (after [.resetHeldEntry] readingA).msel = false := by decide +kernel

/-- The clause on MSEL, before the memory has answered and during a read. -/
theorem witness_StepKeepsOutputs_load :
    ∀ l ∈ loading.ctl.load.toList ++ readingA.ctl.load.toList, LoadOk l := by
  unfold LoadOk; decide +kernel

/-- The ends of each test; `test_image_valid` meets the last clause. -/
theorem witness_SlotTestsInOrder :
    imageWord [0x26, 0, 6] 1 = 6 ∧ imageWord [0x26, 0, 7] 1 = 7 ∧ imageWord [0x26, 2, 0] 1 = 512 ∧ imageWord [0x26, 2, 1] 1 = 513
      ∧ imageCrcOk [0x26, 0, 7, 0, 0, 0, 0] 7 = false ∧ imageCrcOk (slotBytes' [0x26, 0, 7, 0, 0]) 7 = true
      ∧ imageFormatOk (slotBytes' [0x26, 0, 7, 0, 0]) 7 = false ∧ imageFormatOk (slotBytes' [0x27, 0, 7, 0, 0]) 7 = false
      ∧ imageFormatOk (imageHead 41 ++ [0, 0]) 127 = true
      ∧ contentFault 9 (imageHead 41) = some 16 ∧ contentFault 6 (imageHead 41) = none := by decide +kernel

theorem witness_JoiningBegins :
    image.roles.head? = some primaryCfg ∧ image.roles.tail.head? = some standbyCfg ∧ joining.roles.tail.head?.isSome = true
      ∧ joining.fans.getLast?.isSome = true := by decide +kernel

theorem witness_FaultedEntered :
    running.roles.head?.isSome = true ∧ (running.enterFaulted .duplicateStation 0).roles.tail.head?.isSome = true
      ∧ (running.enterFaulted .duplicateStation 0).fans.head?.map (·.role) = some (some 0) ∧ 0 < running.roles.length := by
  decide +kernel

theorem witness_JoinWindowEnds :
    joining.ctl.joinWindow = .running 2000 ∧ joining.transmits = true ∧ joining.peers.isolated = false
      ∧ joining.txq.length + 2 * joining.roles.length ≤ 8 ∧ joining.txq = [] ∧ (joining.roles.map (·.cfg.group)).Nodup
      ∧ joining.roles.map (fun r => (r.ship.machine, r.ship.joinMark, r.ship.pendingExpiry, r.drive.state)) =
        [(.listen, false, false, .released), (.watch, false, false, .released)]
      ∧ joiningHeard.roles.map (fun r => (r.ship.machine, r.ship.joinMark)) = [(.listen, true), (.watch, false)]
      ∧ (after [.silenceTimerExpiry 1] joining).roles.map (·.ship.pendingExpiry) = [false, true] := by decide +kernel

theorem witness_JoinWindowEnds_settled : Settled joining ∧ JudgedOk joining :=
  ⟨by unfold Settled; decide +kernel, judged_joining⟩

theorem witness_RoundTakesChannels :
    running.roundTimer = .running 250 ∧ running.temps.head?.map (·.used) = some true ∧ running.temps.tail.head?.map (·.used) = some false
      ∧ running.temps.head?.map (·.critical) = some false ∧ (running.modTemp 0 (fun c => { c with critical := true })).roundTimer = .running 250
      ∧ ({ TempChannel.reset with cfg := ⟨-2, 70, 65, 90, .rise⟩ }).readingTaken (.value 72) = some 70
      ∧ ({ TempChannel.reset with cfg := ⟨-2, 70, 65, 90, .rise⟩ }).readingTaken .shorted = none := by decide +kernel

theorem witness_ChannelNotices :
    running.temps.head?.map (·.used) = some true ∧ running.transmits = true ∧ running.txq.length < 8
      ∧ (({ TempChannel.reset with critCount := 1, cfg := ⟨0, 70, 65, 90, .rise⟩ }).round (.value 90)).critical = true
      ∧ (({ TempChannel.reset with critCount := 1, cfg := ⟨0, 70, 65, 90, .rise⟩ }).round (.value 89)).critical = false := by
  decide +kernel

/-- Station 6 with its channel one round short of CRITICAL. -/
def heating : State := running.modTemp 0 (fun c => { c with critCount := 1 })

/-- The clauses on an entry into CRITICAL, at a driven and at a released role. -/
theorem witness_ChannelNotices_cause :
    heating.roles.map (fun r => (r.drive.state, r.drive.causes.critical)) = [(.tracking, false), (.released, false)]
      ∧ (State.takeChannel [.value 92] heating 0).roles.map (fun r => (r.drive.state, r.drive.level, r.drive.causes.critical)) =
        [(.failsafe, 100, true), (.released, 100, true)] := by decide +kernel

theorem witness_ChannelNotices_judged : JudgedOk heating := by
  apply judged_of <;> decide +kernel

theorem witness_CurveLevel : curveOk curve = true ∧ (30 : Int) < 31 ∧ (31 : Int) < 50 := by decide

theorem witness_LevelAndReason :
    demandLevel demandCfg 80 90 true = 100 ∧ demandLevel demandCfg 80 70 true = 100 ∧ demandLevel demandCfg 80 70 false = 80 := by decide

theorem witness_RoundComputesDemand :
    running.roundTimer = .running 250 ∧ running.transmits = true ∧ running.demand.entries.head?.isSome = true
      ∧ (running.demand.entries.map (·.cfg.group)).Nodup := by decide +kernel

/-- The clause on targets: a round takes the stopped drive of group 2 to SPIN_UP, with its STATUS. -/
theorem witness_RoundComputesDemand_target :
    let s := after [.frameTransmitted, .stopDelayExpiry 0] (sending running (.demand []))
    s.roles.map (fun r => (r.drive.state, r.drive.target)) = [(.stopped, 0), (.released, 20)] ∧ Settled s
      ∧ (s.roles.map (·.cfg.group)).Nodup
      ∧ s.txq.length + (s.temps.filter (·.used)).length + s.demand.entries.length + 1 + s.roles.length ≤ 8
      ∧ (after [.roundComplete [.value 72]] { s with txq := [] }).roles.map (fun r => (r.drive.state, r.drive.level, r.drive.target)) =
        [(.spinUp, 80, 80), (.released, 100, 20)] := by
  unfold Settled; decide +kernel

/-- A DEMAND waits in the queue. -/
def demandWaiting : State := { running with txq := [waiting (.demand []) 0] }

theorem witness_DemandPosting :
    demandWaiting.demandWaits = true ∧ running.demandWaits = false ∧ running.demandOnWire = false
      ∧ (sending running (.demand [])).demandWaits = false ∧ (sending running (.demand [])).demandOnWire = true
      ∧ running.demand.refresh = .running 1000 := by decide +kernel

theorem witness_MonitorAtComputation :
    (saturating running 100 .clear 0).reportedLevel 2 = some 100 ∧ (saturating joining 100 .clear 0).reportedLevel 2 = none
      ∧ (saturating (running.modDrive 0 (fun d => { d with level := 99 })) 100 .counting 3).reportedLevel 2 = some 99
      ∧ (running.timing.map (·.saturationS)).getD 0 * 4 = 40 ∧ (running.timing.map (·.margin)).getD 0 = 10
      ∧ (saturating running 100 .counting 38).demand.entries.map (fun d => (d.sat, d.satCount, d.curvePart)) = [(.counting, 38, 100)]
      ∧ (saturating running 91 .saturated 40).demand.entries.map (fun d => (d.sat, d.curvePart)) = [(.saturated, 91)]
      ∧ (saturating running 90 .saturated 40).demand.entries.map (fun d => (d.sat, d.curvePart)) = [(.saturated, 90)] := by
  decide +kernel

/-- A CRITICAL channel and a SATURATED group with their repeat timers running. -/
def repeating : State :=
  (running.modTemp 0 (fun c => { c with critical := true, repeatTimer := .running 9000 })).modEntry 0
    (fun d => { d with sat := .saturated, satRepeat := .running 9000 })

theorem witness_RepeatsQueued :
    repeating.temps.head?.map (·.repeatTimer) = some (.running 9000) ∧ repeating.demand.entries.head?.map (·.satRepeat) = some (.running 9000)
      ∧ repeating.demand.entries.length = 1 ∧ running.roles.head?.map (fun r => (r.drive.state, r.drive.statusTimer)) =
        some (.tracking, .running 3000) := by decide +kernel

theorem witness_Settled : Settled running ∧ Settled repeating ∧ Settled displaced ∧ Settled reclaiming ∧ Settled acting
    ∧ Settled (hearing running) ∧ Settled (hearing acting) ∧ Settled (hearing claiming) := by
  unfold Settled; decide +kernel

/-- Claims of stations 12 (ORDINARY) and 7 (REQUIRED) for group 5, and an unrecorded peak. -/
def claimed : State :=
  (after [.demandFrame 12 [⟨5, 40, .curve⟩]] (hearing (after [.demandFrame 7 [⟨5, 30, .curve⟩]] (hearing running)))).modClaims 1
    (fun t => { t with peak := 50, peakTimer := .running 9000 })

theorem witness_ClaimTimersEnd :
    claimed.roles.tail.head?.map (fun r => r.claims.entries.map (fun e => (e.station, e.kind, e.live.isSome))) =
        some [(7, .required, true), (12, .ordinary, true)]
      ∧ claimed.roles.tail.head?.map (fun r => (r.claims.grace, r.claims.peakTimer)) = some (.running 4000, .running 9000)
      ∧ Settled claimed := by unfold Settled; decide +kernel

/-- The clauses on the drive: the end of the grace takes a stopped drive to SPIN_UP and turns the ramp of a driven one; the
peak's end starts the stop delay. -/
theorem witness_ClaimTimersEnd_drive :
    let stopped := { after [.stopDelayExpiry 0] waitingForSeven with txq := [] }
    let peaked := after [.peakExpiry 0] (waitingForSeven.modClaims 0 (fun t => { t with peak := 30, peakTimer := .running 8000 }))
    stopped.roles.head?.map (fun r => (r.drive.state, r.drive.target)) = some (.stopped, 0) ∧ Settled stopped
      ∧ (∀ e ∈ stopped.txq, e.isFor .status 2 = false)
      ∧ (after [.joinGraceEnd 0] stopped).roles.head?.map (fun r => (r.drive.state, r.drive.level, r.drive.spinUp)) =
        some (.spinUp, 100, .running 11000)
      ∧ (after [.joinGraceEnd 0] (waitingForSeven.modDrive 0 (fun d => { d with level := 50 }))).roles.head?.map (fun r =>
          (r.drive.state, r.drive.ramp, r.drive.stopDelay)) = some (.tracking, .up 9100, .stopped)
      ∧ peaked.roles.head?.map (fun r => (r.drive.state, r.drive.target)) = some (.tracking, 0) := by
  unfold Settled; decide +kernel

theorem witness_ClaimTimersEnd_judged : JudgedOk (after [.stopDelayExpiry 0] waitingForSeven) ∧ JudgedOk waitingForSeven := by
  constructor <;> (apply judged_of <;> decide +kernel)

theorem witness_TargetOfClaims :
    running.roles.map (fun r => (r.cfg.stopPermitted, r.claimValue, r.computedTarget)) = [(true, 0, 0), (false, 0, 20)] := by
  decide +kernel

/-- Station 6 with forty-eight claims in four tables, one of them for group 2; station 3's is the last of group 9 if `listed`. -/
def pooled (listed : Bool) : State :=
  let many (k : Nat) : List ClaimEntry := (List.range k).map (fun i => ⟨i + 40, .ordinary, some ⟨40, .curve, 0⟩, false⟩)
  let table (g : Nat) (es : List ClaimEntry) (role : Role) : Role :=
    { role with cfg := { role.cfg with group := g }, claims := { role.claims with entries := es } }
  hearing { running with
    roles := running.roles.flatMap (fun role =>
      if role.cfg.group = 2 then [role]
      else [table 5 (many 16) role, table 7 (many 16) role,
        table 9 (many 14 ++ [⟨if listed then 3 else 60, .ordinary, some ⟨40, .curve, 0⟩, false⟩]) role]) }

theorem witness_DemandFrameTaken :
    TakesFrame (hearing running) 12 (.demand [⟨5, 40, .curve⟩]) ∧ (running.roles.map (·.cfg.group)).Nodup
      ∧ (running.roles.map (fun r => (r.claims.entries.map (·.station)))) = [[6], [7]]
      ∧ poolAt (hearing running) 12 [⟨5, 40, .curve⟩] 0 = 2 := by unfold TakesFrame; decide +kernel

/-- A claim on a full table, on a full pool, and on a pool that the frame's own withdrawal, or an entry before, has changed. -/
theorem witness_DemandFrameTaken_room :
    let s := pooled false
    let u := pooled true
    TakesFrame (hearing (crowded 40 30)) 3 (.demand [⟨2, 50, .curve⟩])
      ∧ (crowded 40 30).roles.map (fun r => (r.claims.entries.length, r.claims.find 3)) = [(16, none), (1, none)]
      ∧ TakesFrame s 3 (.demand [⟨2, 50, .curve⟩]) ∧ TakesFrame u 3 (.demand [⟨2, 50, .curve⟩])
      ∧ (s.roles.map (·.cfg.group)).Nodup ∧ (∀ role ∈ s.roles, (role.claims.entries.map (·.station)).Nodup)
      ∧ (∀ role ∈ u.roles, (role.claims.entries.map (·.station)).Nodup)
      ∧ poolAt s 3 [⟨2, 50, .curve⟩] 0 = 48 ∧ poolAt u 3 [⟨2, 50, .curve⟩] 0 = 47
      ∧ poolAt (hearing running) 3 [⟨2, 50, .curve⟩, ⟨5, 50, .curve⟩] 1 = 3
      ∧ (after [.demandFrame 3 [⟨2, 50, .curve⟩]] s).roles.head?.map (fun r => (r.claims.entries.length, r.claims.peak)) = some (1, 50)
      ∧ (after [.demandFrame 3 [⟨2, 50, .curve⟩]] u).roles.head?.map (fun r => (r.claims.entries.length, r.claims.peak)) = some (2, 0) := by
  unfold TakesFrame; decide +kernel

/-- The clause on the drive: a claim takes the stopped drive of group 2 to SPIN_UP. -/
theorem witness_DemandFrameTaken_drive :
    let s := hearing { after [.stopDelayExpiry 0] running with txq := [] }
    TakesFrame s 12 (.demand [⟨2, 40, .curve⟩]) ∧ s.peers.isolated = false ∧ Settled s ∧ s.txq.length + s.roles.length ≤ 8
      ∧ s.roles.head?.map (fun r => (r.drive.state, r.drive.target)) = some (.stopped, 0)
      ∧ (after [.demandFrame 12 [⟨2, 40, .curve⟩]] s).roles.head?.map (fun r => (r.drive.state, r.drive.level, r.drive.target)) =
        some (.spinUp, 60, 40) := by unfold TakesFrame Settled; decide +kernel

theorem witness_DemandFrameTaken_judged : JudgedOk (hearing { after [.stopDelayExpiry 0] running with txq := [] }) := by
  apply judged_of <;> decide +kernel

/-- Station 7's claim on group 5 is LIVE or its loss was reported, after the grace. -/
def graced (live : Option LiveClaim) (reported : Bool) : State :=
  running.modClaims 1 (fun t => { t with graceEnded := true, entries := [⟨7, .required, live, reported⟩] })

/-- The premises of the clause on notices, on a lost and on a returned contributor and on a claim that begins a peak. -/
theorem witness_DemandFrameTaken_notices :
    let lost := hearing (graced (some ⟨30, .curve, 0⟩) false)
    let back := hearing (graced none true)
    TakesFrame lost 7 (.demand []) ∧ TakesFrame back 7 (.demand [⟨5, 30, .curve⟩])
      ∧ lost.peers.isolated = false ∧ lost.peers.roster.any (fun x => x.station == 7) = true ∧ Settled lost ∧ Settled back
      ∧ lost.txq.length + lost.roles.length ≤ 8 ∧ (∀ role ∈ lost.roles, (role.claims.entries.map (·.station)).Nodup)
      ∧ (after [.demandFrame 7 []] lost).notices.queue.map (·.kind) = [.joined, .contributorLost]
      ∧ (after [.demandFrame 7 [⟨5, 30, .curve⟩]] back).notices.queue.map (·.kind) = [.joined, .contributorBack]
      ∧ demandNotices lost 7 [] = [(.contributorLost, 5, 7)] ∧ demandNotices back 7 [⟨5, 30, .curve⟩] = [(.contributorBack, 5, 7)]
      ∧ demandNotices (pooled false) 3 [⟨2, 50, .curve⟩] = [(.tableFull, 2, 50)]
      ∧ (after [.demandFrame 3 [⟨2, 50, .curve⟩]] (pooled false)).notices.queue.map (·.kind) = [.joined, .tableFull] := by
  unfold TakesFrame Settled; decide +kernel

theorem witness_ExhaustedTable :
    (crowded 40 30).roles.head?.map (fun r => ((r.claims.entries.map (·.station)).Nodup ∧ r.claims.entries.length = 16
        ∧ (r.claims.find 3).isNone)) = some True
      ∧ (crowded 40 30).roles.head?.map (fun r => (r.claims.entries.drop 8).head?.map (fun e => (e.live.map (·.level)))) = some (some (some 30))
      ∧ (crowded 40 40).roles.head?.map (fun r => r.claims.entries.all (fun e => decide (40 ≤ (e.live.map (·.level)).getD 0))) =
        some true := by
  refine ⟨?_, by decide +kernel, by decide +kernel⟩
  show some _ = some True
  congr 1
  exact eq_true (by decide +kernel)

theorem witness_TachMeasured :
    running.fans.head?.map (fun f => (f.window, running.checked f)) = some (.running 500, true)
      ∧ running.fans.getLast?.map (fun f => (f.window, running.checked f)) = some (.running 500, false)
      ∧ running.txq.length < 8 := by decide +kernel

theorem witness_TachMeasured_judged : JudgedOk running := judged_running

/-- Station 6 with its one fan of group 2 slow for 3 s, and with it FAILED and turning again for 3 s. -/
def failing : State := { running with now := 9000, fans := running.fans.modify 0 (fun f => { f with health := .slow, run := some ⟨true, 0⟩ }) }

/-- The edges of 3,000 revolutions a minute. -/
def turning : List Nat := (List.range 50).map (fun i => i * 10000)

/-- The same fan found FAILED, and turning again for 3 s. -/
def mending : State :=
  let s := after [.tachMeasurement 0 []] failing
  { s with fans := s.fans.modify 0 (fun f => { f with run := some ⟨false, 0⟩ }), txq := [] }

/-- The clauses on the role: its group FAILED takes it to FAILSAFE, its return to TRACKING at 100. -/
theorem witness_TachMeasured_role :
    failing.fans.head?.map (fun f => (f.role, failing.checked f)) = some (some 0, true) ∧ Settled failing
      ∧ mending.fans.head?.map (fun f => (f.role, mending.checked f)) = some (some 0, true) ∧ Settled mending
      ∧ mending.roles.head?.map (fun r => (r.drive.condition, r.drive.state, r.drive.level)) = some (.failed, .failsafe, 100)
      ∧ (after [.tachMeasurement 0 turning] mending).roles.head?.map (fun r => (r.drive.condition, r.drive.state, r.drive.level)) =
        some (.normal, .tracking, 100) := by unfold Settled; decide +kernel

theorem witness_TachMeasured_role_judged : JudgedOk failing ∧ JudgedOk mending := by
  constructor <;> (apply judged_of <;> decide +kernel)

theorem witness_RampSteps :
    running.roles.head?.map (fun r => (r.drive.state, r.drive.causes.empty, r.drive.ramp)) = some (.tracking, true, .down 2500)
      ∧ (running.modDrive 0 (fun d => { d with level := 10, target := 20, ramp := .up 2100 })).roles.head?.map (fun r => r.drive.ramp) =
        some (.up 2100) := by decide +kernel

/-- Station 6's primary spins its fans up. -/
def spinning : State :=
  after [.demandFrame 12 [⟨2, 40, .curve⟩]] (hearing (after [.stopDelayExpiry 0] running))

theorem witness_StopAndSpinUpEnd :
    running.roles.head?.map (fun r => (r.drive.state, r.drive.stopDelay)) = some (.tracking, .running 4000)
      ∧ spinning.roles.head?.map (fun r => (r.drive.state, r.drive.spinUp, r.drive.causes.empty)) =
        some (.spinUp, .running 6000, true)
      ∧ ({ running with txq := [] }).transmits = true ∧ Settled spinning := by unfold Settled; decide +kernel

theorem witness_StopAndSpinUpEnd_judged : JudgedOk spinning := by
  apply judged_of <;> decide +kernel

theorem witness_SilenceTimersRunOut :
    running.ctl.state = .running ∧ running.roles.tail.head?.map (·.ship.silence) = some (.running 3000)
      ∧ joining.ctl.state = .joining ∧ joining.roles.tail.head?.map (·.ship.silence) = some (.running 3000)
      ∧ joiningHeard.roles.head?.map (fun r => (r.ship.machine, r.ship.otherSilence)) = some (.listen, .running 3000)
      ∧ displaced.roles.head?.map (fun r => (r.ship.machine, r.ship.otherSilence)) = some (.displaced, .running 5000)
      ∧ reclaiming.roles.head?.map (fun r => (r.ship.machine, r.ship.otherSilence, r.ship.forcing)) =
        some (.reclaim, .running 5000, .clear) := by decide +kernel

theorem witness_ReclaimAsks :
    displaced.roles.head?.map (fun r => (r.ship.other, r.ship.hold)) = some (some (9, 4), .running 7000)
      ∧ displaced.peers.isolated = false
      ∧ reclaiming.roles.head?.map (fun r => (r.ship.other, r.ship.wait, r.ship.forcing, r.ship.attempts)) =
        some (some (9, 4), .running 9000, .clear, 1)
      ∧ (reclaiming.modShip 0 (fun sh => { sh with attempts := 3 })).roles.head?.map (·.ship.attempts) = some 3
      ∧ (reclaiming.modShip 0 (fun sh => { sh with forcing := .silence })).roles.head?.map (·.ship.forcing) = some .silence := by
  decide +kernel

theorem witness_DrivershipTransmitted :
    claiming.ownFrame.map (·.payload) = some (.takeover 5 1) ∧ claiming.roleIndex 5 = some 1
      ∧ claiming.roles.tail.head?.map (fun r => (r.ship.machine, r.drive.state)) = some (.claiming, .released)
      ∧ (sending reclaiming (.takeover 2 5)).ownFrame.map (·.payload) = some (.takeover 2 5)
      ∧ reclaiming.roles.head?.map (fun r => (r.ship.machine, r.drive.state)) = some (.reclaim, .released)
      ∧ (sending acting (.yield 5 2 3 100)).ownFrame.map (·.payload) = some (.yield 5 2 3 100)
      ∧ acting.roles.tail.head?.map (·.ship.machine) = some .act := by decide +kernel

theorem witness_DrivershipTransmitted_judged : JudgedOk claiming ∧ JudgedOk reclaiming ∧ JudgedOk acting :=
  ⟨judged_claiming, judged_reclaiming, judged_acting⟩

theorem witness_DrivershipTransmitted_queue :
    QueueOk claiming ∧ QueueOk (sending reclaiming (.takeover 2 5)) ∧ QueueOk (sending acting (.yield 5 2 3 100)) := by
  refine ⟨?_, ?_, ?_⟩ <;> apply queue_of <;> decide +kernel

theorem witness_FrameLeavesQueue :
    (sending running (.status (status2 1 .primary))).ownFrame.map (·.payload) = some (.status (status2 1 .primary))
      ∧ (sending running (.alert .critical 2 95)).ownFrame.map (·.payload) = some (.alert .critical 2 95)
      ∧ (sending running (.demand [⟨2, 0, .curve⟩])).ownFrame.map (·.payload) = some (.demand [⟨2, 0, .curve⟩])
      ∧ (sending reclaiming (.handback 2 4)).ownFrame.map (·.payload) = some (.handback 2 4)
      ∧ reclaiming.roleIndex 2 = some 0 := by decide +kernel

theorem witness_EpochsKnown :
    TakesFrame (hearing running) 3 (.takeover 5 7) ∧ TakesFrame (hearing running) 3 (.handback 5 7)
      ∧ TakesFrame (hearing running) 3 (.yield 5 7 6 0) ∧ TakesFrame (hearing running) 3 (.status { status2 7 .primary with group := 5 })
      ∧ (hearing running).roleIndex 5 = some 1 := by unfold TakesFrame; decide +kernel

theorem witness_ConflictRule :
    TakesFrame (hearing running) 9 (.status (status2 1 .standby)) ∧ TakesFrame (hearing running) 3 (.takeover 2 1)
      ∧ (hearing running).roleIndex 2 = some 0
      ∧ (hearing running).roles.head?.map (fun r => (r.ship.machine, r.ship.epoch)) = some (.own, some 1)
      ∧ (hearing running).ctl.station = some 6 ∧ newer 2 1 = true ∧ newer 1 0 = true ∧ newer 32769 1 = false ∧ newer 1 32769 = false := by
  unfold TakesFrame; decide +kernel

theorem witness_ConflictEffects :
    TakesFrame (hearing running) 9 (.status (status2 1 .standby)) ∧ (hearing running).peers.isolated = false
      ∧ (hearing running).peers.roster.any (fun x => x.station == 9) = true ∧ (hearing running).txq.length < 8
      ∧ conflictWins 1 .primary 6 1 .standby 9 = true ∧ conflictWins 1 .primary 6 2 .standby 9 = false
      ∧ TakesFrame (hearing acting) 3 (.status { status2 2 .primary with group := 5 })
      ∧ (hearing acting).roles.tail.head?.map (fun r => (r.ship.machine, r.ship.epoch)) = some (.act, some 1)
      ∧ conflictWins 1 .standby 6 2 .primary 3 = false
      ∧ TakesFrame (hearing running) 9 (.takeover 2 0) ∧ conflictWins 1 .primary 6 0 .standby 9 = true
      ∧ (∀ x ∈ (hearing { running with txq := [] }).txq, x.isFor .status 2 = false)
      ∧ (hearing running).txq.map (fun x => (x.isFor .status 2, x.onWire)) = [(true, false)] := by
  unfold TakesFrame; decide +kernel

theorem witness_HandbackExchange :
    TakesFrame (hearing acting) 3 (.handback 5 1) ∧ (hearing acting).roleIndex 5 = some 1 ∧ (hearing acting).txq.length < 8
      ∧ (hearing acting).roles.tail.head?.map (fun r => (r.ship.machine, r.ship.epoch, r.cfg.partner)) = some (.act, some 1, some 3)
      ∧ (∀ x ∈ (hearing acting).txq, x.isFor .yield 5 = false)
      ∧ TakesFrame (hearing reclaiming) 9 (.yield 2 5 6 44) ∧ newerThanKnown 5 (some 4) = true
      ∧ reclaiming.roles.head?.map (fun r => (r.ship.machine, r.ship.known, r.drive.state)) = some (.reclaim, some 4, .released) := by
  unfold TakesFrame; decide +kernel

theorem witness_HandbackExchange_judged : JudgedOk (hearing reclaiming) := by
  apply judged_of <;> decide +kernel

/-- Station 6's standby claims group 5, its TAKEOVER waiting. -/
def claimWaiting : State := after [.silenceTimerExpiry 1] running

theorem witness_PartnerHeard :
    TakesFrame (hearing running) 3 (.handback 5 7) ∧ TakesFrame (hearing running) 12 (.takeover 5 7)
      ∧ running.roles.tail.head?.map (fun r => (r.ship.machine, r.cfg.partner)) = some (.watch, some 3)
      ∧ TakesFrame (hearing claimWaiting) 3 (.takeover 5 7) ∧ claimWaiting.roles.tail.head?.map (·.ship.machine) = some .claiming
      ∧ Settled (hearing claimWaiting) := by unfold TakesFrame Settled; decide +kernel

/-- Station 6's primary forces a takeover with a mark, its TAKEOVER under epoch 5 waiting. -/
def forcing (mark : Forcing) : State := (reclaiming.forceTakeover 0 mark).modShip 0 (fun sh => { sh with attempts := 3 })

/-- The other clauses: an epoch that outdates the waiting TAKEOVER or does not, LISTEN, DISPLACED and RECLAIM. -/
theorem witness_PartnerHeard_clauses :
    TakesFrame (hearing claimWaiting) 12 (.takeover 5 1) ∧ TakesFrame (hearing claimWaiting) 12 (.yield 5 0 9 50)
      ∧ claimWaiting.waitingTakeover 5 = some 1 ∧ newer 1 1 = false ∧ newer 1 0 = true
      ∧ TakesFrame (hearing joining) 9 (.status (status2 4 .standby)) ∧ TakesFrame (hearing joining) 9 (.takeover 2 4)
      ∧ TakesFrame (hearing joining) 9 (.handback 2 4) ∧ joining.roles.head?.map (·.ship.machine) = some .listen := by
  unfold TakesFrame; decide +kernel

theorem witness_PartnerHeard_displaced :
    TakesFrame (hearing displaced) 9 (.takeover 2 4) ∧ TakesFrame (hearing displaced) 12 (.takeover 2 5)
      ∧ TakesFrame (hearing displaced) 12 (.takeover 2 4) ∧ TakesFrame (hearing displaced) 9 (.handback 2 4)
      ∧ displaced.roles.head?.map (fun r => (r.ship.machine, r.ship.other)) = some (.displaced, some (9, 4)) := by
  unfold TakesFrame; decide +kernel

theorem witness_PartnerHeard_forcing :
    TakesFrame (hearing (forcing .silence)) 9 (.status (status2 4 .standby)) ∧ (forcing .silence).txq.length < 8
      ∧ (forcing .silence).roles.head?.map (fun r => (r.ship.machine, r.ship.forcing, r.ship.other)) =
        some (.reclaim, .silence, some (9, 4))
      ∧ TakesFrame (hearing (forcing .attempts)) 9 (.status (status2 5 .standby))
      ∧ (forcing .attempts).roles.head?.map (fun r => (r.ship.machine, r.ship.forcing)) = some (.reclaim, .attempts)
      ∧ (forcing .attempts).waitingTakeover 2 = some 5
      ∧ (after [.statusFrame 9 (status2 5 .standby)] (hearing (forcing .attempts))).waitingTakeover 2 = some 6
      ∧ Settled (hearing (forcing .silence)) ∧ Settled (hearing joining) := by unfold TakesFrame Settled; decide +kernel

/-- The clauses on a role that acts, and on one in RECLAIM that accepts nothing: with a TAKEOVER that waits and without. -/
theorem witness_PartnerHeard_unaccepted :
    TakesFrame (hearing running) 9 (.handback 2 7) ∧ TakesFrame (hearing running) 9 (.yield 2 7 6 50)
      ∧ running.roles.head?.map (·.ship.machine) = some .own ∧ Settled (hearing running)
      ∧ TakesFrame (hearing acting) 3 (.yield 5 9 6 50) ∧ acting.roles.tail.head?.map (·.ship.machine) = some .act
      ∧ Settled (hearing acting) ∧ TakesFrame (hearing reclaiming) 9 (.handback 2 7)
      ∧ TakesFrame (hearing reclaiming) 9 (.yield 2 7 9 50) ∧ TakesFrame (hearing reclaiming) 9 (.yield 2 4 6 50)
      ∧ (hearing reclaiming).ctl.station = some 6 ∧ newerThanKnown 4 (some 4) = false
      ∧ reclaiming.roles.head?.map (fun r => (r.ship.machine, r.ship.known)) = some (.reclaim, some 4)
      ∧ reclaiming.waitingTakeover 2 = none ∧ Settled (hearing reclaiming)
      ∧ TakesFrame (hearing (forcing .attempts)) 9 (.yield 2 5 9 50)
      ∧ (after [.yieldFrame 9 2 5 9 50] (hearing (forcing .attempts))).waitingTakeover 2 = some 6
      ∧ (after [.yieldFrame 9 2 4 6 50] (hearing (forcing .attempts))).waitingTakeover 2 = some 5
      ∧ Settled (hearing (forcing .attempts)) := by unfold TakesFrame Settled; decide +kernel

theorem witness_FrameReachesRoster :
    TakesFrame (hearing running) 9 (.demand []) ∧ TakesFrame (hearing running) 20 (.demand [])
      ∧ TakesFrame { hearing running with peers := { running.peers with isolated := true } } 20 (.demand [])
      ∧ (hearing (running.enterFaulted .duplicateStation 0)).receiving = true
      ∧ (running.enterFaulted .duplicateStation 0).ctl.state = .faulted := by unfold TakesFrame; decide +kernel

/-- Station 6 ISOLATED while its primary asks station 9 for its group: no HANDBACK waits, and the timers stand. -/
def isolatedAsking : State :=
  hearing ((displaced.modShip 0 (fun sh => { sh with machine := .reclaim, hold := .stopped })).isolate)

/-- A frame of a group without a role, at a new sender, ends the isolation. -/
theorem witness_FrameReachesRoster_end :
    TakesFrame isolatedAsking 20 (.handback 9 1) ∧ isolatedAsking.roleIndex 9 = none ∧ Settled isolatedAsking
      ∧ isolatedAsking.txq.length + 2 * isolatedAsking.roles.length ≤ 8 ∧ isolatedAsking.peers.isolated = true
      ∧ (isolatedAsking.roles.map (·.cfg.group)).Nodup
      ∧ isolatedAsking.roles.head?.map (fun r => (r.ship.machine, r.ship.wait, r.ship.forcing)) = some (.reclaim, .stopped, .clear)
      ∧ isolatedAsking.waits .handback 2 = false
      ∧ (hearing (running.isolate.finish)).roles.head?.map (fun r => (r.drive.state, r.drive.causes)) =
        some (.failsafe, ⟨true, false, false⟩)
      ∧ TakesFrame (hearing (running.isolate.finish)) 20 (.handback 9 1)
      ∧ (after [.yieldFrame 20 9 1 6 0] isolatedAsking).notices.queue.map (·.kind) =
        [.joined, .displaced, .isolated, .peerJoined, .rejoined]
      ∧ (after [.yieldFrame 20 9 1 6 0] isolatedAsking).roles.head?.map (·.ship.attempts) = some 1 := by
  unfold TakesFrame Settled; decide +kernel

theorem witness_FrameReachesRoster_judged : JudgedOk (hearing (running.isolate.finish)) := by
  apply judged_of <;> decide +kernel

theorem witness_ViewTakesStatus :
    TakesFrame (hearing running) 3 (.status (status2 4 .primary)) ∧ (hearing running).peers.views.length = 16
      ∧ (hearing running).view 2 = none ∧ (displaced.view 2).map (fun v => (v.epoch, v.stale)) = some (4, false)
      ∧ newer 4 3 = true ∧ newer 4 4 = false := by unfold TakesFrame; decide +kernel

theorem witness_AlertsTaken :
    TakesFrame (hearing running) 12 (.alert .critical 2 95) ∧ TakesFrame (hearing running) 12 (.alert .saturation 2 0)
      ∧ TakesFrame (hearing running) 12 (.alert .saturationClear 2 0) ∧ (hearing running).peers.isolated = false
      ∧ (hearing running).peers.roster.any (fun x => x.station == 12) = true
      ∧ (hearing (running.enterFaulted .duplicateStation 0)).receiving = true
      ∧ (Payload.alert .critical 2 95).wf = true := by unfold TakesFrame; decide +kernel

theorem witness_FrameNotDelivered :
    (hearing running).receiving = true ∧ stationOk 6 = true ∧ (hearing running).ctl.station = some 6 ∧ running.transmits = true
      ∧ (hearing (running.enterFaulted .duplicateStation 0)).ctl.station = some 6
      ∧ (hearing loading).receiving = true ∧ loading.ctl.state = .loading
      ∧ (stationOk 3 && (Payload.takeover 16 1).wf) = false := by decide +kernel

theorem witness_BadFrameCounted :
    (hearing running).receiving = true ∧ receptionCheck { wireOf 9 (.takeover 5 7) with crc := 0 } = none
      ∧ { wireOf 9 (.takeover 5 7) with crc := 0 }.crc ≠ crcOf (coveredBits { wireOf 9 (.takeover 5 7) with crc := 0 })
      ∧ [Pulse.startLow 20000, .startLow 28000, .cellLow 1000, .cellLow 3000, .cellLow 5000, .cellLow 7000, .firstEdge 30000,
          .firstEdge 34000, .nextEdge 7000, .nextEdge 9000].all (fun p => !pulseIsError p) = true
      ∧ [Pulse.startLow 19999, .startLow 28001, .cellLow 999, .cellLow 3001, .cellLow 4999, .cellLow 7001, .firstEdge 29999,
          .firstEdge 34001, .nextEdge 6999, .nextEdge 9001].all pulseIsError = true := by decide +kernel

/-- Station 12 in the saturation board's set of group 2. -/
def boarded : State := after [.alertFrame 12 .saturation 2 0] (hearing running)

theorem witness_PeerTimesRunOut :
    (displaced.view 2).map (·.stale) = some false ∧ (boarded.peers.board.getD 2 []).find? (fun m => m.station == 12) = some ⟨12, 17000⟩
      ∧ (boarded.peers.roster.find? (fun x => x.station == 12)).map (·.silent) = some false := by decide +kernel

theorem witness_IsolationBegins :
    running.peers.linkTimer = .running 5000 ∧ running.solitary = false ∧ running.ctl.state = .running
      ∧ (running.roles.map (·.cfg.group)).Nodup ∧ running.txq.length + running.roles.length ≤ 8
      ∧ ({ running with timing := some { timing with solitary := true } }).solitary = true
      ∧ claimWaiting.onWireFor .takeover 5 = false ∧ claiming.onWireFor .takeover 5 = true
      ∧ claimWaiting.peers.linkTimer = .running 5000 := by decide +kernel

theorem witness_LineEvents :
    running.ownOnWire = false ∧ running.started = true ∧ running.line.state = .notIdle ∧ running.transmits = true
      ∧ running.txq.length = 1 ∧ (running.setLine .stuck).line.state = .stuck ∧ (running.setLine .idle).line.state = .idle
      ∧ State.reset.started = false ∧ State.reset.ownOnWire = false := by decide +kernel

theorem witness_ContentionAndOverlap :
    claiming.ownFrame.map (·.overlaps) = some 0
      ∧ (claiming.ownFrame.map (fun q => (claiming.ownCells q.payload).take 7)) = some [false, true, false, false, true, true, false]
      ∧ (claiming.ownFrame.map (fun q => (claiming.ownCells q.payload).length)) = some 55
      ∧ ({ claiming with txq := claiming.txq.map (fun e => { e with overlaps := 2 }) } : State).ownFrame.map (·.overlaps) = some 2
      ∧ pulseIsError (.cellLow 4000) = true := by decide +kernel

/-- A contender drives its start mark and follows earlier edges in the window; one before the window ends its frame (R125). -/
theorem test_driven_lows :
    drivenLows 500 [true, false, true] [] = [(500, 24000), (32000, 2000), (40000, 6000), (48000, 2000)]
      ∧ drivenLows 0 [true, false, true] [some 31000, none, some 7000] = [(0, 24000), (31000, 2000), (39000, 6000), (46000, 2000)]
      ∧ drivenLows 0 [true, false, true] [some 33000, some 6999] = [(0, 24000), (32000, 2000)]
      ∧ startMarkLow [] = 24000 ∧ startMarkLow [1000, 4000, 500] = 28000 := by decide

/-- The ends of the windows, and a start mark at the end of what is accepted and beyond it. -/
theorem witness_PrecedenceDecides_edges :
    cellEdge true (some 30000) = some 30000 ∧ cellEdge true (some 31999) = some 31999 ∧ cellEdge true (some 32000) = some 32000
      ∧ cellEdge true (some 29999) = none ∧ cellEdge false (some 7000) = some 7000 ∧ cellEdge false (some 7999) = some 7999
      ∧ cellEdge false (some 8000) = some 8000 ∧ cellEdge false (some 6999) = none
      ∧ pulseIsError (.startLow (startMarkLow [4000])) = false ∧ pulseIsError (.startLow (startMarkLow [4001])) = true := by decide

theorem witness_PrecedenceDecides :
    lostCell (precedenceCells 2 6) (precedenceCells 1 9) = some 1 ∧ lostCell (precedenceCells 1 9) (precedenceCells 1 6) = some 4
      ∧ lostCell (precedenceCells 1 6) (precedenceCells 1 9) = none ∧ lostCell (precedenceCells 1 6) (precedenceCells 1 6) = none := by
  decide +kernel

theorem witness_QueueTakesFrame : QueueOk { running with txq := [waiting (.demand []) 0] } := by
  apply queue_of <;> decide +kernel

/-- Eight HANDBACK frames wait: an ALERT evicts the last, a DEMAND is discarded. -/
def full : State :=
  { running with txq := (List.range 8).map (fun i => waiting (.handback i 1) i), stamp := 8 }

theorem witness_QueueTakesFrame_full : QueueOk full := by
  apply queue_of <;> decide +kernel

theorem witness_QueueTakesFrame_clauses :
    demandWaiting.demandWaits = true ∧ running.txq.map (fun e => e.isFor .status 2) = [true] ∧ full.txq.length = 8
      ∧ full.line.state ≠ .idle ∧ (∀ e ∈ full.txq, payloadClass e.payload ≤ payloadClass (.demand []))
      ∧ (∀ e ∈ full.txq, payloadClass (.alert .critical 2 95) < payloadClass e.payload) ∧ State.reset.transmits = false := by
  decide +kernel

/-- The clauses on a discard: a TAKEOVER of a claiming standby evicted by an ALERT, and a HANDBACK of a primary refused. -/
theorem witness_QueueTakesFrame_discard :
    let evicting := { claimWaiting with
      txq := (List.range 7).map (fun i => waiting (.handback (i + 6) 1) i) ++ [waiting (.takeover 5 1) 7], stamp := 8 }
    let refusing := { reclaiming with txq := full.txq, stamp := 8 }
    (evicting.roles.map (·.cfg.group)).Nodup ∧ (refusing.roles.map (·.cfg.group)).Nodup ∧ evicting.transmits = true
      ∧ (evicting.offer (.alert .critical 0 95)).roles.map (fun r => (r.ship.machine, r.ship.silence)) =
        [(.own, .stopped), (.watch, .running 6000)]
      ∧ (refusing.offer (.handback 2 4)).roles.map (fun r => (r.ship.machine, r.ship.wait)) =
        [(.reclaim, .running 3000), (.watch, .stopped)] := by decide +kernel

theorem witness_QueueTakesFrame_discard_queue :
    QueueOk { claimWaiting with
      txq := (List.range 7).map (fun i => waiting (.handback (i + 6) 1) i) ++ [waiting (.takeover 5 1) 7], stamp := 8 } := by
  apply queue_of <;> decide +kernel

theorem witness_ViewsSelected :
    running.started = true ∧ (7 : Byte).toNat ≤ 7 ∧ 7 < (8 : Byte).toNat ∧ (5 : Byte).toNat ≤ 5 ∧ 5 < (6 : Byte).toNat
      ∧ (1 : Byte).toNat < running.roles.length ∧ running.roles.length ≤ (2 : Byte).toNat ∧ (15 : Byte).toNat ≤ 15
      ∧ 15 < (16 : Byte).toNat ∧ running.ctl.offset = some 2 ∧ State.reset.started = false ∧ running.port.held = []
      ∧ (newTransaction running).roles.length = 2 ∧ running.ctl.offset.map (0x36 + ·) = some (0x38 : BitVec 7).toNat
      ∧ (after [.writeRefused 0x38 [0x04] false] running).port.held = [(0x04, true)]
      ∧ (after [.writeRefused 0x38 [0x04, 2] false] running).port.held = [(0x04, true), (2, false)]
      ∧ (after [.writeRefused 0x38 [0x0A] false, .readTransaction 0x38 14] running).port.selection = .notice := by decide +kernel

theorem witness_ReadReturns :
    running.ctl.offset.map (0x36 + ·) = some (0x38 : BitVec 7).toNat ∧ running.started = true
      ∧ running.ctl.offset.map (0x36 + ·) ≠ some (0x36 : BitVec 7).toNat := by decide +kernel

/-- Station 6 with a negative reading, a claim, a roster, a board member and a critical peer. -/
def busy : State :=
  (after [.alertFrame 9 .critical 2 (-2)] (hearing (after [.alertFrame 12 .saturation 2 0]
    (hearing (after [.roundComplete [.value (-10)]] claimed))))).modTemp 0 (fun c => { c with reading := some (-12) })

/-- The fields of Table 12-4 give the views' bytes, on a station with something in every view. -/
theorem test_views :
    [View.station, .channel 0, .channel 1, .fan 0, .role 0, .role 1, .claims 1, .groupview 2, .roster, .demand, .satboard,
      .notice, .counts].all (fun v => busy.viewBytes v == laidOut (viewFields busy v)) = true
      ∧ displaced.viewBytes (.groupview 2) = laidOut (viewFields displaced (.groupview 2))
      ∧ noticeBytes ⟨1, 2, .rejoined, 9, some 65537⟩ = [0, 1, 0, 2, 26, 9, 1, 0, 1] := by decide +kernel

theorem witness_NoticeTaken :
    running.started = true ∧ running.notices.queue.length = 1 ∧ loading.notices.queue = [] ∧ loading.started = true := by decide +kernel

theorem witness_NoticeTaken_empty : NoticesOk loading := by
  refine ⟨by decide +kernel, by decide +kernel, by decide +kernel, ?_⟩
  have e : loading.notices.queue = [] := by decide +kernel
  intro i n h; rw [e] at h; simp at h

end Sys2Proof.Tests
end

section
/-! SUPPORT. What the claim tables and the targets are made of, and the operations that leave that as it is. -/

namespace Sys2Proof.Machine

/-! ### The claim side of a role -/

/-- What the claim tables and the targets are made of: a role's configuration, its claim table, and the target its drive holds. -/
def Role.claimSide (role : Role) : RoleCfg × ClaimTable × Nat := (role.cfg, role.claims, role.drive.target)

@[simp] theorem Role.claimSide_eq_iff (a b : Role) :
    a.claimSide = b.claimSide ↔ a.cfg = b.cfg ∧ a.claims = b.claims ∧ a.drive.target = b.drive.target := by
  simp [Role.claimSide]

/-- Changing one element in a way that a projection does not see leaves the projections of the list. -/
theorem map_modify_of_same {α β : Type} (g : α → β) (f : α → α) (l : List α) (i : Nat) (h : ∀ x, g (f x) = g x) :
    (l.modify i f).map g = l.map g := by
  apply List.ext_getElem? fun j => ?_
  simp only [List.getElem?_map, List.getElem?_modify]
  split <;> cases l[j]? <;> simp [h]

@[simp] theorem map_claimSide_modify (roles : List Role) (r : Nat) (f : Role → Role)
    (h : ∀ role, (f role).claimSide = role.claimSide) : (roles.modify r f).map Role.claimSide = roles.map Role.claimSide :=
  map_modify_of_same _ f roles r h

/-! ### Drive records keep their target -/

@[simp] theorem Drive.setCauses_target (now : Nat) (cfg : RoleCfg) (c : Causes) (d : Drive) :
    (d.setCauses now cfg c).target = d.target := by
  simp only [Drive.setCauses]
  split
  · rfl
  · repeat' split
    all_goals rfl

@[simp] theorem Drive.takeCondition_target (now : Nat) (cfg : RoleCfg) (c : Condition) (d : Drive) :
    (d.takeCondition now cfg c).target = d.target := by
  simp [Drive.takeCondition]

@[simp] theorem Drive.startActing_target (now : Nat) (cfg : RoleCfg) (level : Nat) (d : Drive) :
    (d.startActing now cfg level).target = d.target := by
  unfold Drive.startActing; split <;> rfl

@[simp] theorem Drive.takeTarget_target (now : Nat) (cfg : RoleCfg) (target : Nat) (d : Drive) :
    (d.takeTarget now cfg target).target = target := by
  simp only [Drive.takeTarget]
  split
  · rfl
  · rfl
  · rfl
  · rfl
  · split <;> rfl

namespace State

/-! ### Operations that leave the claim sides -/

/-- What every step of a run over the roles leaves of the claim sides, the run leaves. -/
theorem forRoles_claimSides (s : State) (f : State → Nat → State)
    (h : ∀ s r, (f s r).roles.map Role.claimSide = s.roles.map Role.claimSide) :
    (s.forRoles f).roles.map Role.claimSide = s.roles.map Role.claimSide :=
  forRoles_same (fun s => s.roles.map Role.claimSide) f s h

/-- What every step of a run over a list leaves of the claim sides, the run leaves. -/
theorem foldl_claimSides {β : Type} (s : State) (f : State → β → State) (xs : List β)
    (h : ∀ s x, (f s x).roles.map Role.claimSide = s.roles.map Role.claimSide) :
    (xs.foldl f s).roles.map Role.claimSide = s.roles.map Role.claimSide :=
  foldl_same (fun s => s.roles.map Role.claimSide) f xs s h

@[simp] theorem reportDiscard_claimSides (s : State) (p : Payload) :
    (s.reportDiscard p).roles.map Role.claimSide = s.roles.map Role.claimSide := by
  unfold reportDiscard
  repeat' split
  all_goals simp

@[simp] theorem discard_claimSides (s : State) (p : Payload) :
    (s.discard p).roles.map Role.claimSide = s.roles.map Role.claimSide := by
  simp [discard]

@[simp] theorem offer_claimSides (s : State) (p : Payload) :
    (s.offer p).roles.map Role.claimSide = s.roles.map Role.claimSide := by
  unfold offer
  repeat' split
  all_goals simp

@[simp] theorem judgeGroup_claimSides (s : State) (r : Nat) :
    (s.judgeGroup r).roles.map Role.claimSide = s.roles.map Role.claimSide := by
  unfold judgeGroup
  dsimp only
  repeat' split
  all_goals simp

theorem driveEvent_claimSides (s : State) (r : Nat) (f : RoleCfg → Drive → Drive)
    (h : ∀ cfg d, (f cfg d).target = d.target) :
    (s.driveEvent r f).roles.map Role.claimSide = s.roles.map Role.claimSide := by
  unfold driveEvent
  split <;> simp [h]

@[simp] theorem startActing_claimSides (s : State) (r level : Nat) :
    (s.startActing r level).roles.map Role.claimSide = s.roles.map Role.claimSide :=
  driveEvent_claimSides s r _ fun _ _ => Drive.startActing_target _ _ _ _

@[simp] theorem stopActing_claimSides (s : State) (r : Nat) :
    (s.stopActing r).roles.map Role.claimSide = s.roles.map Role.claimSide :=
  driveEvent_claimSides s r _ fun _ _ => rfl

@[simp] theorem setCausesAll_claimSides (s : State) (f : Causes → Causes) :
    (s.setCausesAll f).roles.map Role.claimSide = s.roles.map Role.claimSide :=
  forRoles_claimSides s _ fun _ _ => driveEvent_claimSides _ _ _ fun _ _ => Drive.setCauses_target _ _ _ _

@[simp] theorem queueStatus_claimSides (s : State) (r : Nat) :
    (s.queueStatus r).roles.map Role.claimSide = s.roles.map Role.claimSide := by
  simp [queueStatus]

@[simp] theorem flushRole_claimSides (s : State) (r : Nat) :
    (s.flushRole r).roles.map Role.claimSide = s.roles.map Role.claimSide := by
  unfold flushRole
  repeat' split
  all_goals simp

@[simp] theorem finish_claimSides (s : State) : s.finish.roles.map Role.claimSide = s.roles.map Role.claimSide :=
  forRoles_claimSides s _ flushRole_claimSides

/-! #### Drive and Temperature Unit -/

@[simp] theorem measureFan_claimSides (s : State) (c : Nat) (f : FanChannel) (edges : List Nat) :
    (s.measureFan c f edges).roles.map Role.claimSide = s.roles.map Role.claimSide := by
  unfold measureFan
  dsimp only
  repeat' split
  all_goals simp

@[simp] theorem enterCritical_claimSides (s : State) (i : Nat) (v : Option Int) :
    (s.enterCritical i v).roles.map Role.claimSide = s.roles.map Role.claimSide := by
  unfold enterCritical
  dsimp only
  split <;> simp

@[simp] theorem takeChannel_claimSides (ms : List Measurement) (s : State) (i : Nat) :
    (s.takeChannel ms i).roles.map Role.claimSide = s.roles.map Role.claimSide := by
  unfold takeChannel
  dsimp only
  repeat' split
  all_goals simp

@[simp] theorem takeRound_claimSides (s : State) (ms : List Measurement) :
    (s.takeRound ms).roles.map Role.claimSide = s.roles.map Role.claimSide :=
  foldl_claimSides s _ _ (takeChannel_claimSides ms)

/-! #### Demand Unit -/

@[simp] theorem postAtComputation_claimSides (s : State) :
    s.postAtComputation.roles.map Role.claimSide = s.roles.map Role.claimSide := by
  unfold postAtComputation
  repeat' split
  all_goals simp

@[simp] theorem demandTransmitted_claimSides (s : State) (items : List DemandItem) :
    (s.demandTransmitted items).roles.map Role.claimSide = s.roles.map Role.claimSide := by
  unfold demandTransmitted
  dsimp only
  split <;> simp

@[simp] theorem enterSaturated_claimSides (s : State) (i : Nat) (d : DemandEntry) :
    (s.enterSaturated i d).roles.map Role.claimSide = s.roles.map Role.claimSide := by
  unfold enterSaturated
  dsimp only
  split <;> simp

@[simp] theorem leaveSaturated_claimSides (s : State) (i : Nat) (d : DemandEntry) :
    (s.leaveSaturated i d).roles.map Role.claimSide = s.roles.map Role.claimSide := by
  unfold leaveSaturated
  dsimp only
  split <;> simp

@[simp] theorem takeMonitor_claimSides (s : State) (i : Nat) :
    (s.takeMonitor i).roles.map Role.claimSide = s.roles.map Role.claimSide := by
  unfold takeMonitor
  repeat' split
  all_goals simp

@[simp] theorem takeMonitors_claimSides (s : State) :
    s.takeMonitors.roles.map Role.claimSide = s.roles.map Role.claimSide :=
  foldl_claimSides s _ _ takeMonitor_claimSides

/-! #### Drivership Unit -/

@[simp] theorem queueTakeover_claimSides (s : State) (r : Nat) :
    (s.queueTakeover r).roles.map Role.claimSide = s.roles.map Role.claimSide := by
  unfold queueTakeover
  split <;> simp

@[simp] theorem queueHandback_claimSides (s : State) (r : Nat) :
    (s.queueHandback r).roles.map Role.claimSide = s.roles.map Role.claimSide := by
  unfold queueHandback
  repeat' split
  all_goals simp

@[simp] theorem forceTakeover_claimSides (s : State) (r : Nat) (mark : Forcing) :
    (s.forceTakeover r mark).roles.map Role.claimSide = s.roles.map Role.claimSide := by
  simp [forceTakeover]

@[simp] theorem claimGroup_claimSides (s : State) (r : Nat) :
    (s.claimGroup r).roles.map Role.claimSide = s.roles.map Role.claimSide := by
  simp [claimGroup]

@[simp] theorem enterWatch_claimSides (s : State) (r : Nat) :
    (s.enterWatch r).roles.map Role.claimSide = s.roles.map Role.claimSide := by
  simp [enterWatch]

@[simp] theorem loseConflict_claimSides (s : State) (r : Nat) (role : Role) (n : Nat) (e : Epoch) :
    (s.loseConflict r role n e).roles.map Role.claimSide = s.roles.map Role.claimSide := by
  unfold loseConflict
  split <;> simp

@[simp] theorem takeConflict_claimSides (s : State) (r : Nat) (role : Role) (n : Nat) (e : Epoch) (k : RoleKind) :
    (s.takeConflict r role n e k).roles.map Role.claimSide = s.roles.map Role.claimSide := by
  unfold takeConflict
  dsimp only
  repeat' split
  all_goals simp

@[simp] theorem hearOther_claimSides (s : State) (r : Nat) (role : Role) (n : Nat) (e : Epoch) :
    (s.hearOther r role n e).roles.map Role.claimSide = s.roles.map Role.claimSide := by
  unfold hearOther
  dsimp only
  repeat' split
  all_goals simp

@[simp] theorem acceptYield_claimSides (s : State) (r : Nat) (role : Role) (e : Epoch) (level : Nat) :
    (s.acceptYield r role e level).roles.map Role.claimSide = s.roles.map Role.claimSide := by
  simp [acceptYield]

@[simp] theorem answerHandback_claimSides (s : State) (role : Role) (n : Nat) (e : Epoch) :
    (s.answerHandback role n e).roles.map Role.claimSide = s.roles.map Role.claimSide := by
  unfold answerHandback
  dsimp only
  split <;> simp

@[simp] theorem roleFrame_claimSides (s : State) (r : Nat) (role : Role) (n : Nat) (e : Epoch) (p : Payload) :
    (s.roleFrame r role n e p).roles.map Role.claimSide = s.roles.map Role.claimSide := by
  unfold roleFrame
  repeat' split
  all_goals simp

@[simp] theorem checkTakeover_claimSides (s : State) (r : Nat) :
    (s.checkTakeover r).roles.map Role.claimSide = s.roles.map Role.claimSide := by
  unfold checkTakeover
  repeat' split
  all_goals simp

@[simp] theorem driveshipTakes_claimSides (s : State) (n : Nat) (p : Payload) :
    (s.driveshipTakes n p).roles.map Role.claimSide = s.roles.map Role.claimSide := by
  unfold driveshipTakes
  repeat' split
  all_goals simp

@[simp] theorem takeoverTransmitted_claimSides (s : State) (g : Nat) (e : Epoch) :
    (s.takeoverTransmitted g e).roles.map Role.claimSide = s.roles.map Role.claimSide := by
  unfold takeoverTransmitted
  repeat' split
  all_goals simp

@[simp] theorem handbackTransmitted_claimSides (s : State) (g : Nat) :
    (s.handbackTransmitted g).roles.map Role.claimSide = s.roles.map Role.claimSide := by
  unfold handbackTransmitted
  split <;> simp

@[simp] theorem yieldTransmitted_claimSides (s : State) (g : Nat) (e : Epoch) :
    (s.yieldTransmitted g e).roles.map Role.claimSide = s.roles.map Role.claimSide := by
  unfold yieldTransmitted
  repeat' split
  all_goals simp

@[simp] theorem reportTransmitted_claimSides (s : State) (p : Payload) :
    (s.reportTransmitted p).roles.map Role.claimSide = s.roles.map Role.claimSide := by
  unfold reportTransmitted
  split <;> simp

@[simp] theorem roleRuns_claimSides (s : State) (r : Nat) :
    (s.roleRuns r).roles.map Role.claimSide = s.roles.map Role.claimSide := by
  unfold roleRuns
  repeat' split
  all_goals simp

@[simp] theorem roleIsolated_claimSides (s : State) (r : Nat) :
    (s.roleIsolated r).roles.map Role.claimSide = s.roles.map Role.claimSide := by
  unfold roleIsolated
  dsimp only
  repeat' split
  all_goals simp

@[simp] theorem roleRejoined_claimSides (s : State) (r : Nat) :
    (s.roleRejoined r).roles.map Role.claimSide = s.roles.map Role.claimSide := by
  unfold roleRejoined
  dsimp only
  repeat' split
  all_goals simp

/-! #### Peer Unit -/

@[simp] theorem isolate_claimSides (s : State) : s.isolate.roles.map Role.claimSide = s.roles.map Role.claimSide := by
  simp [isolate, forRoles_claimSides]

@[simp] theorem rejoin_claimSides (s : State) (n : Nat) :
    (s.rejoin n).roles.map Role.claimSide = s.roles.map Role.claimSide := by
  simp [rejoin, forRoles_claimSides]

@[simp] theorem linkTakes_claimSides (s : State) (n : Nat) :
    (s.linkTakes n).roles.map Role.claimSide = s.roles.map Role.claimSide := by
  unfold linkTakes
  repeat' split
  all_goals simp

@[simp] theorem peerTakes_claimSides (s : State) (n : Nat) (p : Payload) :
    (s.peerTakes n p).roles.map Role.claimSide = s.roles.map Role.claimSide := by
  simp [peerTakes]

end State
end Sys2Proof.Machine
end

section
/-! SUPPORT. What the operations of the Claim Unit do to a table, to the notices, and to the targets (01). -/

namespace Sys2Proof.Machine

/-! ### Lists -/

/-- Changing one element in two ways that agree on it. -/
theorem modify_congr_get {α : Type} (l : List α) (i : Nat) (f g : α → α) (h : ∀ x, l[i]? = some x → f x = g x) :
    l.modify i f = l.modify i g := by
  apply List.ext_getElem? fun j => ?_
  simp only [List.getElem?_modify]
  split
  · next hij => subst hij; cases hx : l[i]? <;> simp [h _, hx]
  · rfl

/-- Changing one element into itself. -/
theorem modify_eq_of_get {α : Type} (l : List α) (i : Nat) (f : α → α) (h : ∀ x, l[i]? = some x → f x = x) :
    l.modify i f = l := by
  rw [modify_congr_get l i f id (fun x hx => h x hx), List.modify_id]

/-- The sum of a measure over a list after one element has changed. -/
theorem sum_map_modify {α : Type} (m : α → Nat) (f : α → α) (l : List α) (i : Nat) (x : α) (h : l[i]? = some x) :
    ((l.modify i f).map m).sum + m x = (l.map m).sum + m (f x) := by
  induction l generalizing i with
  | nil => simp at h
  | cons y ys ih =>
    cases i with
    | zero => simp at h; subst h; simp; omega
    | succ i => simp only [List.getElem?_cons_succ] at h; have := ih i h; simp [List.modify_succ_cons]; omega

/-! ### The notices of an event, one after another -/

/-- Notices of one time, pushed in turn. -/
def Notices.pushAll (q : Notices) (time : Nat) (xs : List (NoticeKind × Nat × Int)) : Notices :=
  xs.foldl (fun q x => q.push time x.1 x.2.1 (some x.2.2)) q

@[simp] theorem Notices.pushAll_nil (q : Notices) (time : Nat) : q.pushAll time [] = q := rfl

@[simp] theorem Notices.pushAll_singleton (q : Notices) (time : Nat) (x : NoticeKind × Nat × Int) :
    q.pushAll time [x] = q.push time x.1 x.2.1 (some x.2.2) := rfl

theorem Notices.pushAll_append (q : Notices) (time : Nat) (xs ys : List (NoticeKind × Nat × Int)) :
    q.pushAll time (xs ++ ys) = (q.pushAll time xs).pushAll time ys := List.foldl_append

/-! ### One table (R9 to R12, R17, R18) -/

/-- A table after the claim of a station has ended by expiry or by withdrawal (R10, R12, R15). -/
def ClaimTable.ended (t : ClaimTable) (n : Nat) : ClaimTable :=
  match t.find n with
  | none => t
  | some e =>
    match e.kind, e.live with
    | .ordinary, _ => t.remove n
    | .required, some _ => t.update n (fun e => { e with live := none, lossReported := e.lossReported || t.graceEnded })
    | .required, none => t
    | .own, _ => t

/-- A table after a listed entry has refreshed a station's claim (R9, R15). -/
def ClaimTable.refreshed (t : ClaimTable) (now n : Nat) (item : DemandItem) (kind : ClaimKind) : ClaimTable :=
  match kind with
  | .own => t
  | .ordinary => t.update n (fun e => { e with live := some ⟨item.level, item.reason, now⟩ })
  | .required => t.update n (fun e => { e with live := some ⟨item.level, item.reason, now⟩, lossReported := false })

/-- A table after a claim has folded into the unrecorded peak (R18). -/
def ClaimTable.folded (t : ClaimTable) (now claimMs level : Nat) : ClaimTable :=
  if level = 0 then t else { t with peak := max t.peak level, peakTimer := .running (now + claimMs) }

/-- A table without room after a new claim (R17, R18). -/
def ClaimTable.crowded (t : ClaimTable) (now n claimMs : Nat) (item : DemandItem) : ClaimTable :=
  match t.evicted item.level with
  | some e => (t.remove e.station).append now n item
  | none => t.folded now claimMs item.level

/-- A table after a new claim, in a pool of so many entries (R11, R17, R18). -/
def ClaimTable.claimed (t : ClaimTable) (now n pool claimMs : Nat) (item : DemandItem) : ClaimTable :=
  if pool < 48 ∧ t.entries.length < 16 then t.append now n item else t.crowded now n claimMs item

/-- A table after one listed entry of a DEMAND (R8). -/
def ClaimTable.taken (t : ClaimTable) (now n pool claimMs : Nat) (item : DemandItem) : ClaimTable :=
  match t.find n with
  | some e => t.refreshed now n item e.kind
  | none => t.claimed now n pool claimMs item

/-- A role whose claim table has changed. -/
def Role.withClaims (role : Role) (t : ClaimTable) : Role := { role with claims := t }

@[simp] theorem Role.withClaims_cfg (role : Role) (t : ClaimTable) : (role.withClaims t).cfg = role.cfg := rfl
@[simp] theorem Role.withClaims_claims (role : Role) (t : ClaimTable) : (role.withClaims t).claims = t := rfl
@[simp] theorem Role.withClaims_drive (role : Role) (t : ClaimTable) : (role.withClaims t).drive = role.drive := rfl
@[simp] theorem Role.withClaims_ship (role : Role) (t : ClaimTable) : (role.withClaims t).ship = role.ship := rfl
@[simp] theorem Role.withClaims_self (role : Role) : role.withClaims role.claims = role := rfl

/-- The notice of a claim's end: CONTRIBUTOR_LOST of a LIVE contributor after the join grace (R15). -/
def Role.lossNotice (role : Role) (n : Nat) : List (NoticeKind × Nat × Int) :=
  if (role.claims.find n).any (fun e => e.kind == .required && e.live.isSome && role.claims.graceEnded)
  then [(.contributorLost, role.cfg.group, (n : Int))] else []

namespace State

/-- The state after a role's table has become another one, and notices have been posted. -/
def withTable (s : State) (r : Nat) (t : ClaimTable) (notes : List (NoticeKind × Nat × Int)) : State :=
  { s with roles := s.roles.modify r (·.withClaims t), notices := s.notices.pushAll s.timeBase notes }

theorem withTable_self (s : State) (r : Nat) (role : Role) (h : s.roles[r]? = some role) :
    s.withTable r role.claims [] = s := by
  unfold withTable
  rw [modify_eq_of_get]
  · rfl
  · intro q hq
    obtain rfl : role = q := Option.some.inj (h.symm.trans hq)
    rfl

theorem modClaims_eq (s : State) (r : Nat) (role : Role) (f : ClaimTable → ClaimTable) (h : s.roles[r]? = some role) :
    s.modClaims r f = s.withTable r (f role.claims) [] := by
  unfold withTable modClaims modRole
  rw [modify_congr_get s.roles r _ (·.withClaims (f role.claims))]
  · rfl
  · intro q hq
    obtain rfl : role = q := Option.some.inj (h.symm.trans hq)
    rfl

theorem withTable_post (s : State) (r : Nat) (t : ClaimTable) (kind : NoticeKind) (subject : Nat) (v : Int) :
    (s.withTable r t []).post kind subject (some v) = s.withTable r t [(kind, subject, v)] := rfl

/-- The end of a claim changes the role's table, and posts the loss of a contributor. -/
theorem endClaim_eq (s : State) (r n : Nat) (role : Role) (h : s.roles[r]? = some role) :
    s.endClaim r n = s.withTable r (role.claims.ended n) (role.lossNotice n) := by
  unfold endClaim ClaimTable.ended Role.lossNotice
  simp only [h]
  cases hf : role.claims.find n with
  | none => simpa using (withTable_self s r role h).symm
  | some e =>
    cases hk : e.kind with
    | own => simpa [hk] using (withTable_self s r role h).symm
    | ordinary => simp [hk, modClaims_eq s r role _ h]
    | required =>
      cases hv : e.live with
      | none => simpa [hk, hv] using (withTable_self s r role h).symm
      | some l => cases hg : role.claims.graceEnded <;> simp [hk, hv, modClaims_eq s r role _ h, withTable_post]

/-- A refresh changes the role's table, and posts the return of a contributor. -/
theorem refreshClaim_eq (s : State) (r n : Nat) (role : Role) (item : DemandItem) (e : ClaimEntry) (h : s.roles[r]? = some role) :
    s.refreshClaim r n item e = s.withTable r (role.claims.refreshed s.now n item e.kind)
      (if e.kind = .required ∧ e.lossReported = true then [(.contributorBack, item.group, (n : Int))] else []) := by
  unfold refreshClaim ClaimTable.refreshed
  cases hk : e.kind with
  | own => simpa using (withTable_self s r role h).symm
  | ordinary => simp [modClaims_eq s r role _ h]
  | required => cases hl : e.lossReported <;> simp [modClaims_eq s r role _ h, withTable_post]

/-- A claim that folds into the unrecorded peak changes the role's table, and TABLE_FULL tells of a new peak (R18). -/
theorem foldPeak_eq (s : State) (r level : Nat) (role : Role) (h : s.roles[r]? = some role) :
    s.foldPeak r role level = s.withTable r (role.claims.folded s.now role.cfg.claimMs level)
      (if 0 < level ∧ role.claims.peak = 0 then [(.tableFull, role.cfg.group, (level : Int))] else []) := by
  unfold foldPeak ClaimTable.folded
  by_cases hz : level = 0
  · simpa [hz] using (withTable_self s r role h).symm
  · by_cases hp : role.claims.peak = 0 <;> simp [hz, hp, Nat.pos_of_ne_zero hz, modClaims_eq s r role _ h, withTable_post]

end State

/-- The candidate that gives way exists exactly where some entry is a candidate (R17). -/
theorem ClaimTable.evicted_eq_none (t : ClaimTable) (level : Nat) :
    t.evicted level = none ↔ t.entries.any (evictable level) = false := by
  have hp : (fun e : ClaimEntry => e.kind == .ordinary && decide ((e.live.map (·.level)).getD 0 < level)) = evictable level := rfl
  unfold ClaimTable.evicted
  rw [hp]
  split
  · next h => simpa [List.filter_eq_nil_iff] using h
  · next e es h =>
    have he : e ∈ t.entries.filter (evictable level) := by rw [h]; exact List.mem_cons_self
    rw [List.mem_filter] at he
    simp only [reduceCtorEq, List.any_eq_false, false_iff, not_forall]
    exact ⟨e, he.1, by simpa using he.2⟩

namespace State

/-- A new claim changes the role's table, and TABLE_FULL tells of a new unrecorded peak (R11, R17, R18). -/
theorem newClaim_eq (s : State) (r n : Nat) (role : Role) (item : DemandItem) (h : s.roles[r]? = some role) :
    s.newClaim r n role item = s.withTable r (role.claims.claimed s.now n s.pool role.cfg.claimMs item)
      (if roomFor s.pool role = false ∧ role.claims.entries.any (evictable item.level) = false ∧ 0 < item.level
          ∧ role.claims.peak = 0 then [(.tableFull, role.cfg.group, (item.level : Int))] else []) := by
  unfold newClaim ClaimTable.claimed ClaimTable.crowded
  by_cases hroom : s.pool < 48 ∧ role.claims.entries.length < 16
  · have hr : roomFor s.pool role = true := by simpa [roomFor] using hroom
    simp only [if_pos hroom, hr, Bool.true_eq_false, false_and, if_false]
    exact modClaims_eq s r role _ h
  · have hr : roomFor s.pool role = false := by simpa [roomFor] using hroom
    simp only [if_neg hroom, hr, true_and]
    cases he : role.claims.evicted item.level with
    | some e =>
      have hc : ¬(role.claims.entries.any (evictable item.level) = false ∧ 0 < item.level ∧ role.claims.peak = 0) := fun hc => by
        rw [(ClaimTable.evicted_eq_none _ _).mpr hc.1] at he
        exact absurd he (by simp)
      rw [if_neg hc]
      exact modClaims_eq s r role _ h
    | none =>
      simp only [(ClaimTable.evicted_eq_none _ _).mp he, true_and]
      exact foldPeak_eq s r item.level role h

/-- The role whose group a listed entry names stands at the number that the group gives (R8). -/
theorem listedRole_eq (s : State) (item : DemandItem) :
    listedRole s item = (s.roleIndex item.group).bind (fun r => s.roles[r]?) :=
  List.find?_eq_bind_findIdx?_getElem?

/-- A listed entry for whose group the station holds no role is passed over (R7). -/
theorem takeItem_unlisted (s : State) (n : Nat) (item : DemandItem) (h : listedRole s item = none) :
    s.takeItem n item = s := by
  unfold takeItem
  rw [listedRole_eq] at h
  cases hi : s.roleIndex item.group with
  | none => rfl
  | some r => rw [hi, Option.bind_some] at h; simp [h]

/-- A listed entry changes the table of the role whose group it names, and posts its notice (R8). -/
theorem takeItem_listed (s : State) (n : Nat) (item : DemandItem) (role : Role) (h : listedRole s item = some role) :
    ∃ r, s.roles[r]? = some role ∧ role.cfg.group = item.group
      ∧ s.takeItem n item = s.withTable r (role.claims.taken s.now n s.pool role.cfg.claimMs item)
          (itemNotice s n s.pool item).toList := by
  have hg : role.cfg.group = item.group := by simpa using List.find?_some h
  have hl := h
  rw [listedRole_eq] at h
  cases hi : s.roleIndex item.group with
  | none => simp [hi] at h
  | some r =>
    rw [hi, Option.bind_some] at h
    refine ⟨r, h, hg, ?_⟩
    unfold takeItem ClaimTable.taken itemNotice
    simp only [hi, h, hl]
    cases role.claims.find n with
    | some e =>
      dsimp only
      rw [refreshClaim_eq s r n role item e h]
      split <;> rfl
    | none =>
      dsimp only
      rw [newClaim_eq s r n role item h, hg]
      split <;> rfl

end State

/-! ### The room of a table (R4) -/

/-- A table within its room: 16 entries at most, and no station twice (R4). -/
def ClaimTable.Fits (t : ClaimTable) : Prop := t.entries.length ≤ 16 ∧ (t.entries.map (·.station)).Nodup

theorem ClaimTable.update_length (t : ClaimTable) (n : Nat) (f : ClaimEntry → ClaimEntry) :
    (t.update n f).entries.length = t.entries.length := List.length_map _

/-- A change of an entry in place that keeps its station keeps the stations of the table. -/
theorem ClaimTable.update_stations (t : ClaimTable) (n : Nat) (f : ClaimEntry → ClaimEntry) (hf : ∀ e, (f e).station = e.station) :
    (t.update n f).entries.map (·.station) = t.entries.map (·.station) := by
  simp only [ClaimTable.update, List.map_map]
  apply List.map_congr_left
  intro e _
  simp only [Function.comp]
  split
  · exact hf e
  · rfl

/-- Where no station stands twice, the removal of a station's entry takes one entry away. -/
theorem ClaimTable.remove_length (t : ClaimTable) (e : ClaimEntry) (he : e ∈ t.entries) (hn : (t.entries.map (·.station)).Nodup) :
    (t.remove e.station).entries.length + 1 = t.entries.length := by
  have hone : t.entries.countP (fun x => x.station == e.station) = 1 := by
    have hc := List.count_eq_one_of_mem hn (List.mem_map_of_mem he)
    simpa [List.count, List.countP_map, Function.comp_def] using hc
  have hall := List.length_eq_countP_add_countP (fun x : ClaimEntry => x.station == e.station) (l := t.entries)
  have hrest : (t.remove e.station).entries.length = t.entries.countP (fun x => decide ¬(x.station == e.station) = true) := by
    rw [List.countP_eq_length_filter]
    congr 1
    apply List.filter_congr
    intro x _
    by_cases hx : x.station = e.station <;> simp [hx]
  omega

theorem ClaimTable.find_none (t : ClaimTable) (n : Nat) (h : t.find n = none) : ∀ e ∈ t.entries, e.station ≠ n := by
  simpa [ClaimTable.find] using h

/-- Of two claims the lower is one of them. -/
theorem lowerClaim_cases (a b : ClaimEntry) : lowerClaim a b = a ∨ lowerClaim a b = b := by
  unfold lowerClaim
  split
  · exact .inr rfl
  · exact .inl rfl

/-- The lowest of a list of claims is one of them. -/
theorem foldl_lowerClaim_mem (a : ClaimEntry) (es : List ClaimEntry) : es.foldl lowerClaim a ∈ a :: es := by
  induction es generalizing a with
  | nil => simp
  | cons b bs ih =>
    rw [List.foldl_cons]
    rcases lowerClaim_cases a b with h | h <;> rw [h]
    · rcases List.mem_cons.mp (ih a) with hm | hm
      · rw [hm]; exact List.mem_cons_self
      · exact List.mem_cons_of_mem _ (List.mem_cons_of_mem _ hm)
    · exact List.mem_cons_of_mem _ (ih b)

/-- A claim that no later one undercuts is the lowest of them. -/
theorem foldl_lowerClaim_eq (e : ClaimEntry) (es : List ClaimEntry) (h : ∀ x ∈ es, claimLevel e ≤ claimLevel x) :
    es.foldl lowerClaim e = e := by
  induction es with
  | nil => rfl
  | cons b bs ih =>
    have hb : lowerClaim e b = e := if_neg (Nat.not_lt.mpr (h b List.mem_cons_self))
    rw [List.foldl_cons, hb]
    exact ih fun x hx => h x (List.mem_cons_of_mem _ hx)

/-- The entry that gives way is a candidate of the table (R17). -/
theorem ClaimTable.evicted_mem (t : ClaimTable) (level : Nat) (e : ClaimEntry) (h : t.evicted level = some e) :
    e ∈ t.entries ∧ evictable level e = true := by
  unfold ClaimTable.evicted at h
  split at h
  · exact absurd h (by simp)
  · next a as ha =>
    have he := foldl_lowerClaim_mem a as
    rw [← ha, Option.some.inj h] at he
    exact List.mem_filter.mp he

/-- The lowest candidate, the frontmost of equals, is the entry that gives way (R17). -/
theorem ClaimTable.evicted_eq_some (t : ClaimTable) (level i : Nat) (e : ClaimEntry) (hi : t.entries[i]? = some e)
    (he : evictable level e = true)
    (hlow : ∀ (j : Nat) (x : ClaimEntry), t.entries[j]? = some x → evictable level x = true →
      claimLevel e < claimLevel x ∨ (claimLevel e = claimLevel x ∧ i ≤ j)) : t.evicted level = some e := by
  have hp : (fun e : ClaimEntry => e.kind == .ordinary && decide ((e.live.map (·.level)).getD 0 < level)) = evictable level := rfl
  obtain ⟨hlt, hget⟩ := List.getElem?_eq_some_iff.mp hi
  have hsplit : t.entries = t.entries.take i ++ e :: t.entries.drop (i + 1) := by
    rw [← hget, ← List.drop_eq_getElem_cons hlt, List.take_append_drop]
  have hfront (x : ClaimEntry) (hx : x ∈ (t.entries.take i).filter (evictable level)) : claimLevel e < claimLevel x := by
    obtain ⟨hm, hc⟩ := List.mem_filter.mp hx
    obtain ⟨j, hj⟩ := List.mem_iff_getElem?.mp hm
    rw [List.getElem?_take] at hj
    split at hj
    · have := hlow j x hj hc; omega
    · exact absurd hj (by simp)
  have hback (x : ClaimEntry) (hx : x ∈ (t.entries.drop (i + 1)).filter (evictable level)) : claimLevel e ≤ claimLevel x := by
    obtain ⟨hm, hc⟩ := List.mem_filter.mp hx
    obtain ⟨j, hj⟩ := List.mem_iff_getElem?.mp hm
    rw [List.getElem?_drop] at hj
    have := hlow _ x hj hc; omega
  have hfilter : t.entries.filter (evictable level) =
      (t.entries.take i).filter (evictable level) ++ e :: (t.entries.drop (i + 1)).filter (evictable level) := by
    conv_lhs => rw [hsplit]
    rw [List.filter_append, List.filter_cons_of_pos he]
  unfold ClaimTable.evicted
  rw [hp, hfilter]
  cases hf : (t.entries.take i).filter (evictable level) with
  | nil => exact congrArg some (foldl_lowerClaim_eq e _ hback)
  | cons a as =>
    have hlower : lowerClaim (as.foldl lowerClaim a) e = e := if_pos (hfront _ (hf ▸ foldl_lowerClaim_mem a as))
    simp only [List.cons_append, List.foldl_append, List.foldl_cons, hlower]
    exact congrArg some (foldl_lowerClaim_eq e _ hback)

theorem ClaimTable.Fits.update {t : ClaimTable} (h : t.Fits) (n : Nat) (f : ClaimEntry → ClaimEntry)
    (hf : ∀ e, (f e).station = e.station) : (t.update n f).Fits :=
  ⟨(t.update_length n f).symm ▸ h.1, (t.update_stations n f hf).symm ▸ h.2⟩

theorem ClaimTable.Fits.remove {t : ClaimTable} (h : t.Fits) (n : Nat) : (t.remove n).Fits :=
  ⟨(List.length_filter_le _ _).trans h.1, h.2.sublist (List.filter_sublist.map _)⟩

theorem ClaimTable.Fits.append {t : ClaimTable} (h : t.Fits) (now n : Nat) (item : DemandItem) (hl : t.entries.length < 16)
    (hn : ∀ e ∈ t.entries, e.station ≠ n) : (t.append now n item).Fits := by
  refine ⟨by simpa [ClaimTable.append] using hl, ?_⟩
  simp only [ClaimTable.append, List.map_append, List.map_cons, List.map_nil]
  refine List.nodup_append.mpr ⟨h.2, by simp, ?_⟩
  simpa using hn

/-- The end of a claim keeps a table within its room, and makes it no longer. -/
theorem ClaimTable.Fits.ended {t : ClaimTable} (h : t.Fits) (n : Nat) :
    (t.ended n).Fits ∧ (t.ended n).entries.length ≤ t.entries.length := by
  unfold ClaimTable.ended
  split
  · exact ⟨h, le_rfl⟩
  · split
    · exact ⟨h.remove n, List.length_filter_le _ _⟩
    · exact ⟨h.update n _ fun _ => rfl, (t.update_length n _).le⟩
    · exact ⟨h, le_rfl⟩
    · exact ⟨h, le_rfl⟩

/-- A new claim on a table without room leaves its length (R17, R18). -/
theorem ClaimTable.crowded_length (t : ClaimTable) (now n claimMs : Nat) (item : DemandItem)
    (hn : (t.entries.map (·.station)).Nodup) : (t.crowded now n claimMs item).entries.length = t.entries.length := by
  unfold ClaimTable.crowded
  split
  · next e he =>
    have := t.remove_length e (t.evicted_mem _ e he).1 hn
    simpa [ClaimTable.append] using this
  · unfold ClaimTable.folded
    split <;> rfl

/-- One listed entry adds an entry to a table exactly where it is a new claim that finds room (R9, R11, R17, R18). -/
theorem ClaimTable.taken_length (t : ClaimTable) (now n pool claimMs : Nat) (item : DemandItem)
    (hn : (t.entries.map (·.station)).Nodup) :
    (t.taken now n pool claimMs item).entries.length =
      if t.find n = none ∧ pool < 48 ∧ t.entries.length < 16 then t.entries.length + 1 else t.entries.length := by
  unfold ClaimTable.taken
  cases t.find n with
  | some e =>
    simp only [reduceCtorEq, false_and, if_false, ClaimTable.refreshed]
    cases e.kind <;> simp [ClaimTable.update_length]
  | none =>
    simp only [true_and, ClaimTable.claimed]
    split
    · simp [ClaimTable.append]
    · exact t.crowded_length now n claimMs item hn

/-- One listed entry keeps a table within its room (R4). -/
theorem ClaimTable.Fits.taken {t : ClaimTable} (h : t.Fits) (now n pool claimMs : Nat) (item : DemandItem) :
    (t.taken now n pool claimMs item).Fits := by
  unfold ClaimTable.taken
  cases hf : t.find n with
  | some e =>
    dsimp only [ClaimTable.refreshed]
    cases e.kind
    · exact h
    · exact h.update n _ fun _ => rfl
    · exact h.update n _ fun _ => rfl
  | none =>
    have hn := t.find_none n hf
    dsimp only [ClaimTable.claimed]
    split
    · next hr => exact h.append now n item hr.2 hn
    · unfold ClaimTable.crowded
      split
      · next e he =>
        have hl := t.remove_length e (t.evicted_mem _ e he).1 h.2
        have h16 := h.1
        exact (h.remove e.station).append now n item (by omega) fun x hx => hn x (List.mem_of_mem_filter hx)
      · unfold ClaimTable.folded
        split
        · exact h
        · exact h

end Sys2Proof.Machine
end

section
/-! The target of a role (R20) and the exhausted table (R17, R18). -/

open Sys2Proof Sys2Proof.Machine

namespace Sys2Proof.Machine

/-! ### The value of a claim table -/

/-- What counts at a role's value (R20): a LIVE level, the unrecorded peak, and with missing contributors the lost-contributor
level. -/
def Role.Counts (role : Role) (v : Nat) : Prop :=
  (∃ e ∈ role.claims.entries, ∃ l, e.live = some l ∧ v = l.level) ∨ v = role.claims.peak
    ∨ ((role.claims.graceEnded = true ∧ ∃ e ∈ role.claims.entries, e.kind = .required ∧ e.live = none) ∧ v = role.cfg.lostLevel)

theorem ClaimTable.missing_iff (t : ClaimTable) :
    t.missing = true ↔ t.graceEnded = true ∧ ∃ e ∈ t.entries, e.kind = .required ∧ e.live = none := by
  simp [ClaimTable.missing]

/-- The largest of a list of numbers and a first one is one of them, and none is larger. -/
theorem foldl_max_greatest (xs : List Nat) (a : Nat) :
    (xs.foldl max a = a ∨ xs.foldl max a ∈ xs) ∧ a ≤ xs.foldl max a ∧ ∀ x ∈ xs, x ≤ xs.foldl max a := by
  induction xs generalizing a with
  | nil => simp
  | cons b bs ih =>
    obtain ⟨hmem, hfirst, hrest⟩ := ih (max a b)
    rw [List.foldl_cons]
    refine ⟨?_, by omega, ?_⟩
    · rcases hmem with h | h
      · rcases Nat.le_total a b with hab | hab
        · exact .inr (List.mem_cons.mpr (.inl (by rw [h, Nat.max_eq_right hab])))
        · exact .inl (by rw [h, Nat.max_eq_left hab])
      · exact .inr (List.mem_cons_of_mem _ h)
    · intro x hx
      rcases List.mem_cons.mp hx with rfl | hx
      · omega
      · exact hrest x hx

/-- The value of a role counts, and nothing that counts is larger (R20). -/
theorem Role.claimValue_greatest (role : Role) : role.Counts role.claimValue ∧ ∀ v, role.Counts v → v ≤ role.claimValue := by
  have hlive (v : Nat) : v ∈ role.claims.entries.filterMap (fun e => e.live.map (·.level)) ↔
      ∃ e ∈ role.claims.entries, ∃ l, e.live = some l ∧ v = l.level := by
    simp [List.mem_filterMap, eq_comm]
  obtain ⟨hmem, hfirst, hrest⟩ := foldl_max_greatest (role.claims.entries.filterMap (fun e => e.live.map (·.level)))
    (max role.claims.peak (if role.claims.missing then role.cfg.lostLevel else 0))
  change (role.claimValue = _ ∨ role.claimValue ∈ _) at hmem
  change _ ≤ role.claimValue at hfirst
  change ∀ x ∈ _, x ≤ role.claimValue at hrest
  refine ⟨?_, ?_⟩
  · rcases hmem with h | h
    · cases hm : role.claims.missing with
      | false => exact .inr (.inl (by simpa [hm] using h))
      | true =>
        rw [hm, if_pos rfl] at h
        rcases Nat.le_total role.claims.peak role.cfg.lostLevel with hle | hle
        · exact .inr (.inr ⟨(ClaimTable.missing_iff _).mp hm, h.trans (Nat.max_eq_right hle)⟩)
        · exact .inr (.inl (h.trans (Nat.max_eq_left hle)))
    · exact .inl ((hlive _).mp h)
  · rintro v (h | rfl | ⟨hm, rfl⟩)
    · exact hrest v ((hlive v).mpr h)
    · omega
    · rw [(ClaimTable.missing_iff _).mpr hm, if_pos rfl] at hfirst
      omega

/-- The value lies in the range of levels where all that counts does. -/
theorem Role.claimValue_le (role : Role) (hlost : role.cfg.lostLevel ≤ 100) (hpeak : role.claims.peak ≤ 100)
    (hlive : ∀ e ∈ role.claims.entries, ∀ l, e.live = some l → l.level ≤ 100) : role.claimValue ≤ 100 := by
  rcases role.claimValue_greatest.1 with ⟨e, he, l, hl, hv⟩ | hv | ⟨_, hv⟩
  · exact hv ▸ hlive e he l hl
  · exact hv ▸ hpeak
  · exact hv ▸ hlost

end Sys2Proof.Machine

/-- Settles O31: the value is the greatest of what counts, and the target is made of it by the cases of R20. -/
theorem targetOfClaims : Obligations.TargetOfClaims := by
  intro role
  refine ⟨role.claimValue, role.claimValue_greatest, fun h => if_pos h, fun h => if_neg h, ?_⟩
  intro hfloor hlost hpeak hlive
  have hv := role.claimValue_le hlost hpeak hlive
  unfold Role.computedTarget
  split <;> omega

/-- Settles O33, by the two ways of a table without room: an eviction, or the unrecorded peak. -/
theorem exhaustedTable : Obligations.ExhaustedTable := by
  intro s r n role item h _ _ hroom
  have hcand (e : ClaimEntry) : evictable item.level e = true ↔ e.kind = .ordinary ∧ claimLevel e < item.level := by
    simp [evictable]
  refine ⟨fun i e hi he hlow => ?_, fun hnone => ?_⟩
  · have hev : role.claims.evicted item.level = some e :=
      role.claims.evicted_eq_some _ i e hi ((hcand e).mpr he) fun j x hj hx => hlow j x hj ((hcand x).mp hx)
    have hnew : s.newClaim r n role item = s.modClaims r (fun t => (t.remove e.station).append s.now n item) := by
      simp only [State.newClaim, if_neg hroom, hev]
    have hfilter : (fun x : ClaimEntry => x.station != e.station) = fun x => decide (x.station ≠ e.station) := by
      funext x; simp [bne, BEq.beq]
    simp only [hnew, State.modClaims, State.modRole, ClaimTable.append, ClaimTable.remove, hfilter]
  · have hev : role.claims.evicted item.level = none := (ClaimTable.evicted_eq_none _ _).mpr
      (List.any_eq_false.mpr fun e he hc => hnone e he ((hcand e).mp hc))
    have hnew : s.newClaim r n role item = s.foldPeak r role item.level := by
      simp only [State.newClaim, if_neg hroom, hev]
    refine ⟨fun hz => by simp [hnew, State.foldPeak, hz], fun hpos => ?_⟩
    simp only [hnew, State.foldPeak, if_neg (Nat.ne_of_gt hpos)]
    split <;> rfl
end

section
/-! SUPPORT. What a step can do to the claim tables, the targets and Station Control: one principle for their invariants. -/

namespace Sys2Proof.Machine

namespace State

/-! ### Operations that leave Station Control as it is -/

@[simp] theorem takeChannel_ctl (ms : List Measurement) (s : State) (i : Nat) : (s.takeChannel ms i).ctl = s.ctl := by
  unfold takeChannel
  dsimp only
  repeat' split
  all_goals simp

@[simp] theorem takeRound_ctl (s : State) (ms : List Measurement) : (s.takeRound ms).ctl = s.ctl :=
  foldl_same (·.ctl) _ _ s fun s i => takeChannel_ctl ms s i

@[simp] theorem postAtComputation_ctl (s : State) : s.postAtComputation.ctl = s.ctl := by
  unfold postAtComputation
  repeat' split
  all_goals simp

@[simp] theorem takeMonitor_ctl (s : State) (i : Nat) : (s.takeMonitor i).ctl = s.ctl := by
  unfold takeMonitor enterSaturated leaveSaturated
  dsimp only
  repeat' split
  all_goals simp

@[simp] theorem takeMonitors_ctl (s : State) : s.takeMonitors.ctl = s.ctl :=
  foldl_same (·.ctl) _ _ s fun s i => takeMonitor_ctl s i

@[simp] theorem reportTransmitted_ctl (s : State) (p : Payload) : (s.reportTransmitted p).ctl = s.ctl := by
  unfold reportTransmitted demandTransmitted
  dsimp only
  repeat' split
  all_goals simp

@[simp] theorem withdrawUnlisted_ctl (s : State) (n : Nat) (items : List DemandItem) (r : Nat) :
    (s.withdrawUnlisted n items r).ctl = s.ctl := by
  unfold withdrawUnlisted
  repeat' split
  all_goals simp

@[simp] theorem takeItem_ctl (s : State) (n : Nat) (item : DemandItem) : (s.takeItem n item).ctl = s.ctl := by
  unfold takeItem
  repeat' split
  all_goals simp

@[simp] theorem takeDemand_ctl (s : State) (n : Nat) (items : List DemandItem) : (s.takeDemand n items).ctl = s.ctl := by
  simp only [takeDemand, handTargets_frame]
  rw [foldl_same (·.ctl) _ items _ fun u item => takeItem_ctl u n item]
  exact forRoles_same (·.ctl) _ s fun u r => withdrawUnlisted_ctl u n items r

@[simp] theorem updateOwnClaims_ctl (s : State) : s.updateOwnClaims.ctl = s.ctl := by simp [updateOwnClaims]

@[simp] theorem reportAwaited_ctl (s : State) (r : Nat) (role : Role) : (s.reportAwaited r role).ctl = s.ctl :=
  foldl_same (·.ctl) _ _ _ fun _ _ => rfl

end State

/-! ### The room that an image leaves (R4, R162) -/

/-- An image's placeholders find room at a station: 48 in all, 16 in one table, no contributor twice and none the own station. -/
def Image.Room (own : Nat) (img : Image) : Prop :=
  (img.roles.map (placeholderCount img.demands)).sum ≤ 48
    ∧ ∀ cfg ∈ img.roles, placeholderCount img.demands cfg ≤ 16 ∧ cfg.required.Nodup ∧ ∀ n ∈ cfg.required, n ≠ own

/-- Every content check of an image without a fault has passed (R162). -/
theorem contentChecks_pass (station : Nat) (b : List Byte) (h : contentFault station b = none) :
    ∀ c ∈ contentChecks station b, c.2 = true := by
  simpa [contentFault] using h

/-- An image without a content fault leaves its placeholders room (R162). -/
theorem readImage_room (station : Nat) (b : List Byte) (h : contentFault station b = none) : (readImage b).Room station := by
  have hpass := contentChecks_pass station b h
  have hlen : (readImage b).roles.length = imageRoles b := by simp [readImage]
  have hcount (i : Nat) (hi : i < imageRoles b) :
      (((readImage b).roles.take (i + 1)).map (placeholderCount (readImage b).demands)).sum ≤ 48
        ∧ placeholderCount (readImage b).demands (readRole b i) ≤ 16 := by
    have := hpass (16 + i, _) (List.mem_append_right _ (List.mem_map.mpr ⟨i, List.mem_range.mpr hi, rfl⟩))
    simpa using this
  have hrole (i : Nat) (hi : i < imageRoles b) :
      (readRole b i).required.Nodup ∧ ∀ n ∈ (readRole b i).required, n ≠ station := by
    have := hpass (16 + i, _) (List.mem_append_left _ (List.mem_append_left _ (List.mem_append_right _
      (List.mem_map.mpr ⟨i, List.mem_range.mpr hi, rfl⟩))))
    simp only [roleOk, Bool.and_eq_true, decide_eq_true_eq, List.all_eq_true, bne_iff_ne] at this
    exact ⟨this.2, fun n hn => (this.1.2 n hn).2⟩
  refine ⟨?_, ?_⟩
  · rcases Nat.eq_zero_or_pos (imageRoles b) with hz | hpos
    · have : (readImage b).roles = [] := List.eq_nil_of_length_eq_zero (hlen.trans hz)
      simp [this]
    · have := (hcount (imageRoles b - 1) (by omega)).1
      rwa [List.take_of_length_le (by omega)] at this
  · intro cfg hcfg
    obtain ⟨i, hi, rfl⟩ := List.mem_map.mp (show cfg ∈ (List.range (imageRoles b)).map (readRole b) from hcfg)
    exact ⟨(hcount i (List.mem_range.mp hi)).2, hrole i (List.mem_range.mp hi)⟩

/-- A valid slot's image leaves its placeholders room (R161, R162). -/
theorem judgeSlot_room (station : Nat) (b : List Byte) (img : Image) (h : (judgeSlot station b).2 = some img) :
    img.Room station := by
  unfold judgeSlot at h
  dsimp only at h
  repeat' split at h
  all_goals simp only [reduceCtorEq, Option.some.injEq] at h
  next hc => exact h ▸ readImage_room station b hc

/-! ### The principle -/

/-- What has to be shown of a property of the claim tables, the targets and Station Control, for every step to keep it: it does
not see the rest of the station, and the events that act on those three keep it. -/
structure ClaimInvariant (P : State → Prop) : Prop where
  /-- Nothing but claim sides and Station Control is seen. -/
  same : ∀ {s t : State}, P s → t.roles.map Role.claimSide = s.roles.map Role.claimSide → t.ctl = s.ctl → P t
  /-- A DEMAND is taken (R8). -/
  demand : ∀ (s : State) (n : Nat) (items : List DemandItem), P s → P (s.takeDemand n items)
  /-- The OWN entries follow the demand record (R6). -/
  own : ∀ s : State, P s → P s.updateOwnClaims
  /-- A claim expires (R12). -/
  expiry : ∀ (s : State) (r n : Nat), P s → P ((s.endClaim r n).handTarget r)
  /-- A join grace ends (R14). -/
  grace : ∀ (s : State) (r : Nat) (role : Role), P s → P ((s.reportAwaited r role).handTarget r)
  /-- An unrecorded peak expires (R19). -/
  peak : ∀ (s : State) (r : Nat), P s →
    P ((s.modClaims r (fun t => { t with peak := 0, peakTimer := .stopped })).handTarget r)
  /-- The station enters FAULTED (R166). -/
  fault : ∀ (s : State) (cause : Cause) (item : Nat), P s → P (s.enterFaulted cause item)
  /-- The join window ends (R165). -/
  runs : ∀ s : State, s.ctl.joinWindow ≠ .stopped → P s →
    P { s with ctl := { s.ctl with state := .running, joinWindow := .stopped } }
  /-- The reading of a slot goes on (R161). -/
  reads : ∀ (s : State) (l l' : Load), s.ctl.load = some l → l'.imageA = l.imageA → P s →
    P { s with ctl := { s.ctl with load := some l' } }
  /-- A slot is judged (R161, R163). -/
  judged : ∀ (s : State) (l l' : Load) (result : SlotResult) (img : Option Image), s.ctl.load = some l → l'.imageA = l.imageA →
    (∀ i, img = some i → i.Room (s.ctl.station.getD 0)) → P s → P (s.slotJudged l' result img)
  /-- RESET_HELD is entered (R157). -/
  held : ∀ (s : State) (delivered : Nat), P s → P (s.resetHeld delivered)
  /-- LOADING begins after RESET_HELD (R157, R160). -/
  begins : ∀ (s : State) (startAt : Nat) (straps : Straps), s.ctl.state = .resetHeld → P s →
    P (State.beginLoading { s with ctl := { s.ctl with state := .loading, startAt := startAt } } straps)
  /-- The station starts again (R159). -/
  restart : ∀ (s : State) (straps : Straps), P s → P (s.restart straps)

namespace ClaimInvariant

variable {P : State → Prop}

/-- An expiry keeps what its effect keeps. -/
theorem onExpiry (hP : ClaimInvariant P) (timer : Timer) (k : State → State) (s : State)
    (hk : ∀ u : State, timer ≠ .stopped → u.roles = s.roles → u.ctl = s.ctl → P u → P (k u)) (hs : P s) : P (onExpiry timer k s) := by
  unfold Machine.onExpiry
  split
  · exact hk _ (by simp) rfl rfl (hP.same hs rfl rfl)
  · exact hs
  · exact hs

/-! #### Frames -/

/-- A frame that the other blocks take. -/
theorem othersTake (hP : ClaimInvariant P) (s : State) (n : Nat) (p : Payload) (hs : P s) : P (s.othersTake n p) := by
  cases p with
  | demand items => exact hP.demand s n items hs
  | status c => exact hP.same hs (State.driveshipTakes_claimSides ..) (by simp [State.othersTake])
  | takeover g e => exact hP.same hs (State.driveshipTakes_claimSides ..) (by simp [State.othersTake])
  | handback g e => exact hP.same hs (State.driveshipTakes_claimSides ..) (by simp [State.othersTake])
  | yield g e a l => exact hP.same hs (State.driveshipTakes_claimSides ..) (by simp [State.othersTake])
  | alert k i v => exact hs

/-- A frame that the Peer Unit takes. -/
theorem peerTakes (hP : ClaimInvariant P) (s : State) (n : Nat) (p : Payload) (hs : P s) : P (s.peerTakes n p) :=
  hP.same hs (by simp) (by simp)

/-- A frame delivered, the blocks in either order (R140, R141, R154). -/
theorem deliver (hP : ClaimInvariant P) (s : State) (n : Nat) (p : Payload) (hs : P s) : P (s.deliver n p) := by
  have hall : P (s.deliverAll n p) := by
    have hcount : P { s with choices := s.choices + 1 } := hP.same hs rfl rfl
    unfold State.deliverAll
    dsimp only
    split
    · split
      · exact hP.othersTake _ n p (hP.peerTakes _ n p hcount)
      · exact hP.peerTakes _ n p (hP.othersTake _ n p hcount)
    · exact hP.othersTake _ n p (hP.peerTakes _ n p hs)
  unfold State.deliver
  split
  · exact hs
  · exact hs
  · split
    · exact hP.fault _ _ _ hs
    · exact hall
  · split
    · exact hP.fault _ _ _ hs
    · exact hall
  · split
    · exact hs
    · exact hP.peerTakes _ n p hs

/-- The end of an event. -/
theorem finish (hP : ClaimInvariant P) (s : State) (hs : P s) : P s.finish := hP.same hs (by simp) (by simp)

/-- A frame that ends at the receiver (R128, R138). -/
theorem receive (hP : ClaimInvariant P) (s : State) (n : Nat) (p : Payload) (hs : P s) : P (s.receive n p) := by
  have hline : P (s.setLine .notIdle) := hP.same hs rfl rfl
  unfold State.receive
  split
  · split
    · exact hP.finish _ (hP.deliver _ n p hline)
    · exact hP.same hline rfl rfl
  · exact hs

/-- An overlap, and the fault that a third one is (R130, R131). -/
theorem meetOverlap (hP : ClaimInvariant P) (s : State) (e : QEntry) (hs : P s) : P (s.meetOverlap e) := by
  have hline : P (s.setLine .notIdle) := hP.same hs rfl rfl
  unfold State.meetOverlap
  dsimp only
  split
  · exact hP.fault _ _ _ hline
  · exact hP.same hline rfl rfl

/-- A frame that the checks discard. -/
theorem discarded (hP : ClaimInvariant P) (s : State) (hs : P s) :
    P (if s.receiving then (s.setLine .notIdle).countBad else s) := by
  split
  · exact hP.same hs rfl rfl
  · exact hs

/-! #### The service port -/

/-- The end of a transaction, and the RESTART that it may bring (R170, R175). -/
theorem endTransfer (hP : ClaimInvariant P) (s : State) (straps : Straps) (hs : P s) : P (s.endTransfer straps) := by
  have hidle : P { s with port := { s.port with transfer := .idle } } := hP.same hs rfl rfl
  unfold State.endTransfer
  split
  · dsimp only
    split
    · next action _ =>
      cases action with
      | select v => exact hP.same hs rfl rfl
      | takeNotice => exact hP.same hs rfl rfl
      | clearLatches => exact hP.same hs rfl rfl
      | restart => exact hP.restart _ straps hidle
    · exact hidle
  · exact hs

/-- A whole write transaction. -/
theorem portWrite (hP : ClaimInvariant P) (s : State) (straps : Straps) (bytes : List Byte) (hs : P s) :
    P (s.portWrite straps bytes) := by
  unfold State.portWrite
  split
  · exact hP.endTransfer _ straps (hP.same (hP.endTransfer s s.ctl.straps hs) rfl rfl)
  · exact hs

/-! #### The slots -/

/-- Bytes of a slot (R161). -/
theorem slotAnswered (hP : ClaimInvariant P) (s : State) (l l' : Load) (bytes : List Byte) (ended : Bool)
    (hl : s.ctl.load = some l) (hi : l'.imageA = l.imageA) (hs : P s) : P (s.slotAnswered l' bytes ended) := by
  unfold State.slotAnswered
  dsimp only
  split
  · exact hP.judged s l l' _ _ hl hi (fun i h => judgeSlot_room _ _ i h) hs
  · exact hP.reads s l _ hl hi hs

/-! #### A round -/

/-- The Demand Unit's computation (R97). -/
theorem computeDemand (hP : ClaimInvariant P) (s : State) (hs : P s) : P s.computeDemand := by
  unfold State.computeDemand
  dsimp only
  split
  · exact hs
  · have hcomputed : P { s with demand := { s.demand with entries := s.demand.entries.map s.computeEntry, computed := true } } :=
      hP.same hs rfl rfl
    exact hP.same (hP.own _ hcomputed) (by simp) (by simp)

/-! #### Every command -/

/-- Every command keeps the property. -/
theorem exec (hP : ClaimInvariant P) (c : Instr) (s t : State) (hs : P s) (h : exec c s = .next t) : P t := by
  cases c
  all_goals (injection h with h; subst h)
  case resetHeldEntry delivered => exact hP.held s delivered hs
  case resetHeldEnd straps =>
    have hport : P { s with port := { s.port with selection := .station } } := hP.same hs rfl rfl
    split
    · next hr => exact hP.begins { s with port := { s.port with selection := .station } } s.now straps hr hport
    all_goals exact hs
  case memoryAnswerTimeout =>
    split
    · exact hs
    · next l hl =>
      exact hP.onExpiry _ _ s (fun u _ _ hc hu => hP.judged u l l _ _ (by rw [hc, hl]) rfl (fun i hi => nomatch hi) hu) hs
  case slotReadComplete bytes status ended =>
    split
    · exact hs
    · next l hl =>
      dsimp only
      generalize hl' : (if l.ready then l else l.queried status) = l'
      have hi : l'.imageA = l.imageA := by rw [← hl']; split <;> simp
      split
      · exact hP.slotAnswered s l l' bytes ended hl hi hs
      · exact hP.reads s l l' hl hi hs
  case joinWindowExpiry =>
    refine hP.onExpiry _ _ s (fun u hw _ hc hu => ?_) hs
    have hruns := hP.runs u (by rwa [hc]) hu
    exact hP.same hruns (by simp [State.forRoles_claimSides]) (by simp [State.forRoles_same (·.ctl)])
  case roundComplete ms =>
    refine hP.onExpiry _ _ s (fun u _ _ _ hu => hP.finish _ ?_) hs
    have hround : P (State.takeRound { u with roundTimer := .running (u.now + 250) } ms) := hP.same hu (by simp) (by simp)
    split
    · exact hP.computeDemand _ hround
    · exact hround
  case claimExpiry r n =>
    repeat' split
    · exact hs
    · exact hs
    · exact hs
    · exact hs
    · exact hP.finish _ (hP.expiry _ r n (hP.same hs rfl rfl))
  case joinGraceEnd r =>
    split
    · exact hs
    · next role _ => exact hP.onExpiry _ _ s (fun u _ _ _ hu => hP.finish _ (hP.grace u r role hu)) hs
  case peakExpiry r =>
    split
    · exact hs
    · exact hP.onExpiry _ _ s (fun u _ _ _ hu => hP.finish _ (hP.peak u r hu)) hs
  case demandFrame n items => exact hP.receive s n _ hs
  case statusFrame n content => exact hP.receive s n _ hs
  case takeoverFrame n g e => exact hP.receive s n _ hs
  case handbackFrame n g e => exact hP.receive s n _ hs
  case yieldFrame n g e a l => exact hP.receive s n _ hs
  case alertFrame n k i v => exact hP.receive s n _ hs
  case badFrameReceived frame =>
    split
    · exact hP.receive s _ _ hs
    · exact hP.discarded s hs
  case pulseError pulse =>
    repeat' split
    · exact hP.meetOverlap s _ hs
    · exact hP.same hs rfl rfl
    · exact hs
    · exact hs
  case overlap mismatch =>
    repeat' split
    · exact hP.meetOverlap s _ hs
    · exact hs
    · exact hs
  case restart straps => exact hP.portWrite s _ _ hs
  case takeNotice => exact hP.portWrite s _ _ hs
  case clearLatches => exact hP.portWrite s _ _ hs
  case stationView => exact hP.portWrite s _ _ hs
  case channelView => exact hP.portWrite s _ _ hs
  case fanView => exact hP.portWrite s _ _ hs
  case roleView => exact hP.portWrite s _ _ hs
  case claimsView => exact hP.portWrite s _ _ hs
  case groupviewView => exact hP.portWrite s _ _ hs
  case rosterView => exact hP.portWrite s _ _ hs
  case demandView => exact hP.portWrite s _ _ hs
  case satboardView => exact hP.portWrite s _ _ hs
  case noticeView => exact hP.portWrite s _ _ hs
  case countsView => exact hP.portWrite s _ _ hs
  case writeRefused address bytes ended =>
    dsimp only
    have hbrought : P (s.bringBytes bytes) := hP.same hs rfl rfl
    repeat' split
    · exact hP.endTransfer _ _ hbrought
    · exact hbrought
    · exact hP.endTransfer s _ hs
  case readTransaction address count =>
    dsimp only
    split
    · exact hP.same (hP.endTransfer s s.ctl.straps hs) rfl rfl
    · exact hP.endTransfer s _ hs
  case criticalAlertRepeatExpiry i =>
    split
    · exact hs
    · refine hP.onExpiry _ _ s (fun u _ _ _ hu => hP.finish _ ?_) hs
      split <;> exact hP.same hu (by simp) (by simp)
  case tachMeasurement i edges =>
    split
    · exact hs
    · exact hP.onExpiry _ _ s (fun u _ _ _ hu => hP.same hu (by simp) (by simp)) hs
  case rampTimerExpiry r =>
    split
    · exact hs
    · split
      · exact hs
      all_goals exact hP.finish _ (hP.same hs (State.driveEvent_claimSides _ _ _ fun _ _ => rfl) (by simp))
  case stopDelayExpiry r =>
    split
    · exact hs
    · exact hP.onExpiry _ _ s (fun u _ _ _ hu =>
        hP.finish _ (hP.same hu (State.driveEvent_claimSides _ _ _ fun _ _ => rfl) (by simp))) hs
  case spinUpExpiry r =>
    split
    · exact hs
    · exact hP.onExpiry _ _ s (fun u _ _ _ hu =>
        hP.finish _ (hP.same hu (State.driveEvent_claimSides _ _ _ fun _ _ => rfl) (by simp))) hs
  case statusTimerExpiry r =>
    split
    · exact hs
    · exact hP.onExpiry _ _ s (fun u _ _ _ hu => hP.same hu (by simp) (by simp)) hs
  case silenceTimerExpiry r =>
    split
    · exact hs
    · refine hP.onExpiry _ _ s (fun u _ _ _ hu => ?_) hs
      split
      · exact hP.same hu (by simp) (by simp)
      · exact hP.same hu (by simp) (by simp)
      all_goals exact hu
  case otherSilenceExpiry r =>
    split
    · exact hs
    · refine hP.onExpiry _ _ s (fun u _ _ _ hu => ?_) hs
      dsimp only
      repeat' split
      all_goals exact hP.same hu (by simp) (by simp)
  case displacedHoldExpiry r =>
    split
    · exact hs
    · exact hP.onExpiry _ _ s (fun u _ _ _ hu => hP.same hu (by simp) (by simp)) hs
  case handbackWaitExpiry r =>
    split
    · exact hs
    · refine hP.onExpiry _ _ s (fun u _ _ _ hu => hP.finish _ ?_) hs
      repeat' split
      all_goals exact hP.same hu (by simp) (by simp)
  case refreshTimerExpiry =>
    refine hP.onExpiry _ _ s (fun u _ _ _ hu => hP.finish _ ?_) hs
    split <;> exact hP.same hu (by simp) (by simp)
  case viewStale g =>
    repeat' split
    · exact hs
    · exact hs
    · exact hP.same hs rfl rfl
  case saturationAlertRepeatExpiry g =>
    repeat' split
    · exact hs
    · exact hs
    · refine hP.onExpiry _ _ s (fun u _ _ _ hu => hP.finish _ ?_) hs
      split <;> exact hP.same hu (by simp) (by simp)
  case boardRenewalExpiry g n =>
    split
    · exact hs
    · exact hP.same hs (by simp) (by simp)
  case rosterSilent n =>
    repeat' split
    · exact hs
    · exact hs
    · exact hP.same hs rfl rfl
  case rosterLoss n =>
    split
    · exact hs
    · exact hP.same hs (by simp) (by simp)
  case linkSilenceExpiry =>
    refine hP.onExpiry _ _ s (fun u _ _ _ hu => ?_) hs
    repeat' split
    · exact hP.same hu rfl rfl
    · exact hP.same hu (by simp) (by simp)
    · exact hu
  case lineIdle peerFirst =>
    repeat' split
    · exact hs
    · exact hP.same hs rfl rfl
    · exact hP.same hs (by simp) (by simp)
    · exact hP.same hs rfl rfl
    · exact hP.same hs (by simp) (by simp)
    · exact hs
    · exact hs
  case contentionLoss cell =>
    repeat' split
    · exact hP.same hs rfl rfl
    · exact hs
    · exact hs
  case lineStuck =>
    have hcounted : P (if s.line.state = .frame then s.countBad else s) := by
      split
      · exact hP.same hs rfl rfl
      · exact hs
    split
    · dsimp only
      split
      · exact hP.same hcounted rfl rfl
      · exact hP.same hcounted rfl rfl
    · exact hs
  case frameTransmitted =>
    split
    · exact hs
    · exact hP.same hs (by simp) (by simp)
  case startMark =>
    split
    · exact hP.same hs rfl rfl
    · exact hs

/-- Every step keeps the property. -/
theorem step (hP : ClaimInvariant P) (s t : State) (hs : P s) (h : step s = .next t) : P t := by
  unfold Machine.step at h
  split at h
  · injection h with h
    exact h ▸ hP.same hs rfl rfl
  · next c rest _ =>
    have hrest : P { s with pending := rest } := hP.same hs rfl rfl
    exact hP.exec c _ t hrest h

end ClaimInvariant
end Sys2Proof.Machine
end

section
/-! The claim tables within their room (R4): every event that acts on them keeps it. -/

open Sys2Proof Sys2Proof.Machine

namespace Sys2Proof.Machine

/-! ### The room of all tables -/

/-- The claim tables within their room (R4). -/
def RoomOk (s : State) : Prop := s.pool ≤ 48 ∧ ∀ role ∈ s.roles, role.claims.Fits

/-- An image held while slot B is read leaves room. -/
def HeldRoom (c : Control) : Prop := ∀ img, c.load.bind (·.imageA) = some img → img.Room (c.station.getD 0)

/-- The capacity is the room of the tables and that of a held image. -/
theorem capacityOk_iff (s : State) : CapacityOk s ↔ RoomOk s ∧ HeldRoom s.ctl :=
  ⟨fun ⟨hpool, hfits, hheld⟩ => ⟨⟨hpool, hfits⟩, hheld⟩, fun ⟨⟨hpool, hfits⟩, hheld⟩ => ⟨hpool, hfits, hheld⟩⟩

/-- The room is one of the tables alone. -/
theorem RoomOk.of_tables {s t : State} (h : RoomOk s) (ht : t.roles.map (·.claims) = s.roles.map (·.claims)) : RoomOk t := by
  have hpool (u : State) : u.pool = ((u.roles.map (·.claims)).map (·.entries.length)).sum := by
    simp [State.pool, Function.comp_def]
  have hfits (u : State) : (∀ role ∈ u.roles, role.claims.Fits) ↔ ∀ c ∈ u.roles.map (·.claims), c.Fits := by simp
  refine ⟨?_, ?_⟩
  · rw [hpool, ht, ← hpool]; exact h.1
  · rw [hfits, ht, ← hfits]; exact h.2

/-- Equal claim sides are equal tables. -/
theorem tables_of_claimSides {s t : State} (h : t.roles.map Role.claimSide = s.roles.map Role.claimSide) :
    t.roles.map (·.claims) = s.roles.map (·.claims) := by
  have := congrArg (List.map (fun c => c.2.1)) h
  simpa [Role.claimSide, Function.comp_def] using this

/-- An event at a drive leaves what does not look at drives. -/
theorem State.driveEvent_map {α : Type} (g : Role → α) (hg : ∀ role d, g { role with drive := d } = g role) (s : State) (r : Nat)
    (f : RoleCfg → Drive → Drive) : (s.driveEvent r f).roles.map g = s.roles.map g := by
  have hmod (u : State) (f : Drive → Drive) : (u.modDrive r f).roles.map g = u.roles.map g :=
    map_modify_of_same g _ _ r fun role => hg role _
  unfold driveEvent judgeGroup
  dsimp only
  repeat' split
  all_goals simp only [followDrive_frame, hmod]

/-- A target handed on leaves what does not look at drives. -/
theorem State.handTarget_map {α : Type} (g : Role → α) (hg : ∀ role d, g { role with drive := d } = g role) (s : State) (r : Nat) :
    (s.handTarget r).roles.map g = s.roles.map g := by
  unfold handTarget
  repeat' split
  · rfl
  · rfl
  · exact driveEvent_map g hg s r _

/-- All targets handed on leave what does not look at drives. -/
theorem State.handTargets_map {α : Type} (g : Role → α) (hg : ∀ role d, g { role with drive := d } = g role) (s : State) :
    s.handTargets.roles.map g = s.roles.map g :=
  forRoles_same (fun u => u.roles.map g) _ s fun u r => handTarget_map g hg u r

theorem RoomOk.handTarget {s : State} (h : RoomOk s) (r : Nat) : RoomOk (s.handTarget r) :=
  h.of_tables (State.handTarget_map _ (fun _ _ => rfl) s r)

theorem RoomOk.handTargets {s : State} (h : RoomOk s) : RoomOk s.handTargets :=
  h.of_tables (State.handTargets_map _ (fun _ _ => rfl) s)

/-! ### One table changes -/

/-- The entries in all tables after one table has changed. -/
theorem State.pool_withTable (s : State) (r : Nat) (role : Role) (t : ClaimTable) (notes : List (NoticeKind × Nat × Int))
    (h : s.roles[r]? = some role) : (s.withTable r t notes).pool + role.claims.entries.length = s.pool + t.entries.length :=
  sum_map_modify (fun q => q.claims.entries.length) (·.withClaims t) s.roles r role h

/-- The tables stay within their room when one of them changes within its room, and all of them together do. -/
theorem RoomOk.withTable {s : State} (h : RoomOk s) (r : Nat) (role : Role) (t : ClaimTable)
    (notes : List (NoticeKind × Nat × Int)) (hr : s.roles[r]? = some role) (ht : t.Fits)
    (hl : s.pool + t.entries.length ≤ 48 + role.claims.entries.length) : RoomOk (s.withTable r t notes) := by
  have hpool := s.pool_withTable r role t notes hr
  refine ⟨by omega, fun q hq => ?_⟩
  obtain ⟨i, hi⟩ := List.mem_iff_getElem?.mp hq
  simp only [State.withTable, List.getElem?_modify] at hi
  split at hi
  · obtain ⟨x, _, rfl⟩ := Option.map_eq_some_iff.mp hi
    exact ht
  · exact h.2 q (List.mem_of_getElem? (by simpa using hi))

/-- The end of a claim keeps the room. -/
theorem RoomOk.endClaim {s : State} (h : RoomOk s) (r n : Nat) : RoomOk (s.endClaim r n) := by
  cases hr : s.roles[r]? with
  | none => simpa [State.endClaim, hr] using h
  | some role =>
    obtain ⟨hfits, hle⟩ := (h.2 role (List.mem_of_getElem? hr)).ended n
    have hpool := h.1
    rw [State.endClaim_eq s r n role hr]
    exact h.withTable r role _ _ hr hfits (by omega)

/-- A listed entry of a DEMAND keeps the room: an entry is added only where there is room (R4, R17). -/
theorem RoomOk.takeItem {s : State} (h : RoomOk s) (n : Nat) (item : DemandItem) : RoomOk (s.takeItem n item) := by
  cases hrole : listedRole s item with
  | none => rwa [State.takeItem_unlisted s n item hrole]
  | some role =>
    obtain ⟨r, hr, -, he⟩ := State.takeItem_listed s n item role hrole
    have hfits := h.2 role (List.mem_of_getElem? hr)
    have hlen := role.claims.taken_length s.now n s.pool role.cfg.claimMs item hfits.2
    have hpool := h.1
    rw [he]
    refine h.withTable r role _ _ hr (hfits.taken ..) ?_
    split at hlen <;> omega

/-- A withdrawal keeps the room. -/
theorem RoomOk.withdrawUnlisted {s : State} (h : RoomOk s) (n : Nat) (items : List DemandItem) (r : Nat) :
    RoomOk (s.withdrawUnlisted n items r) := by
  unfold State.withdrawUnlisted
  split
  · exact h
  · split
    · exact h
    · exact h.endClaim r n

/-- A DEMAND keeps the room. -/
theorem RoomOk.takeDemand {s : State} (h : RoomOk s) (n : Nat) (items : List DemandItem) : RoomOk (s.takeDemand n items) :=
  (State.foldl_keeps RoomOk _ _ _ (fun _ item hs => hs.takeItem n item)
    (State.forRoles_keeps RoomOk _ s (fun _ r hs => hs.withdrawUnlisted n items r) h)).handTargets

/-- The room is kept where every table keeps its stations. -/
theorem RoomOk.of_stations {s t : State} (h : RoomOk s)
    (ht : t.roles.map (fun q => q.claims.entries.map (·.station)) = s.roles.map (fun q => q.claims.entries.map (·.station))) :
    RoomOk t := by
  have hpool (u : State) : u.pool = ((u.roles.map (fun q => q.claims.entries.map (·.station))).map List.length).sum := by
    simp [State.pool, Function.comp_def]
  have hfits (u : State) : (∀ role ∈ u.roles, role.claims.Fits) ↔
      ∀ ns ∈ u.roles.map (fun q => q.claims.entries.map (·.station)), ns.length ≤ 16 ∧ ns.Nodup := by
    simp [ClaimTable.Fits]
  refine ⟨?_, ?_⟩
  · rw [hpool, ht, ← hpool]; exact h.1
  · rw [hfits, ht, ← hfits]; exact h.2

/-- The OWN entries follow the demand record within the room. -/
theorem RoomOk.updateOwnClaims {s : State} (h : RoomOk s) : RoomOk s.updateOwnClaims := by
  refine RoomOk.handTargets (h.of_stations ?_)
  rw [List.map_map]
  apply List.map_congr_left
  intro role _
  simp only [Function.comp, Role.takeOwn]
  split
  · rfl
  · rw [List.map_map]
    apply List.map_congr_left
    intro e _
    simp only [Function.comp]
    split <;> rfl

/-- The end of a join grace keeps the room. -/
theorem RoomOk.reportAwaited {s : State} (h : RoomOk s) (r : Nat) (role : Role) : RoomOk (s.reportAwaited r role) := by
  unfold State.reportAwaited
  refine State.foldl_keeps RoomOk _ _ _ (fun _ _ hs => hs) (h.of_stations ?_)
  refine map_modify_of_same _ _ _ _ fun q => ?_
  rw [List.map_map]
  apply List.map_congr_left
  intro e _
  simp only [Function.comp]
  split <;> rfl

/-! ### Faults and starts -/

/-- A station whose tables hold nothing has room. -/
theorem roomOk_of_empty (s : State) (h : ∀ role ∈ s.roles, role.claims.entries = []) : RoomOk s := by
  refine ⟨?_, fun role hr => by simp [ClaimTable.Fits, h role hr]⟩
  have : s.roles.map (fun q => q.claims.entries.length) = s.roles.map (fun _ => 0) :=
    List.map_congr_left fun q hq => by simp [h q hq]
  simp [State.pool, this]

/-- At a fault the tables are emptied (R22), and no image is held. -/
theorem enterFaulted_empty (s : State) (cause : Cause) (item : Nat) :
    (∀ role ∈ (s.enterFaulted cause item).roles, role.claims.entries = []) ∧ (s.enterFaulted cause item).ctl.load = none
      ∧ (s.enterFaulted cause item).ctl.state = .faulted ∧ (s.enterFaulted cause item).ctl.joinWindow = .stopped := by
  have hctl (u : State) : (u.forRoles State.stopActing).ctl = u.ctl :=
    State.forRoles_same (·.ctl) _ u fun v r => by simp
  refine ⟨?_, ?_, ?_, ?_⟩
  · intro role hr
    simp only [State.enterFaulted, State.blocksFault, State.evaluateThrottle_roles, List.mem_map] at hr
    obtain ⟨q, _, rfl⟩ := hr
    rfl
  all_goals simp [State.enterFaulted, State.blocksFault, hctl]

/-- The tables of a station that enters JOINING with an image that leaves room (R4, R5). -/
theorem RoomOk.enterJoining (s : State) (slot : Slot) (img : Image) (h : img.Room (s.ctl.station.getD 0)) :
    RoomOk (s.enterJoining slot img) := by
  obtain ⟨hsum, hcfg⟩ := h
  have hlen (d : Bool) (ns : List Nat) : (placeholders (s.ctl.station.getD 0) d ns).length = (if d then 1 else 0) + ns.length := by
    cases d <;> simp [placeholders, Nat.add_comm]
  have hfresh (now takeover : Nat) (cfg : RoleCfg) :
      (Role.fresh now (s.ctl.station.getD 0) takeover img.demands cfg).claims.entries.length = placeholderCount img.demands cfg :=
    hlen _ _
  refine RoomOk.handTargets ⟨?_, ?_⟩
  · simpa [State.pool, Function.comp_def, hfresh] using hsum
  · intro role hr
    obtain ⟨cfg, hc, rfl⟩ := List.mem_map.mp hr
    obtain ⟨hcount, hnodup, hown⟩ := hcfg cfg hc
    refine ⟨(hfresh ..).trans_le hcount, ?_⟩
    have hstations : (cfg.required.map (fun n => (⟨n, .required, none, false⟩ : ClaimEntry))).map (·.station) = cfg.required := by
      simp [Function.comp_def]
    unfold Role.fresh placeholders
    rw [List.map_append, hstations]
    split
    · refine List.nodup_cons.mpr ⟨fun hm => hown _ hm rfl, hnodup⟩
    · exact hnodup

/-- An image that is not held needs no room. -/
theorem heldRoom_of_none {c : Control} (h : c.load = none) : HeldRoom c := fun img hi => by simp [h] at hi

/-- The station that enters JOINING with an image that leaves room. -/
theorem CapacityOk.enterJoining (s : State) (slot : Slot) (img : Image) (h : img.Room (s.ctl.station.getD 0)) :
    CapacityOk (s.enterJoining slot img) :=
  (capacityOk_iff _).mpr ⟨RoomOk.enterJoining s slot img h, heldRoom_of_none (by simp [State.enterJoining])⟩

/-- The station that enters FAULTED. -/
theorem CapacityOk.enterFaulted (s : State) (cause : Cause) (item : Nat) : CapacityOk (s.enterFaulted cause item) :=
  have ⟨hempty, hload, _, _⟩ := enterFaulted_empty s cause item
  (capacityOk_iff _).mpr ⟨roomOk_of_empty _ hempty, heldRoom_of_none hload⟩

/-- Both slots have been judged (R163): the image taken leaves room, and none is held. -/
theorem CapacityOk.chooseImage {s : State} (h : RoomOk s) (hl : s.ctl.load = none) (a b : Option Image)
    (ha : ∀ i, a = some i → i.Room (s.ctl.station.getD 0)) (hb : ∀ i, b = some i → i.Room (s.ctl.station.getD 0)) :
    CapacityOk (s.chooseImage a b) := by
  unfold State.chooseImage
  split
  · split
    · exact .enterJoining _ _ _ (hb _ rfl)
    · exact .enterJoining _ _ _ (ha _ rfl)
  · exact .enterJoining _ _ _ (ha _ rfl)
  · exact .enterJoining _ _ _ (hb _ rfl)
  · split
    · exact .enterFaulted _ _ _
    all_goals exact (capacityOk_iff _).mpr ⟨h, heldRoom_of_none hl⟩

/-- LOADING begins with no image held. -/
theorem CapacityOk.beginLoading {s : State} (h : RoomOk s) (straps : Straps) : CapacityOk (s.beginLoading straps) := by
  unfold State.beginLoading
  dsimp only
  split
  · exact (capacityOk_iff _).mpr ⟨h, fun img hi => by simp [Load.start] at hi⟩
  · exact .enterFaulted _ _ _

/-- A slot is judged: slot A's image is held and leaves room; after slot B the image is chosen. -/
theorem CapacityOk.slotJudged {s : State} (h : CapacityOk s) (l l' : Load) (result : SlotResult) (img : Option Image)
    (hl : s.ctl.load = some l) (hi : l'.imageA = l.imageA) (hroom : ∀ i, img = some i → i.Room (s.ctl.station.getD 0)) :
    CapacityOk (s.slotJudged l' result img) := by
  obtain ⟨hr, hheld⟩ := (capacityOk_iff s).mp h
  unfold State.slotJudged
  split
  · exact (capacityOk_iff _).mpr ⟨hr, hroom⟩
  · exact .chooseImage (s := { s with ctl := { s.ctl with slotB := result, load := none } }) hr rfl l'.imageA img
      (fun i hm => hheld i (by rw [hl, Option.bind_some, ← hi, hm])) hroom

/-- Every event that acts on the claim tables keeps them within their room. -/
theorem claimInvariant_capacityOk : ClaimInvariant CapacityOk where
  same h hroles hctl := by
    obtain ⟨hr, hheld⟩ := (capacityOk_iff _).mp h
    exact (capacityOk_iff _).mpr ⟨hr.of_tables (tables_of_claimSides hroles), hctl ▸ hheld⟩
  demand s n items h := by
    obtain ⟨hr, hheld⟩ := (capacityOk_iff s).mp h
    exact (capacityOk_iff _).mpr ⟨hr.takeDemand n items, by simpa using hheld⟩
  own s h := by
    obtain ⟨hr, hheld⟩ := (capacityOk_iff s).mp h
    exact (capacityOk_iff _).mpr ⟨hr.updateOwnClaims, by simpa using hheld⟩
  expiry s r n h := by
    obtain ⟨hr, hheld⟩ := (capacityOk_iff s).mp h
    exact (capacityOk_iff _).mpr ⟨(hr.endClaim r n).handTarget r, by simpa using hheld⟩
  grace s r role h := by
    obtain ⟨hr, hheld⟩ := (capacityOk_iff s).mp h
    exact (capacityOk_iff _).mpr ⟨(hr.reportAwaited r role).handTarget r, by simpa using hheld⟩
  peak s r h := by
    obtain ⟨hr, hheld⟩ := (capacityOk_iff s).mp h
    refine (capacityOk_iff _).mpr ⟨RoomOk.handTarget (hr.of_stations ?_) r, by simpa using hheld⟩
    exact map_modify_of_same _ _ _ _ fun _ => rfl
  fault s cause item _ := .enterFaulted s cause item
  runs _ _ h := h
  reads s l l' hl hi h := by
    obtain ⟨hr, hheld⟩ := (capacityOk_iff s).mp h
    exact (capacityOk_iff _).mpr ⟨hr, fun img hm => hheld img (by rw [hl, Option.bind_some, ← hi]; exact hm)⟩
  judged s l l' result img hl hi hroom h := h.slotJudged l l' result img hl hi hroom
  held s delivered _ := (capacityOk_iff _).mpr ⟨roomOk_of_empty _ (fun _ hr => nomatch hr), heldRoom_of_none rfl⟩
  begins s startAt straps _ h :=
    .beginLoading (s := { s with ctl := { s.ctl with state := .loading, startAt := startAt } }) ((capacityOk_iff s).mp h).1 straps
  restart s straps _ := .beginLoading (roomOk_of_empty _ (by simp [State.resetHeld, State.reset])) straps

end Sys2Proof.Machine

/-- Settles O9: the claim tables' room and a held image's are kept by every event that acts on them. -/
theorem stepKeepsCapacity : Obligations.StepKeepsCapacity := claimInvariant_capacityOk.step
end

section
/-! The targets with the claims (R20, R21): every event that acts on either keeps them together. -/

open Sys2Proof Sys2Proof.Machine

namespace Sys2Proof.Machine

/-! ### A target handed on -/

/-- A target handed on at one role leaves the others as they were. -/
theorem State.handTarget_get_other (s : State) (r q : Nat) (h : q ≠ r) : (s.handTarget r).roles[q]? = s.roles[q]? := by
  unfold handTarget
  repeat' split
  · rfl
  · rfl
  · exact driveEvent_get_other s r q _ h

/-- After its target has been handed on a role's drive holds it; nothing else of the role has changed. -/
theorem State.handTarget_get_self (s : State) (r : Nat) (role : Role) (h : s.roles[r]? = some role) :
    ∃ d, (s.handTarget r).roles[r]? = some { role with drive := d } ∧ d.target = role.computedTarget := by
  unfold handTarget
  rw [h]
  dsimp only
  split
  · next he => exact ⟨role.drive, h, he.symm⟩
  · rw [driveEvent_get_self s r _ role h]
    refine ⟨_, rfl, ?_⟩
    dsimp only
    split <;> simp

/-- After all targets have been handed on every role's drive holds its own (R21). -/
theorem State.handTargets_get (s : State) (r : Nat) (role : Role) (h : s.roles[r]? = some role) :
    ∃ d, s.handTargets.roles[r]? = some { role with drive := d } ∧ d.target = role.computedTarget := by
  obtain ⟨u, -, hu, he⟩ := forRoles_get (fun _ => True) handTarget handTarget_get_other (fun _ _ h => h) s trivial r
    (List.getElem?_eq_some_iff.mp h).1
  obtain ⟨d, hd, ht⟩ := u.handTarget_get_self r role (hu.trans h)
  exact ⟨d, he.trans hd, ht⟩

/-! ### The targets of a station -/

/-- Every drive record holds the target that its claims give (R20, R21). -/
def TargetsHeld (s : State) : Prop := ∀ (r : Nat) (role : Role), s.roles[r]? = some role → role.drive.target = role.computedTarget

theorem targetsOk_iff (s : State) : TargetsOk s ↔ (s.transmits = true → TargetsHeld s) ∧ JoinWindowOk s := by
  have : TargetsHeld s ↔ ∀ role ∈ s.roles, role.drive.target = role.computedTarget := by
    simp only [TargetsHeld, List.mem_iff_getElem?]
    exact ⟨fun h role ⟨r, hr⟩ => h r role hr, fun h r role hr => h role ⟨r, hr⟩⟩
  rw [this]
  rfl

/-- Every target is held once all have been handed on. -/
theorem targetsHeld_handTargets (s : State) : TargetsHeld s.handTargets := by
  intro r role hr
  have hlen : s.handTargets.roles.length = s.roles.length := by
    simpa using congrArg List.length (State.handTargets_map (fun q => q.cfg) (fun _ _ => rfl) s)
  obtain ⟨q, hq⟩ : ∃ q, s.roles[r]? = some q :=
    ⟨_, List.getElem?_eq_getElem (hlen ▸ (List.getElem?_eq_some_iff.mp hr).1)⟩
  obtain ⟨d, hd, ht⟩ := s.handTargets_get r q hq
  obtain rfl : { q with drive := d } = role := Option.some.inj (hd.symm.trans hr)
  exact ht

/-- A change at one role's table, after which the role's target is handed on, keeps every target held. -/
theorem TargetsHeld.handTarget {s u : State} (h : TargetsHeld s) (r : Nat) (hu : ∀ q, q ≠ r → u.roles[q]? = s.roles[q]?) :
    TargetsHeld (u.handTarget r) := by
  intro q role hq
  by_cases hqr : q = r
  · subst hqr
    cases hx : u.roles[q]? with
    | none => simp [State.handTarget, hx] at hq
    | some x =>
      obtain ⟨d, hd, ht⟩ := u.handTarget_get_self q x hx
      obtain rfl : { x with drive := d } = role := Option.some.inj (hd.symm.trans hq)
      exact ht
  · rw [State.handTarget_get_other _ _ _ hqr, hu q hqr] at hq
    exact h q role hq

/-- A role's target depends on its configuration and its table alone (R20). -/
theorem Role.computedTarget_congr {q role : Role} (hcfg : q.cfg = role.cfg) (hclaims : q.claims = role.claims) :
    q.computedTarget = role.computedTarget := by
  unfold Role.computedTarget Role.claimValue
  rw [hcfg, hclaims]

/-- Equal claim sides hold equal targets. -/
theorem TargetsHeld.of_claimSides {s t : State} (h : TargetsHeld s)
    (ht : t.roles.map Role.claimSide = s.roles.map Role.claimSide) : TargetsHeld t := by
  intro r role hr
  have hside : (s.roles.map Role.claimSide)[r]? = some role.claimSide := by rw [← ht, List.getElem?_map, hr]; rfl
  rw [List.getElem?_map] at hside
  obtain ⟨q, hq, he⟩ := Option.map_eq_some_iff.mp hside
  obtain ⟨hcfg, hclaims, htarget⟩ := (Role.claimSide_eq_iff q role).mp he
  rw [← htarget, h r q hq, Role.computedTarget_congr hcfg hclaims]

/-! ### Events at one table -/

theorem State.withTable_get_other (s : State) (r q : Nat) (t : ClaimTable) (notes : List (NoticeKind × Nat × Int)) (h : q ≠ r) :
    (s.withTable r t notes).roles[q]? = s.roles[q]? := by
  simp [withTable, Ne.symm h]

theorem State.endClaim_get_other (s : State) (r n q : Nat) (h : q ≠ r) : (s.endClaim r n).roles[q]? = s.roles[q]? := by
  cases hr : s.roles[r]? with
  | none => simp [endClaim, hr]
  | some role => rw [s.endClaim_eq r n role hr, withTable_get_other _ _ _ _ _ h]

theorem State.reportAwaited_get_other (s : State) (r q : Nat) (role : Role) (h : q ≠ r) :
    (s.reportAwaited r role).roles[q]? = s.roles[q]? := by
  unfold reportAwaited
  exact (foldl_same (fun u : State => u.roles[q]?) _ _ _ fun u e => by rw [post_roles]).trans (by simp [Ne.symm h])

/-! ### The invariant -/

theorem transmits_of_ctl {s t : State} (h : t.ctl = s.ctl) : t.transmits = s.transmits := by simp [State.transmits, h]

/-- A station that does not transmit, with its join window stopped. -/
theorem targetsOk_of_quiet (s : State) (ht : s.transmits = false) (hj : s.ctl.joinWindow = .stopped) : TargetsOk s :=
  (targetsOk_iff s).mpr ⟨fun h => absurd (ht.symm.trans h) (by simp), fun h => absurd hj h⟩

/-- An event that leaves Station Control, and every target held where it was. -/
theorem TargetsOk.of_held {s t : State} (h : TargetsOk s) (hctl : t.ctl = s.ctl) (ht : TargetsHeld s → TargetsHeld t) :
    TargetsOk t := by
  obtain ⟨hheld, hjoin⟩ := (targetsOk_iff s).mp h
  exact (targetsOk_iff t).mpr ⟨fun hx => ht (hheld (transmits_of_ctl hctl ▸ hx)), by unfold JoinWindowOk at *; rwa [hctl]⟩

theorem TargetsOk.enterFaulted (s : State) (cause : Cause) (item : Nat) : TargetsOk (s.enterFaulted cause item) :=
  have ⟨_, _, hstate, hjoin⟩ := enterFaulted_empty s cause item
  targetsOk_of_quiet _ (by simp [State.transmits, hstate]) hjoin

/-- The entry into JOINING hands every target on, and the join window runs in JOINING. -/
theorem TargetsOk.enterJoining (s : State) (slot : Slot) (img : Image) : TargetsOk (s.enterJoining slot img) :=
  (targetsOk_iff _).mpr ⟨fun _ => targetsHeld_handTargets _, fun _ => by simp [State.enterJoining]⟩

theorem TargetsOk.chooseImage {s : State} (h : TargetsOk s) (a b : Option Image) : TargetsOk (s.chooseImage a b) := by
  unfold State.chooseImage
  split
  · split <;> exact .enterJoining _ _ _
  · exact .enterJoining _ _ _
  · exact .enterJoining _ _ _
  · split
    · exact .enterFaulted _ _ _
    all_goals exact h

/-- LOADING begins with the join window stopped. -/
theorem TargetsOk.beginLoading {s : State} (hj : s.ctl.joinWindow = .stopped) (straps : Straps) :
    TargetsOk (s.beginLoading straps) := by
  unfold State.beginLoading
  dsimp only
  split
  · exact targetsOk_of_quiet _ rfl hj
  · exact .enterFaulted _ _ _

/-- Every event that acts on the claims or on the targets keeps them together. -/
theorem claimInvariant_targetsOk : ClaimInvariant TargetsOk where
  same h hroles hctl := h.of_held hctl fun ht => ht.of_claimSides hroles
  demand s n items h := h.of_held (by simp) fun _ => targetsHeld_handTargets _
  own s h := h.of_held (by simp) fun _ => targetsHeld_handTargets _
  expiry s r n h := h.of_held (by simp) fun ht => ht.handTarget r fun q hq => s.endClaim_get_other r n q hq
  grace s r role h := h.of_held (by simp) fun ht => ht.handTarget r fun q hq => s.reportAwaited_get_other r q role hq
  peak s r h := h.of_held (by simp) fun ht => ht.handTarget r fun q hq => by simp [Ne.symm hq]
  fault s cause item _ := .enterFaulted s cause item
  runs s hw h := by
    obtain ⟨hheld, hjoin⟩ := (targetsOk_iff s).mp h
    have hstate : s.ctl.state = .joining := hjoin hw
    exact (targetsOk_iff _).mpr ⟨fun _ => hheld (by simp [State.transmits, hstate]), fun hx => absurd rfl hx⟩
  reads s l l' _ _ h := h
  judged s l l' result img _ _ _ h := by
    unfold State.slotJudged
    split
    · exact h
    · exact TargetsOk.chooseImage (s := { s with ctl := { s.ctl with slotB := result, load := none } }) h _ _
  held s delivered _ := targetsOk_of_quiet _ rfl rfl
  begins s startAt straps hstate h := by
    refine .beginLoading ?_ straps
    obtain ⟨_, hjoin⟩ := h
    by_contra hw
    exact absurd ((hjoin hw).symm.trans hstate) (by simp)
  restart s straps _ := .beginLoading rfl straps

end Sys2Proof.Machine

/-- Settles O10: the targets, and the join window in JOINING alone, are kept by every event that acts on them. -/
theorem stepKeepsTargets : Obligations.StepKeepsTargets := claimInvariant_targetsOk.step
end

section
/-! SUPPORT. What a DEMAND does to the claim tables and to the notices (R8 to R11, R15, R17, R18). -/

namespace Sys2Proof.Machine

/-! ### Withdrawals (R8, R10) -/

/-- A role's table after a DEMAND has withdrawn its sender where the role's group is not listed. -/
def Role.withdrawnTable (n : Nat) (items : List DemandItem) (role : Role) : ClaimTable :=
  if items.any (fun i => i.group == role.cfg.group) then role.claims else role.claims.ended n

/-- The loss that a DEMAND's withdrawal posts at a role. -/
def Role.withdrawnNotice (n : Nat) (items : List DemandItem) (role : Role) : List (NoticeKind × Nat × Int) :=
  if items.any (fun i => i.group == role.cfg.group) then [] else role.lossNotice n

namespace State

theorem withdrawUnlisted_eq (s : State) (n : Nat) (items : List DemandItem) (r : Nat) (role : Role) (h : s.roles[r]? = some role) :
    s.withdrawUnlisted n items r = s.withTable r (role.withdrawnTable n items) (role.withdrawnNotice n items) := by
  unfold withdrawUnlisted Role.withdrawnTable Role.withdrawnNotice
  rw [h]
  dsimp only
  split
  · exact (withTable_self s r role h).symm
  · exact endClaim_eq s r n role h

/-- A run over the roles whose part at a role changes that role's table and posts that role's notices. -/
theorem forRoles_withTable (f : State → Nat → State) (g : Role → ClaimTable) (notes : Role → List (NoticeKind × Nat × Int))
    (hf : ∀ (u : State) (r : Nat) (role : Role), u.roles[r]? = some role → f u r = u.withTable r (g role) (notes role)) (s : State) :
    s.forRoles f = { s with
      roles := s.roles.map (fun q => q.withClaims (g q))
      notices := s.notices.pushAll s.timeBase (s.roles.flatMap notes) } := by
  have key (k : Nat) (hk : k ≤ s.roles.length) : (List.range k).foldl f s = { s with
      roles := (s.roles.take k).map (fun q => q.withClaims (g q)) ++ s.roles.drop k
      notices := s.notices.pushAll s.timeBase ((s.roles.take k).flatMap notes) } := by
    induction k with
    | zero => simp
    | succ k ih =>
      have hlt : k < s.roles.length := hk
      have hlen : ((s.roles.take k).map (fun q => q.withClaims (g q))).length = k := by simp; omega
      have hsplit : s.roles.take (k + 1) = s.roles.take k ++ [s.roles[k]] := List.take_succ_eq_append_getElem hlt
      have hmodify (front : List Role) (x : Role) (back : List Role) (h : Role → Role) (hl : front.length = k) :
          (front ++ x :: back).modify k h = front ++ h x :: back := by
        rw [List.modify_eq_take_cons_drop (by simp; omega)]
        subst hl
        simp
      rw [List.range_succ, List.foldl_append, ih (Nat.le_of_lt hlt), List.drop_eq_getElem_cons hlt]
      simp only [List.foldl_cons, List.foldl_nil]
      rw [hf _ k s.roles[k] (by rw [List.getElem?_append_right hlen.le, hlen, Nat.sub_self]; rfl)]
      simp only [withTable, hmodify _ _ _ _ hlen, hsplit, List.map_append, List.flatMap_append, List.map_cons, List.map_nil,
        List.append_assoc, List.cons_append, List.nil_append, Notices.pushAll_append, List.flatMap_cons, List.flatMap_nil,
        List.append_nil]
      rfl
  have := key s.roles.length le_rfl
  simpa [forRoles] using this

/-- A DEMAND's withdrawals, in role order. -/
theorem withdrawals_eq (s : State) (n : Nat) (items : List DemandItem) :
    s.forRoles (withdrawUnlisted n items) = { s with
      roles := s.roles.map (fun q => q.withClaims (q.withdrawnTable n items))
      notices := s.notices.pushAll s.timeBase (s.roles.flatMap (Role.withdrawnNotice n items)) } :=
  forRoles_withTable _ _ _ (fun u r role h => withdrawUnlisted_eq u n items r role h) s

end State

/-! ### Only tables and notices change -/

/-- A state that differs from another in its roles and its notices alone. -/
def State.ClaimsOnly (s t : State) : Prop := t = { s with roles := t.roles, notices := t.notices }

theorem State.ClaimsOnly.refl (s : State) : s.ClaimsOnly s := rfl

theorem State.ClaimsOnly.trans {s t u : State} (h : s.ClaimsOnly t) (h' : t.ClaimsOnly u) : s.ClaimsOnly u := by
  unfold ClaimsOnly at *
  rw [h', h]

theorem State.ClaimsOnly.timeBase {s t : State} (h : s.ClaimsOnly t) : t.timeBase = s.timeBase := by
  rw [h]; rfl

/-! ### The listed entries (R8, R9, R11) -/

/-- Looking for an element beside one that has changed. -/
theorem find?_modify_of_not {α : Type} (p : α → Bool) (f : α → α) (l : List α) (i : Nat) (x : α) (h : l[i]? = some x)
    (hx : p x = false) (hf : p (f x) = false) : (l.modify i f).find? p = l.find? p := by
  induction l generalizing i with
  | nil => simp at h
  | cons y ys ih =>
    cases i with
    | zero =>
      obtain rfl : y = x := by simpa using h
      simp [hx, hf]
    | succ i => simp [List.modify_succ_cons, List.find?_cons, ih i (by simpa using h)]

namespace State

theorem takeItem_claimsOnly (s : State) (n : Nat) (item : DemandItem) : s.ClaimsOnly (s.takeItem n item) := by
  cases hrole : listedRole s item with
  | none => rw [takeItem_unlisted s n item hrole]; exact .refl s
  | some role =>
    obtain ⟨r, -, -, he⟩ := takeItem_listed s n item role hrole
    rw [he]; rfl

/-- A listed entry leaves the role of another group as it was. -/
theorem takeItem_get_other (s : State) (n : Nat) (item : DemandItem) (r : Nat) (role : Role) (h : s.roles[r]? = some role)
    (hg : item.group ≠ role.cfg.group) : (s.takeItem n item).roles[r]? = some role := by
  cases hrole : listedRole s item with
  | none => rw [takeItem_unlisted s n item hrole, h]
  | some q =>
    obtain ⟨i, hi, hq, he⟩ := takeItem_listed s n item q hrole
    have hne : r ≠ i := by
      rintro rfl
      obtain rfl : role = q := Option.some.inj (h.symm.trans hi)
      exact hg hq.symm
    rw [he, withTable_get_other _ _ _ _ _ hne, h]

/-- A listed entry leaves what the entries of other groups name. -/
theorem takeItem_listedRole (s : State) (n : Nat) (item other : DemandItem) (hg : other.group ≠ item.group) :
    listedRole (s.takeItem n item) other = listedRole s other := by
  cases hrole : listedRole s item with
  | none => rw [takeItem_unlisted s n item hrole]
  | some q =>
    obtain ⟨i, hi, hq, he⟩ := takeItem_listed s n item q hrole
    have hne : (q.cfg.group == other.group) = false := by simpa [hq] using hg.symm
    rw [he]
    exact find?_modify_of_not _ _ _ _ q hi hne hne

/-- The entries in all tables after one listed entry. -/
theorem takeItem_pool (s : State) (n : Nat) (item : DemandItem)
    (hn : ∀ role, listedRole s item = some role → (role.claims.entries.map (·.station)).Nodup) :
    (s.takeItem n item).pool = poolAfter s n s.pool item := by
  unfold poolAfter
  cases hrole : listedRole s item with
  | none => rw [takeItem_unlisted s n item hrole]
  | some role =>
    obtain ⟨r, hr, -, he⟩ := takeItem_listed s n item role hrole
    have hlen := role.claims.taken_length s.now n s.pool role.cfg.claimMs item (hn role hrole)
    have hpool := s.pool_withTable r role (role.claims.taken s.now n s.pool role.cfg.claimMs item)
      (itemNotice s n s.pool item).toList hr
    rw [he]
    simp only [roomFor, Bool.and_eq_true, decide_eq_true_eq]
    by_cases hroom : role.claims.find n = none ∧ s.pool < 48 ∧ role.claims.entries.length < 16
    · rw [if_pos hroom] at hlen ⊢; omega
    · rw [if_neg hroom] at hlen ⊢; omega

/-- The notices after one listed entry. -/
theorem takeItem_notices (s : State) (n : Nat) (item : DemandItem) :
    (s.takeItem n item).notices = s.notices.pushAll s.timeBase (itemNotice s n s.pool item).toList := by
  cases hrole : listedRole s item with
  | none => rw [takeItem_unlisted s n item hrole]; simp [itemNotice, hrole]
  | some role =>
    obtain ⟨r, -, -, he⟩ := takeItem_listed s n item role hrole
    rw [he]; rfl

/-! #### A list of entries -/

theorem takeItems_claimsOnly (s : State) (n : Nat) (items : List DemandItem) : s.ClaimsOnly (items.foldl (takeItem n) s) := by
  induction items generalizing s with
  | nil => exact .refl s
  | cons item items ih => exact (takeItem_claimsOnly s n item).trans (ih _)

/-- Listed entries of other groups leave a role as it was. -/
theorem takeItems_get_other (s : State) (n : Nat) (items : List DemandItem) (r : Nat) (role : Role) (h : s.roles[r]? = some role)
    (hg : ∀ item ∈ items, item.group ≠ role.cfg.group) : (items.foldl (takeItem n) s).roles[r]? = some role := by
  induction items generalizing s with
  | nil => exact h
  | cons item items ih =>
    exact ih _ (takeItem_get_other s n item r role h (hg item List.mem_cons_self)) fun x hx => hg x (List.mem_cons_of_mem _ hx)

/-- The notices of listed entries that find so many entries in all tables before the first. -/
def itemNotices (s : State) (n pool : Nat) (items : List DemandItem) : List (NoticeKind × Nat × Int) :=
  (items.mapIdx (fun i item => itemNotice s n ((items.take i).foldl (poolAfter s n) pool) item)).filterMap id

theorem itemNotices_cons (s : State) (n pool : Nat) (item : DemandItem) (items : List DemandItem) :
    itemNotices s n pool (item :: items) =
      (itemNotice s n pool item).toList ++ itemNotices s n (poolAfter s n pool item) items := by
  unfold itemNotices
  rw [List.mapIdx_cons, List.filterMap_cons]
  cases h : itemNotice s n pool item <;> simp [h]

/-- Listed entries of different groups, each of which finds its role's table as it stood in a state: the entries in all tables
and the notices are counted from that state's tables (R8). -/
theorem takeItems_counts (s : State) (n : Nat) (items : List DemandItem) (hd : (items.map (·.group)).Nodup) (u : State)
    (hl : ∀ item ∈ items, listedRole u item = listedRole s item)
    (hn : ∀ item ∈ items, ∀ role, listedRole s item = some role → (role.claims.entries.map (·.station)).Nodup) :
    (items.foldl (takeItem n) u).pool = items.foldl (poolAfter s n) u.pool
      ∧ (items.foldl (takeItem n) u).notices = u.notices.pushAll u.timeBase (itemNotices s n u.pool items) := by
  induction items generalizing u with
  | nil => exact ⟨rfl, rfl⟩
  | cons item items ih =>
    have hitem := hl item List.mem_cons_self
    obtain ⟨hhead, htail⟩ := List.nodup_cons.mp hd
    have hpool : (u.takeItem n item).pool = poolAfter s n u.pool item := by
      rw [takeItem_pool u n item (by rw [hitem]; exact hn item List.mem_cons_self)]
      simp only [poolAfter, hitem]
    have hnotice : itemNotice u n u.pool item = itemNotice s n u.pool item := by simp only [itemNotice, hitem]
    obtain ⟨ihpool, ihnotices⟩ := ih htail (u.takeItem n item)
      (fun x hx => by
        have hne : x.group ≠ item.group := fun e => hhead (List.mem_map.mpr ⟨x, hx, e⟩)
        rw [takeItem_listedRole u n item x hne, hl x (List.mem_cons_of_mem _ hx)])
      (fun x hx => hn x (List.mem_cons_of_mem _ hx))
    refine ⟨by rw [List.foldl_cons, List.foldl_cons, ihpool, hpool], ?_⟩
    rw [List.foldl_cons, ihnotices, (takeItem_claimsOnly u n item).timeBase, takeItem_notices, hpool, hnotice, itemNotices_cons,
      Notices.pushAll_append]

/-! ### The claims of a whole DEMAND (R8) -/

/-- The claim tables take a DEMAND: its withdrawals, then its entries in order; the targets follow apart. -/
def takeClaims (s : State) (n : Nat) (items : List DemandItem) : State :=
  items.foldl (takeItem n) (s.forRoles (withdrawUnlisted n items))

theorem takeDemand_eq (s : State) (n : Nat) (items : List DemandItem) : s.takeDemand n items = (s.takeClaims n items).handTargets :=
  rfl

theorem withdrawals_claimsOnly (s : State) (n : Nat) (items : List DemandItem) :
    s.ClaimsOnly (s.forRoles (withdrawUnlisted n items)) := by
  rw [withdrawals_eq]; rfl

theorem takeClaims_claimsOnly (s : State) (n : Nat) (items : List DemandItem) : s.ClaimsOnly (s.takeClaims n items) :=
  (withdrawals_claimsOnly s n items).trans (takeItems_claimsOnly _ n items)

/-- A role after the withdrawals of a DEMAND. -/
theorem withdrawals_get (s : State) (n : Nat) (items : List DemandItem) (r : Nat) (role : Role) (h : s.roles[r]? = some role) :
    (s.forRoles (withdrawUnlisted n items)).roles[r]? = some (role.withClaims (role.withdrawnTable n items)) := by
  rw [withdrawals_eq]
  simp [h]

end State

theorem Role.withdrawnTable_listed (n : Nat) (items : List DemandItem) (role : Role) (item : DemandItem)
    (hi : item ∈ items) (hg : item.group = role.cfg.group) : role.withdrawnTable n items = role.claims :=
  if_pos (List.any_eq_true.mpr ⟨item, hi, by simpa using hg⟩)

theorem Role.withdrawnTable_unlisted (n : Nat) (items : List DemandItem) (role : Role)
    (hg : ∀ item ∈ items, item.group ≠ role.cfg.group) : role.withdrawnTable n items = role.claims.ended n :=
  if_neg (by simpa using hg)

namespace State

/-- The withdrawals of a DEMAND leave the roles that it lists. -/
theorem withdrawals_listedRole (s : State) (n : Nat) (items : List DemandItem) (item : DemandItem) (hi : item ∈ items) :
    listedRole (s.forRoles (withdrawUnlisted n items)) item = listedRole s item := by
  rw [withdrawals_eq]
  unfold listedRole
  rw [List.find?_map]
  change (s.roles.find? (fun q => q.cfg.group == item.group)).map _ = _
  cases h : s.roles.find? (fun q => q.cfg.group == item.group) with
  | none => rfl
  | some role =>
    have hg : role.cfg.group = item.group := by simpa using List.find?_some h
    rw [Option.map_some, Role.withdrawnTable_listed n items role item hi hg.symm, Role.withClaims_self]

end State

/-- The length of a table after a claim has ended, where no station stands twice. -/
theorem ClaimTable.ended_length (t : ClaimTable) (n : Nat) (hn : (t.entries.map (·.station)).Nodup) :
    (t.ended n).entries.length = if (t.find n).any (fun e => e.kind == .ordinary) then t.entries.length - 1 else t.entries.length := by
  unfold ClaimTable.ended
  cases hf : t.find n with
  | none => rfl
  | some e =>
    have he : e ∈ t.entries := List.mem_of_find?_eq_some hf
    have hs : e.station = n := by simpa using List.find?_some hf
    have hremove := t.remove_length e he hn
    rw [hs] at hremove
    cases hk : e.kind with
    | own => simp [hk]
    | ordinary => simp [hk]; omega
    | required => cases hl : e.live <;> simp [hk, hl, ClaimTable.update_length]

namespace State

/-- The entries in all tables after the withdrawals of a DEMAND. -/
theorem withdrawals_pool (s : State) (n : Nat) (items : List DemandItem)
    (hn : ∀ role ∈ s.roles, (role.claims.entries.map (·.station)).Nodup) :
    (s.forRoles (withdrawUnlisted n items)).pool = poolWithdrawn s n items := by
  rw [withdrawals_eq]
  simp only [pool, poolWithdrawn, List.map_map]
  congr 1
  apply List.map_congr_left
  intro role hr
  simp only [Function.comp, Role.withClaims_claims, Role.withdrawnTable]
  by_cases hany : items.any (fun i => i.group == role.cfg.group) = true
  · have hall : items.all (fun i => i.group != role.cfg.group) = false := by simpa using hany
    simp [hany, hall]
  · have hall : items.all (fun i => i.group != role.cfg.group) = true := by simpa using hany
    rw [if_neg hany, role.claims.ended_length n (hn role hr), hall, Bool.true_and]

/-- The notices of the withdrawals of a DEMAND. -/
theorem withdrawnNotices_eq (s : State) (n : Nat) (items : List DemandItem) :
    s.roles.flatMap (Role.withdrawnNotice n items) =
      (s.roles.filter (fun role => items.all (fun i => i.group != role.cfg.group)
        && (role.claims.find n).any (fun e => e.kind == .required && e.live.isSome && role.claims.graceEnded))).map
          (fun role => (NoticeKind.contributorLost, role.cfg.group, (n : Int))) := by
  induction s.roles with
  | nil => rfl
  | cons role roles ih =>
    rw [List.flatMap_cons, ih, List.filter_cons]
    unfold Role.withdrawnNotice Role.lossNotice
    by_cases hany : items.any (fun i => i.group == role.cfg.group) = true
    · have hall : items.all (fun i => i.group != role.cfg.group) = false := by simpa using hany
      simp [hany, hall]
    · have hall : items.all (fun i => i.group != role.cfg.group) = true := by simpa using hany
      rw [if_neg hany, hall, Bool.true_and]
      split <;> rfl

/-- The notices of a DEMAND at the claim tables (R10, R15, R18). -/
theorem takeClaims_notices (s : State) (n : Nat) (items : List DemandItem) (hd : (items.map (·.group)).Nodup)
    (hn : ∀ role ∈ s.roles, (role.claims.entries.map (·.station)).Nodup) :
    (s.takeClaims n items).notices = s.notices.pushAll s.timeBase (demandNotices s n items) := by
  have hcounts := takeItems_counts s n items hd (s.forRoles (withdrawUnlisted n items))
    (fun item hi => withdrawals_listedRole s n items item hi)
    (fun item _ role hr => hn role (List.mem_of_find?_eq_some hr))
  have hnotices : (s.forRoles (withdrawUnlisted n items)).notices
      = s.notices.pushAll s.timeBase (s.roles.flatMap (Role.withdrawnNotice n items)) := by rw [withdrawals_eq]
  unfold takeClaims
  rw [hcounts.2, withdrawals_pool s n items hn, (withdrawals_claimsOnly s n items).timeBase, hnotices, withdrawnNotices_eq,
    ← Notices.pushAll_append]
  rfl

/-- A role whose group a DEMAND does not list: its sender's claim has ended (R10). -/
theorem takeClaims_get_unlisted (s : State) (n : Nat) (items : List DemandItem) (r : Nat) (role : Role)
    (h : s.roles[r]? = some role) (hg : ∀ item ∈ items, item.group ≠ role.cfg.group) :
    (s.takeClaims n items).roles[r]? = some (role.withClaims (role.claims.ended n)) := by
  have hw := withdrawals_get s n items r role h
  rw [Role.withdrawnTable_unlisted n items role hg] at hw
  exact takeItems_get_other _ n items r _ hw hg

/-- A listed entry for the one role of its group. -/
theorem takeItem_get_self (s : State) (n : Nat) (item : DemandItem) (r : Nat) (role : Role)
    (hd : (s.roles.map (·.cfg.group)).Nodup) (h : s.roles[r]? = some role) (hg : item.group = role.cfg.group) :
    (s.takeItem n item).roles[r]? = some (role.withClaims (role.claims.taken s.now n s.pool role.cfg.claimMs item)) := by
  have hindex (i : Nat) (q : Role) (hi : s.roles[i]? = some q) (hq : q.cfg.group = item.group) : i = r := by
    have hir : i < (s.roles.map (·.cfg.group)).length := by simpa using (List.getElem?_eq_some_iff.mp hi).1
    refine (hd.getElem_inj_iff (hi := hir) (hj := by simpa using (List.getElem?_eq_some_iff.mp h).1)).mp ?_
    apply Option.some.inj
    rw [← List.getElem?_eq_getElem, ← List.getElem?_eq_getElem, List.getElem?_map, List.getElem?_map, hi, h]
    simp [hq, hg]
  cases hrole : listedRole s item with
  | none =>
    have := List.find?_eq_none.mp hrole role (List.mem_of_getElem? h)
    simp [hg] at this
  | some q =>
    obtain ⟨i, hi, hq, he⟩ := takeItem_listed s n item q hrole
    obtain rfl := hindex i q hi hq
    obtain rfl : role = q := Option.some.inj (h.symm.trans hi)
    rw [he]
    simp [withTable, h]

/-- The listed entries leave what does not look at tables. -/
theorem takeItems_map {α : Type} (g : Role → α) (hg : ∀ role t, g (role.withClaims t) = g role) (s : State) (n : Nat)
    (items : List DemandItem) : (items.foldl (takeItem n) s).roles.map g = s.roles.map g :=
  foldl_same (fun u => u.roles.map g) _ items s fun u item => by
    cases hrole : listedRole u item with
    | none => rw [takeItem_unlisted u n item hrole]
    | some role =>
      obtain ⟨r, -, -, he⟩ := takeItem_listed u n item role hrole
      rw [he]
      exact map_modify_of_same _ _ _ _ fun q => hg q _

/-- The claim tables at a DEMAND leave what does not look at tables. -/
theorem takeClaims_map {α : Type} (g : Role → α) (hg : ∀ role t, g (role.withClaims t) = g role) (s : State) (n : Nat)
    (items : List DemandItem) : (s.takeClaims n items).roles.map g = s.roles.map g := by
  rw [takeClaims, takeItems_map g hg, withdrawals_eq, List.map_map]
  exact List.map_congr_left fun q _ => hg q _

/-- A role whose group a DEMAND lists: its table takes the entry, in the pool that the withdrawals and the entries before it
have left (R8, R9, R11). -/
theorem takeClaims_get_listed (s : State) (n : Nat) (items : List DemandItem) (hd : (items.map (·.group)).Nodup)
    (hroles : (s.roles.map (·.cfg.group)).Nodup) (r i : Nat) (role : Role) (item : DemandItem) (h : s.roles[r]? = some role)
    (hi : items[i]? = some item) (hg : item.group = role.cfg.group) :
    ∃ pool, (s.takeClaims n items).roles[r]? = some (role.withClaims (role.claims.taken s.now n pool role.cfg.claimMs item))
      ∧ ((∀ q ∈ s.roles, (q.claims.entries.map (·.station)).Nodup) → pool = poolAt s n items i) := by
  obtain ⟨hlt, hget⟩ := List.getElem?_eq_some_iff.mp hi
  have hsplit : items = items.take i ++ item :: items.drop (i + 1) := by
    rw [← hget, ← List.drop_eq_getElem_cons hlt, List.take_append_drop]
  have hmem : item ∈ items := List.mem_of_getElem? hi
  have hd' := hd
  rw [hsplit, List.map_append, List.map_cons, List.nodup_append] at hd'
  obtain ⟨-, hback, hfront⟩ := hd'
  have hbefore : ∀ x ∈ items.take i, x.group ≠ role.cfg.group := fun x hx e =>
    hfront _ (List.mem_map_of_mem hx) _ List.mem_cons_self (e.trans hg.symm)
  have hafter : ∀ x ∈ items.drop (i + 1), x.group ≠ role.cfg.group := fun x hx e =>
    (List.nodup_cons.mp hback).1 (List.mem_map.mpr ⟨x, hx, e.trans hg.symm⟩)
  let w := s.forRoles (withdrawUnlisted n items)
  let v := (items.take i).foldl (takeItem n) w
  have hw : w.roles[r]? = some role := by
    rw [withdrawals_get s n items r role h, Role.withdrawnTable_listed n items role item hmem hg, Role.withClaims_self]
  have hv : v.roles[r]? = some role := takeItems_get_other w n _ r role hw hbefore
  have hvgroups : (v.roles.map (·.cfg.group)).Nodup := by
    have hcfg : v.roles.map (·.cfg) = s.roles.map (·.cfg) := by
      rw [takeItems_map (·.cfg) fun _ _ => rfl]
      simp only [w, withdrawals_eq, List.map_map]
      rfl
    have := congrArg (List.map (·.group)) hcfg
    rw [List.map_map, List.map_map] at this
    exact this ▸ hroles
  have hnow : v.now = s.now := by
    have := (withdrawals_claimsOnly s n items).trans (takeItems_claimsOnly w n (items.take i))
    rw [show v = _ from this]
  have htaken := takeItem_get_self v n item r role hvgroups hv hg
  rw [hnow] at htaken
  have hlast := takeItems_get_other _ n (items.drop (i + 1)) r _ htaken hafter
  refine ⟨v.pool, ?_, fun hn => ?_⟩
  · have hfold : s.takeClaims n items = (items.drop (i + 1)).foldl (takeItem n) (v.takeItem n item) := by
      unfold takeClaims
      conv_lhs => rw [show items.foldl (takeItem n) w = (items.take i ++ item :: items.drop (i + 1)).foldl (takeItem n) w by
        rw [← hsplit]]
      rw [List.foldl_append, List.foldl_cons]
    rw [hfold, hlast]
  · have hcounts := takeItems_counts s n (items.take i) (hd.sublist ((List.take_sublist i items).map _)) w
      (fun x hx => withdrawals_listedRole s n items x (List.mem_of_mem_take hx))
      (fun x _ q hq => hn q (List.mem_of_find?_eq_some hq))
    rw [hcounts.1, withdrawals_pool s n items hn]
    rfl

end State
end Sys2Proof.Machine
end

section
/-! SUPPORT. How a target reaches a role's drive and is reported at the end of the event (R21, R28, R31, R36 to R41, R45). -/

namespace Sys2Proof.Machine

/-! ### Runs over the roles -/

/-- A run over the roles is what it does before a role, at it, and after it. -/
theorem State.forRoles_split (f : State → Nat → State) (s : State) (q : Nat) (hq : q < s.roles.length) :
    ∃ before after : List Nat, s.forRoles f = after.foldl f (f (before.foldl f s) q) ∧ q ∉ before ∧ q ∉ after
      ∧ before.length + after.length + 1 = s.roles.length := by
  refine ⟨List.range q, (List.range (s.roles.length - q - 1)).map (· + (q + 1)), ?_, by simp, by simp; omega, by simp; omega⟩
  have hsplit : List.range s.roles.length = List.range q ++ q :: (List.range (s.roles.length - q - 1)).map (· + (q + 1)) := by
    have hlen : s.roles.length = q + (s.roles.length - q - 1 + 1) := by omega
    conv_lhs => rw [hlen, List.range_add, List.range_succ_eq_map]
    simp [Function.comp_def, Nat.add_left_comm]
  rw [State.forRoles, hsplit, List.foldl_append, List.foldl_cons]

/-- What every step of a run over other roles keeps true, the run keeps true. -/
theorem State.foldl_keeps_beside (P : State → Prop) (f : State → Nat → State) (r : Nat) (h : ∀ s q, q ≠ r → P s → P (f s q))
    (xs : List Nat) (hx : r ∉ xs) (s : State) (hs : P s) : P (xs.foldl f s) := by
  induction xs generalizing s with
  | nil => exact hs
  | cons x xs ih =>
    simp only [List.mem_cons, not_or] at hx
    obtain ⟨hne, hrest⟩ := hx
    exact ih hrest _ (h s x (Ne.symm hne) hs)

/-! ### The channels of a role -/

/-- The fan channels of a role. -/
def State.fansOf (s : State) (r : Nat) : List FanChannel := s.fans.filter (fun f => f.role == some r)

theorem State.healths_eq (s : State) (r : Nat) : s.healths r = (s.fansOf r).map (·.health) := rfl

/-- The channels of one role follow its drive; those of another do not change. -/
theorem State.followDrive_fansOf_other (s : State) (r q : Nat) (h : q ≠ r) : (s.followDrive q).fansOf r = s.fansOf r := by
  cases hq : s.roles[q]? with
  | none => simp [followDrive, hq]
  | some role =>
    unfold fansOf
    rw [followDrive_fans s q role hq, List.filter_map]
    have hfilter : s.fans.filter ((fun f => f.role == some r) ∘ fun f => if f.role = some q then f.follow role.cfg role.drive else f)
        = s.fans.filter (fun f => f.role == some r) := by
      apply List.filter_congr
      intro f _
      simp only [Function.comp]
      split
      · rw [FanChannel.follow_role]
      · rfl
    rw [hfilter]
    refine (List.map_congr_left (g := id) fun f hf => ?_).trans (List.map_id _)
    have hrole : f.role = some r := by simpa using (List.mem_filter.mp hf).2
    rw [if_neg (by rw [hrole]; simpa using Ne.symm h)]
    rfl

theorem State.driveEvent_fansOf_other (s : State) (r q : Nat) (f : RoleCfg → Drive → Drive) (h : q ≠ r) :
    (s.driveEvent q f).fansOf r = s.fansOf r := by
  have hmod (u : State) (g : Drive → Drive) : (u.modDrive q g).fansOf r = u.fansOf r := rfl
  unfold driveEvent judgeGroup
  dsimp only
  repeat' split
  all_goals simp only [followDrive_fansOf_other _ r q h, hmod]

theorem State.handTarget_fansOf_other (s : State) (r q : Nat) (h : q ≠ r) : (s.handTarget q).fansOf r = s.fansOf r := by
  unfold handTarget
  repeat' split
  · rfl
  · rfl
  · exact driveEvent_fansOf_other s r q _ h

/-- A role's condition is the one that its channels give, and they are UNCHECKED while its drive does not check them. -/
def RoleJudged (s : State) (r : Nat) (role : Role) : Prop :=
  role.drive.condition = groupCondition (s.healths r)
    ∧ (role.drive.checks role.cfg = false → ∀ x ∈ s.healths r, x = .unchecked)

theorem JudgedOk.role {s : State} (h : JudgedOk s) (r : Nat) (role : Role) (hr : s.roles[r]? = some role) : RoleJudged s r role := by
  obtain ⟨hfans, hroles, -, -⟩ := h
  refine ⟨(hroles r role hr).1, fun hc x hx => ?_⟩
  obtain ⟨f, hf, rfl⟩ := List.mem_map.mp (State.healths_eq s r ▸ hx)
  obtain ⟨hmem, hrole⟩ := List.mem_filter.mp hf
  have hrole' : f.role = some r := by simpa using hrole
  exact (hfans f hmem (by simp [State.checked, hrole', hr, hc])).1

/-! ### One target -/

/-- A new target does not change whether a drive checks its channels (R28). -/
theorem Drive.takeTarget_checks (now : Nat) (cfg : RoleCfg) (target : Nat) (d : Drive) :
    (d.takeTarget now cfg target).checks cfg = d.checks cfg := by
  unfold Drive.takeTarget Drive.checks
  cases hs : d.state with
  | stopped => by_cases ht : 0 < target <;> simp [ht, Drive.enterSpinUp]
  | released => simp
  | spinUp => simp
  | tracking => simp
  | failsafe => simp

@[simp] theorem Drive.takeTarget_condition (now : Nat) (cfg : RoleCfg) (target : Nat) (d : Drive) :
    (d.takeTarget now cfg target).condition = d.condition := by
  unfold Drive.takeTarget
  cases hs : d.state <;> simp
  split <;> rfl

/-- The drive of a role after its target has been computed anew (R21). -/
def Role.handed (now : Nat) (role : Role) : Drive :=
  if role.computedTarget = role.drive.target then role.drive else role.drive.takeTarget now role.cfg role.computedTarget

/-- A target handed on to a judged role: the drive takes it, its channels follow, and the condition stays as it is. -/
theorem State.handTarget_judged (s : State) (r : Nat) (role : Role) (h : s.roles[r]? = some role) (hj : RoleJudged s r role) :
    (s.handTarget r).roles[r]? = some { role with drive := role.handed s.now }
      ∧ (role.computedTarget ≠ role.drive.target →
          ∀ f ∈ (s.handTarget r).fans, f.role = some r → f.output = (role.handed s.now).output) := by
  unfold handTarget Role.handed
  rw [h]
  dsimp only
  by_cases he : role.computedTarget = role.drive.target
  · rw [if_pos he, if_pos he]
    exact ⟨h, fun hne => absurd he hne⟩
  · rw [if_neg he, if_neg he]
    obtain ⟨hcond, hunchecked⟩ := hj
    let f : RoleCfg → Drive → Drive := fun cfg => Drive.takeTarget s.now cfg role.computedTarget
    let u := s.modDrive r (f role.cfg)
    have hu : u.roles[r]? = some { role with drive := f role.cfg role.drive } := modDrive_get_self _ _ _ _ h
    have hchecks : (f role.cfg role.drive).checks role.cfg = role.drive.checks role.cfg := Drive.takeTarget_checks ..
    have hhealths : groupCondition ((u.followDrive r).healths r) = (f role.cfg role.drive).condition := by
      rw [Drive.takeTarget_condition, hcond]
      cases hc : role.drive.checks role.cfg with
      | true => rw [healths_followDrive_checked u r _ hu (hchecks.trans hc)]; rfl
      | false =>
        rw [groupCondition_unchecked (healths_followDrive_unchecked u r _ hu (hchecks.trans hc)),
          groupCondition_unchecked (hunchecked hc)]
    have hevent : s.driveEvent r f = u.followDrive r := by
      simp only [driveEvent, h]
      unfold judgeGroup
      rw [show (u.followDrive r).roles[r]? = some { role with drive := f role.cfg role.drive } by simpa using hu]
      dsimp only
      rw [if_pos hhealths]
    rw [show s.driveEvent r _ = u.followDrive r from hevent]
    refine ⟨by simpa using hu, fun _ g hg hrole => ?_⟩
    rw [followDrive_fans u r _ hu] at hg
    obtain ⟨g', -, rfl⟩ := List.mem_map.mp hg
    split at hrole
    · next hr => rw [if_pos hr, FanChannel.follow_output]
    · next hr => exact absurd hrole hr

/-- All targets handed on, at a judged role. -/
theorem State.handTargets_judged (s : State) (r : Nat) (role : Role) (h : s.roles[r]? = some role) (hj : RoleJudged s r role) :
    s.handTargets.roles[r]? = some { role with drive := role.handed s.now }
      ∧ (role.computedTarget ≠ role.drive.target →
          ∀ f ∈ s.handTargets.fans, f.role = some r → f.output = (role.handed s.now).output) := by
  obtain ⟨before, after, he, hb, ha, -⟩ := forRoles_split handTarget s r (List.getElem?_eq_some_iff.mp h).1
  let u := before.foldl handTarget s
  have hu : u.roles[r]? = some role ∧ u.fansOf r = s.fansOf r ∧ u.now = s.now :=
    foldl_keeps_beside (fun u => u.roles[r]? = some role ∧ u.fansOf r = s.fansOf r ∧ u.now = s.now) _ r
      (fun v q hq ⟨hr, hf, hn⟩ => ⟨(handTarget_get_other v q r hq.symm).trans hr, (handTarget_fansOf_other v r q hq).trans hf,
        by simpa using hn⟩) before hb s ⟨h, rfl, rfl⟩
  obtain ⟨hur, huf, hun⟩ := hu
  have huj : RoleJudged u r role := by
    unfold RoleJudged
    rw [healths_eq, huf, ← healths_eq]
    exact hj
  obtain ⟨hself, hout⟩ := u.handTarget_judged r role hur huj
  rw [hun] at hself hout
  have hafter : s.handTargets.roles[r]? = (u.handTarget r).roles[r]? ∧ s.handTargets.fansOf r = (u.handTarget r).fansOf r := by
    rw [show s.handTargets = _ from he]
    exact foldl_keeps_beside
      (fun v => v.roles[r]? = (u.handTarget r).roles[r]? ∧ v.fansOf r = (u.handTarget r).fansOf r) _ r
      (fun v q hq ⟨hr, hf⟩ => ⟨(handTarget_get_other v q r hq.symm).trans hr, (handTarget_fansOf_other v r q hq).trans hf⟩)
      after ha _ ⟨rfl, rfl⟩
  refine ⟨hafter.1.trans hself, fun hne f hf hrole => ?_⟩
  have hmem : f ∈ s.handTargets.fansOf r := List.mem_filter.mpr ⟨hf, by simpa using hrole⟩
  rw [hafter.2] at hmem
  exact hout hne f (List.mem_filter.mp hmem).1 hrole

end Sys2Proof.Machine
end

section
/-! SUPPORT. The end of an event (R45): the roles' drives, and the STATUS that each of them queues. -/

namespace Sys2Proof.Machine

/-! ### Frames offered to a queue with room -/

namespace State

/-- An offer that finds room changes the transmit queue and the line alone: no frame is discarded. -/
theorem offer_with_room (s : State) (p : Payload) (hl : s.txq.length < 8) :
    (s.offer p).roles = s.roles ∧ (s.offer p).notices = s.notices ∧ (s.offer p).txq.length ≤ s.txq.length + 1
      ∧ s.stamp ≤ (s.offer p).stamp := by
  cases ht : s.transmits with
  | false => rw [offer_off s p ht]; exact ⟨rfl, rfl, Nat.le_succ _, le_rfl⟩
  | true =>
    cases hc : s.txq.any (coalesces p) with
    | true => rw [offer_coalesce s p ht hc]; simp
    | false =>
      obtain ⟨hroles, -, hnotices, -, hstamp⟩ := enter_keeps s p
      rw [offer_room s p ht hc hl]
      exact ⟨hroles, hnotices, (enter_length s p).le, by omega⟩

/-- Every frame of a queue with room, after an offer, is the offered one or was there before. -/
theorem offer_payload_mem (s : State) (p : Payload) (hl : s.txq.length < 8) :
    ∀ e ∈ (s.offer p).txq, e.payload = p ∨ ∃ x ∈ s.txq, x.payload = e.payload := by
  intro e he
  cases ht : s.transmits with
  | false => rw [offer_off s p ht] at he; exact .inr ⟨e, he, rfl⟩
  | true =>
    cases hc : s.txq.any (coalesces p) with
    | true =>
      rw [offer_coalesce s p ht hc] at he
      obtain ⟨x, hx, rfl⟩ := List.mem_map.mp he
      unfold coalesce
      repeat' split
      · exact .inr ⟨x, hx, rfl⟩
      · exact .inr ⟨x, hx, rfl⟩
      · exact .inl rfl
      · exact .inr ⟨x, hx, rfl⟩
    | false =>
      rw [offer_room s p ht hc hl] at he
      have hpayloads : (s.enter p).txq.map (·.payload) = (insertEntry ⟨p, s.stamp, 0, false, none⟩ s.txq).map (·.payload) := by
        unfold enter startHead
        split
        · exact markHead_map _ (fun _ => rfl) _
        · rfl
      have hmem : e.payload ∈ (insertEntry ⟨p, s.stamp, 0, false, none⟩ s.txq).map (·.payload) :=
        hpayloads ▸ List.mem_map_of_mem he
      obtain ⟨x, hx, hxe⟩ := List.mem_map.mp hmem
      rcases (insertEntry_mem _ _ _).mp hx with rfl | hx
      · exact .inl hxe.symm
      · exact .inr ⟨x, hx, hxe⟩

/-- A frame in a queue with room that an offer does not coalesce with stays in it, with its instant. -/
theorem offer_keeps_entry (s : State) (p : Payload) (hl : s.txq.length < 8) (e : QEntry) (he : e ∈ s.txq)
    (hc : coalesces p e = false) : ∃ x ∈ (s.offer p).txq, x.payload = e.payload ∧ x.stamp = e.stamp := by
  cases ht : s.transmits with
  | false => rw [offer_off s p ht]; exact ⟨e, he, rfl, rfl⟩
  | true =>
    cases hany : s.txq.any (coalesces p) with
    | true =>
      rw [offer_coalesce s p ht hany]
      exact ⟨e, List.mem_map.mpr ⟨e, he, by simp [coalesce, hc]⟩, rfl, rfl⟩
    | false =>
      rw [offer_room s p ht hany hl]
      have hmarks : (s.enter p).txq.map (fun x => (x.payload, x.stamp)) =
          (insertEntry ⟨p, s.stamp, 0, false, none⟩ s.txq).map (fun x => (x.payload, x.stamp)) := by
        unfold enter startHead
        split
        · exact markHead_map _ (fun _ => rfl) _
        · rfl
      have hmem : (e.payload, e.stamp) ∈ (s.enter p).txq.map (fun x => (x.payload, x.stamp)) :=
        hmarks ▸ List.mem_map.mpr ⟨e, (insertEntry_mem _ _ _).mpr (.inr he), rfl⟩
      obtain ⟨x, hx, hxe⟩ := List.mem_map.mp hmem
      simp only [Prod.mk.injEq] at hxe
      exact ⟨x, hx, hxe.1, hxe.2⟩

/-- An offer leaves what does not look at role records (R147). -/
theorem offer_map {α : Type} (g : Role → α) (hg : ∀ role sh, g { role with ship := sh } = g role) (s : State) (p : Payload) :
    (s.offer p).roles.map g = s.roles.map g := by
  have htold (u : State) (v : Payload) : (u.reportDiscard v).roles.map g = u.roles.map g := by
    unfold reportDiscard
    split
    · split
      · exact map_modify_of_same g _ _ _ fun role => hg role _
      · rfl
    all_goals rfl
  unfold offer discard
  repeat' split
  all_goals simp [htold]

end State

/-! ### One role at the end of an event -/

/-- A drive record after the end of an event: the mark of its STATUS is clear, and its status timer has restarted if it acts and
a STATUS was due (R45). -/
def Drive.flushed (now : Nat) (d : Drive) : Drive :=
  if d.statusDue then
    if d.state = .released then { d with statusDue := false }
    else { d with statusDue := false, statusTimer := .running (now + 1000) }
  else d

/-- A role with its drive, its role record apart. -/
def Role.body (role : Role) : RoleCfg × ClaimTable × Drive := (role.cfg, role.claims, role.drive)

namespace State

/-- A role's end of an event: its drive record, and its STATUS if that is due and it acts (R45). -/
theorem flushRole_eq (s : State) (r : Nat) (role : Role) (h : s.roles[r]? = some role) :
    s.flushRole r =
      if role.drive.statusDue = true ∧ role.drive.state ≠ .released
      then (s.modDrive r (Drive.flushed s.now)).offer (.status (s.statusContent role))
      else s.modDrive r (Drive.flushed s.now) := by
  have hdrive (f : Drive → Drive) (hf : f role.drive = role.drive.flushed s.now) :
      s.modDrive r f = s.modDrive r (Drive.flushed s.now) := by
    unfold modDrive modRole
    rw [modify_congr_get]
    intro q hq
    obtain rfl : role = q := Option.some.inj (h.symm.trans hq)
    rw [hf]
  unfold flushRole
  rw [h]
  dsimp only
  by_cases hdue : role.drive.statusDue = true
  · by_cases hrel : role.drive.state = .released
    · rw [if_pos hdue, if_pos hrel, if_neg (by simp [hrel])]
      exact hdrive _ (by simp [Drive.flushed, hdue, hrel])
    · rw [if_pos hdue, if_neg hrel, if_pos ⟨hdue, hrel⟩, hdrive _ (by simp [Drive.flushed, hdue, hrel])]
  · rw [if_neg hdue, if_neg (by simp [hdue]), ← hdrive (fun d => d) (by simp [Drive.flushed, hdue])]
    unfold modDrive modRole
    rw [modify_eq_of_get _ _ _ fun _ _ => rfl]

theorem flushRole_none (s : State) (r : Nat) (h : s.roles[r]? = none) : s.flushRole r = s := by simp [flushRole, h]

/-- A role's end of an event changes its own drive, and of the roles nothing else but role records. -/
theorem flushRole_bodies (s : State) (r : Nat) :
    (s.flushRole r).roles.map Role.body = (s.modDrive r (Drive.flushed s.now)).roles.map Role.body := by
  cases h : s.roles[r]? with
  | none =>
    rw [flushRole_none s r h, modDrive_roles, modify_eq_of_get _ _ _ fun x hx => by simp [h] at hx]
  | some role =>
    rw [flushRole_eq s r role h]
    split
    · exact offer_map Role.body (fun _ _ => rfl) _ _
    · rfl

/-- A role's body after the end of an event. -/
theorem finish_body (s : State) (r : Nat) (role : Role) (h : s.roles[r]? = some role) :
    ∃ role', s.finish.roles[r]? = some role' ∧ role'.cfg = role.cfg ∧ role'.claims = role.claims
      ∧ role'.drive = role.drive.flushed s.now := by
  have hbody (u : State) (q : Nat) : (u.flushRole q).roles[r]?.map Role.body =
      if q = r then u.roles[r]?.map (fun x => (x.cfg, x.claims, x.drive.flushed u.now)) else u.roles[r]?.map Role.body := by
    rw [← List.getElem?_map, flushRole_bodies, List.getElem?_map, modDrive_roles, List.getElem?_modify]
    split <;> cases u.roles[r]? <;> rfl
  obtain ⟨before, after, he, hb, ha, -⟩ := forRoles_split flushRole s r (List.getElem?_eq_some_iff.mp h).1
  have hbefore := foldl_keeps_beside (fun u => u.roles[r]?.map Role.body = some role.body ∧ u.now = s.now) flushRole r
    (fun u q hq ⟨hu, hn⟩ => ⟨by rw [hbody, if_neg hq, hu], by simpa using hn⟩) before hb s ⟨by rw [h]; rfl, rfl⟩
  obtain ⟨hu, hn⟩ := hbefore
  have hat : ((before.foldl flushRole s).flushRole r).roles[r]?.map Role.body =
      some (role.cfg, role.claims, role.drive.flushed s.now) := by
    rw [hbody, if_pos rfl, hn]
    obtain ⟨x, hx, hxb⟩ := Option.map_eq_some_iff.mp hu
    simp only [Role.body, Prod.mk.injEq] at hxb
    obtain ⟨hcfg, hclaims, hdrive⟩ := hxb
    rw [hx, Option.map_some, hcfg, hclaims, hdrive]
  have hafter := foldl_keeps_beside
    (fun u => u.roles[r]?.map Role.body = some (role.cfg, role.claims, role.drive.flushed s.now)) flushRole r
    (fun u q hq hu => by rw [hbody, if_neg hq, hu]) after ha _ hat
  rw [← he] at hafter
  obtain ⟨role', hr', hb'⟩ := Option.map_eq_some_iff.mp hafter
  simp only [Role.body, Prod.mk.injEq] at hb'
  exact ⟨role', hr', hb'⟩

/-! ### The end of an event with room in the queue -/

/-- With room a role's end of an event changes its drive, the transmit queue and the line alone. -/
theorem flushRole_with_room (s : State) (r : Nat) (hl : s.txq.length < 8) :
    (s.flushRole r).roles = s.roles.modify r (fun q => { q with drive := q.drive.flushed s.now })
      ∧ (s.flushRole r).notices = s.notices ∧ (s.flushRole r).txq.length ≤ s.txq.length + 1
      ∧ s.stamp ≤ (s.flushRole r).stamp := by
  cases h : s.roles[r]? with
  | none =>
    rw [flushRole_none s r h, modify_eq_of_get _ _ _ fun x hx => by simp [h] at hx]
    exact ⟨rfl, rfl, Nat.le_succ _, le_rfl⟩
  | some role =>
    rw [flushRole_eq s r role h]
    split
    · exact offer_with_room (s.modDrive r (Drive.flushed s.now)) _ hl
    · exact ⟨rfl, rfl, Nat.le_succ _, le_rfl⟩

/-- What every role keeps true at the end of an event with room, several keep true. -/
theorem flushes_keep (P : State → Prop) (xs : List Nat) (s : State) (hl : s.txq.length + xs.length ≤ 8)
    (h : ∀ (u : State) (q : Nat), q ∈ xs → u.txq.length < 8 → P u → P (u.flushRole q)) (hs : P s) : P (xs.foldl flushRole s) := by
  induction xs generalizing s with
  | nil => exact hs
  | cons x xs ih =>
    rw [List.length_cons] at hl
    have hroom : s.txq.length < 8 := by omega
    obtain ⟨-, -, hlen, -⟩ := flushRole_with_room s x hroom
    exact ih _ (by omega) (fun u q hq => h u q (List.mem_cons_of_mem _ hq)) (h s x List.mem_cons_self hroom hs)

/-- With room the end of an event posts nothing. -/
theorem finish_notices (s : State) (hl : s.txq.length + s.roles.length ≤ 8) : s.finish.notices = s.notices :=
  flushes_keep (fun u => u.notices = s.notices) _ s (by simpa using hl)
    (fun u q _ hroom hu => (flushRole_with_room u q hroom).2.1.trans hu) rfl

/-- The number of entries after several roles' ends of an event. -/
theorem flushes_length (xs : List Nat) (s : State) (hl : s.txq.length + xs.length ≤ 8) :
    (xs.foldl flushRole s).txq.length ≤ s.txq.length + xs.length := by
  induction xs generalizing s with
  | nil => simp
  | cons x xs ih =>
    rw [List.length_cons] at hl
    obtain ⟨-, -, hlen, -⟩ := flushRole_with_room s x (by omega)
    have := ih (s.flushRole x) (by omega)
    rw [List.foldl_cons, List.length_cons]
    omega

end State

/-! ### A STATUS queued at the end of an event -/

/-- A STATUS coalesces with the STATUS of its group (R143). -/
theorem coalesces_status (c : StatusContent) (e : QEntry) : coalesces (.status c) e = e.isFor .status c.group := by
  unfold coalesces QEntry.isFor
  cases e.payload with
  | status d => simp [payloadKind, payloadSubject, Bool.beq_comm]
  | demand items => rfl
  | takeover g ep => rfl
  | handback g ep => rfl
  | yield g ep a l => rfl
  | alert k i v => rfl

@[simp] theorem Drive.flushed_state (now : Nat) (d : Drive) : (d.flushed now).state = d.state := by
  unfold Drive.flushed; repeat' split
  all_goals rfl
@[simp] theorem Drive.flushed_level (now : Nat) (d : Drive) : (d.flushed now).level = d.level := by
  unfold Drive.flushed; repeat' split
  all_goals rfl
@[simp] theorem Drive.flushed_target (now : Nat) (d : Drive) : (d.flushed now).target = d.target := by
  unfold Drive.flushed; repeat' split
  all_goals rfl
@[simp] theorem Drive.flushed_condition (now : Nat) (d : Drive) : (d.flushed now).condition = d.condition := by
  unfold Drive.flushed; repeat' split
  all_goals rfl

namespace State

/-- The STATUS of another role leaves a group without one. -/
theorem flushRole_no_status (s : State) (r g : Nat) (hl : s.txq.length < 8)
    (hg : ∀ role, s.roles[r]? = some role → role.cfg.group ≠ g) (hn : ∀ e ∈ s.txq, e.isFor .status g = false) :
    ∀ e ∈ (s.flushRole r).txq, e.isFor .status g = false := by
  cases h : s.roles[r]? with
  | none => rwa [flushRole_none s r h]
  | some role =>
    rw [flushRole_eq s r role h]
    split
    · intro e he
      rcases offer_payload_mem (s.modDrive r (Drive.flushed s.now)) _ hl e he with hp | ⟨x, hx, hp⟩
      · unfold QEntry.isFor
        rw [hp]
        simpa [payloadKind, payloadSubject, statusContent] using hg role h
      · have := hn x hx
        unfold QEntry.isFor at this ⊢
        rwa [hp] at this
    · exact hn

/-- A STATUS in a queue with room stays in it at the end of the event of another role. -/
theorem flushRole_keeps_status (s : State) (r n : Nat) (c : StatusContent) (hl : s.txq.length < 8)
    (hg : ∀ role, s.roles[r]? = some role → role.cfg.group ≠ c.group) (hq : Queued s n (.status c)) :
    Queued (s.flushRole r) n (.status c) := by
  cases h : s.roles[r]? with
  | none => rwa [flushRole_none s r h]
  | some role =>
    rw [flushRole_eq s r role h]
    split
    · obtain ⟨e, he, hp, hn⟩ := hq
      have hc : coalesces (.status (s.statusContent role)) e = false := by
        rw [coalesces_status]
        unfold QEntry.isFor
        rw [hp]
        simpa [payloadKind, payloadSubject, statusContent] using (hg role h).symm
      obtain ⟨x, hx, hxp, hxs⟩ := offer_keeps_entry (s.modDrive r (Drive.flushed s.now)) _ hl e he hc
      exact ⟨x, hx, hxp.trans hp, hn.trans_eq hxs.symm⟩
    · exact hq

/-- Two roles of one group are one. -/
theorem groups_differ {s : State} (hd : (s.roles.map (·.cfg.group)).Nodup) {r q : Nat} {role x : Role} (hr : s.roles[r]? = some role)
    (hq : s.roles[q]? = some x) (hne : q ≠ r) : x.cfg.group ≠ role.cfg.group := by
  obtain ⟨hqlt, hqx⟩ := List.getElem?_eq_some_iff.mp hq
  obtain ⟨hrlt, hrx⟩ := List.getElem?_eq_some_iff.mp hr
  have := (hd.getElem_inj_iff (hi := by simpa using hqlt) (hj := by simpa using hrlt)).not.mpr hne
  simpa [hqx, hrx] using this

/-- A driven role whose STATUS is due has it in the queue after the end of the event, with the present content, where the queue
has room and holds none of its group (R45, R46). -/
theorem finish_queued (s : State) (r : Nat) (role role' : Role) (h : s.roles[r]? = some role) (ht : s.transmits = true)
    (hdue : role.drive.statusDue = true) (hdriven : role.drive.state ≠ .released) (hd : (s.roles.map (·.cfg.group)).Nodup)
    (hroom : s.txq.length + s.roles.length ≤ 8) (hnone : ∀ e ∈ s.txq, e.isFor .status role.cfg.group = false)
    (h' : s.finish.roles[r]? = some role') : Queued s.finish s.stamp (.status (s.finish.statusContent role')) := by
  have hgroups (u : State) (q : Nat) (hl : u.txq.length < 8) :
      (u.flushRole q).roles.map (·.cfg.group) = u.roles.map (·.cfg.group) := by
    rw [(flushRole_with_room u q hl).1]
    exact map_modify_of_same _ _ _ _ fun _ => rfl
  have hget (u : State) (q : Nat) (x : Role) (hq : q ≠ r) (hl : u.txq.length < 8) (hx : u.roles[r]? = some x) :
      (u.flushRole q).roles[r]? = some x := by
    rw [(flushRole_with_room u q hl).1]
    simp [hq, hx]
  obtain ⟨before, after, he, hb, ha, hlen⟩ := forRoles_split flushRole s r (List.getElem?_eq_some_iff.mp h).1
  let u := before.foldl flushRole s
  obtain ⟨hur, hug, hun, hus, huc, huf⟩ : u.roles[r]? = some role ∧ u.roles.map (·.cfg.group) = s.roles.map (·.cfg.group)
      ∧ (∀ e ∈ u.txq, e.isFor .status role.cfg.group = false) ∧ s.stamp ≤ u.stamp ∧ u.ctl = s.ctl ∧ u.fans = s.fans := by
    refine flushes_keep (fun u => u.roles[r]? = some role ∧ u.roles.map (·.cfg.group) = s.roles.map (·.cfg.group)
      ∧ (∀ e ∈ u.txq, e.isFor .status role.cfg.group = false) ∧ s.stamp ≤ u.stamp ∧ u.ctl = s.ctl ∧ u.fans = s.fans)
      before s (by omega) ?_ ⟨h, rfl, hnone, le_rfl, rfl, rfl⟩
    rintro v q hq hl ⟨hvr, hvg, hvn, hvs, hvc, hvf⟩
    have hne : q ≠ r := fun e => hb (e ▸ hq)
    exact ⟨hget v q role hne hl hvr, (hgroups v q hl).trans hvg,
      flushRole_no_status v q _ hl (fun x hx => groups_differ (hvg ▸ hd) hvr hx hne) hvn,
      hvs.trans (flushRole_with_room v q hl).2.2.2, by simpa using hvc, by simpa using hvf⟩
  have hul : u.txq.length ≤ s.txq.length + before.length := flushes_length before s (by omega)
  have hroomu : u.txq.length < 8 := by omega
  let w := u.flushRole r
  have hwr : w.roles[r]? = some { role with drive := role.drive.flushed u.now } := by
    rw [(flushRole_with_room u r hroomu).1]
    simp [hur]
  have hwq : Queued w s.stamp (.status (u.statusContent role)) := by
    have hany : (u.modDrive r (Drive.flushed u.now)).txq.any (coalesces (.status (u.statusContent role))) = false :=
      List.any_eq_false.mpr fun e hm => by rw [coalesces_status]; simpa [statusContent] using hun e hm
    have htu : (u.modDrive r (Drive.flushed u.now)).transmits = true := (transmits_of_ctl huc).trans ht
    have : w = (u.modDrive r (Drive.flushed u.now)).enter (.status (u.statusContent role)) := by
      rw [show w = u.flushRole r from rfl, flushRole_eq u r role hur, if_pos ⟨hdue, hdriven⟩, offer_room _ _ htu hany hroomu]
    obtain ⟨e, hm, hp, hn⟩ := enter_queued (u.modDrive r (Drive.flushed u.now)) (.status (u.statusContent role))
    exact this ▸ ⟨e, hm, hp, hus.trans hn⟩
  have hwl : w.txq.length + after.length ≤ 8 := by
    have : w.txq.length ≤ u.txq.length + 1 := (flushRole_with_room u r hroomu).2.2.1
    omega
  obtain ⟨hq, hr', -⟩ : Queued s.finish s.stamp (.status (u.statusContent role))
      ∧ s.finish.roles[r]? = some { role with drive := role.drive.flushed u.now }
      ∧ s.finish.roles.map (·.cfg.group) = s.roles.map (·.cfg.group) := by
    rw [show s.finish = after.foldl flushRole w from he]
    refine flushes_keep (fun v => Queued v s.stamp (.status (u.statusContent role))
      ∧ v.roles[r]? = some { role with drive := role.drive.flushed u.now }
      ∧ v.roles.map (·.cfg.group) = s.roles.map (·.cfg.group)) after w hwl ?_ ⟨hwq, hwr, (hgroups u r hroomu).trans hug⟩
    rintro v q hq hl ⟨hvq, hvr, hvg⟩
    have hne : q ≠ r := fun e => ha (e ▸ hq)
    have hother : ∀ x, v.roles[q]? = some x → x.cfg.group ≠ role.cfg.group := fun x hx => by
      have hdiffer := groups_differ (hvg ▸ hd) hvr hx hne
      exact hdiffer
    exact ⟨flushRole_keeps_status v q _ _ hl hother hvq, hget v q _ hne hl hvr,
      (hgroups v q hl).trans hvg⟩
  obtain rfl : _ = role' := Option.some.inj (hr'.symm.trans h')
  have hcontent : s.finish.statusContent { role with drive := role.drive.flushed u.now } = u.statusContent role := by
    simp [statusContent, speedsOf, huf]
  rw [hcontent]
  exact hq

end State
end Sys2Proof.Machine
end

section
/-! SUPPORT. The tables that a DEMAND leaves, in the words of its statement, and what its frame leaves beside them (R8, R140, R154). -/

namespace Sys2Proof.Machine

/-! ### One table, in the words of the rules -/

/-- Where no station stands twice, a station's entry is the one that is found. -/
theorem ClaimTable.find_unique (t : ClaimTable) (n : Nat) (e x : ClaimEntry) (hn : (t.entries.map (·.station)).Nodup)
    (he : t.find n = some e) (hx : x ∈ t.entries) (hs : x.station = n) : x = e := by
  have hes : e.station = n := by simpa using List.find?_some he
  exact List.inj_on_of_nodup_map hn hx (List.mem_of_find?_eq_some he) (hs.trans hes.symm)

/-- Changing a station's entry in place, in two ways that agree on the entry found. -/
theorem ClaimTable.update_congr (t : ClaimTable) (n : Nat) (e : ClaimEntry) (f g : ClaimEntry → ClaimEntry)
    (hn : (t.entries.map (·.station)).Nodup) (he : t.find n = some e) (hfg : f e = g e) : t.update n f = t.update n g := by
  unfold ClaimTable.update
  congr 1
  apply List.map_congr_left
  intro x hx
  split
  · next hs => rw [t.find_unique n e x hn he hx hs, hfg]
  · rfl

/-- Changing a station's entry into itself. -/
theorem ClaimTable.update_self (t : ClaimTable) (n : Nat) : t.update n (fun e => e) = t := by
  simp [ClaimTable.update]

/-- A listed claim is refreshed in its place (R9, R15). -/
theorem ClaimTable.taken_refreshed (t : ClaimTable) (now n pool claimMs : Nat) (item : DemandItem) (e : ClaimEntry)
    (hn : (t.entries.map (·.station)).Nodup) (he : t.find n = some e) (hk : e.kind ≠ .own) :
    t.taken now n pool claimMs item = t.update n (fun x => { x with
      live := some ⟨item.level, item.reason, now⟩, lossReported := x.lossReported && x.kind != .required }) := by
  unfold ClaimTable.taken ClaimTable.refreshed
  rw [he]
  cases hkind : e.kind with
  | own => exact absurd hkind hk
  | ordinary =>
    simp only [hkind]
    refine t.update_congr n e _ _ hn he ?_
    simp [hkind]
  | required =>
    simp only [hkind]
    refine t.update_congr n e _ _ hn he ?_
    simp [hkind]

/-- A withdrawn contributor becomes AWAITED, and is marked after the grace (R10, R15). -/
theorem ClaimTable.ended_required (t : ClaimTable) (n : Nat) (e : ClaimEntry) (hn : (t.entries.map (·.station)).Nodup)
    (he : t.find n = some e) (hk : e.kind = .required) :
    t.ended n = t.update n (fun x => { x with
      live := none, lossReported := x.lossReported || (x.live.isSome && t.graceEnded) }) := by
  unfold ClaimTable.ended
  rw [he]
  cases hl : e.live with
  | none =>
    simp only [hk, hl]
    refine (t.update_self n).symm.trans (t.update_congr n e _ _ hn he ?_)
    cases e
    simp_all
  | some l =>
    simp only [hk, hl]
    refine t.update_congr n e _ _ hn he ?_
    simp [hl]

/-- A new claim on a table without room (R17, R18). -/
theorem claimExhausted_crowded (now n : Nat) (role : Role) (item : DemandItem) :
    ClaimExhausted now n role item (role.claims.crowded now n role.cfg.claimMs item) := by
  refine ⟨fun i e hi he hlow => ?_, fun hnone => ?_⟩
  · have hev := role.claims.evicted_eq_some item.level i e hi he hlow
    have hfilter : (fun x : ClaimEntry => x.station != e.station) = fun x => decide (x.station ≠ e.station) := by
      funext x; simp [bne, BEq.beq]
    simp only [ClaimTable.crowded, hev, ClaimTable.append, ClaimTable.remove, hfilter]
  · simp only [ClaimTable.crowded, (ClaimTable.evicted_eq_none _ _).mpr hnone, ClaimTable.folded]

/-- The table of a role after a DEMAND of a station: the clauses of R8 to R11, R15, R17 and R18, where each listed entry finds so
many entries in all tables, and the count of a new claim's pool is vouched for. -/
def TableTaken (now n : Nat) (items : List DemandItem) (pool : Nat → Nat) (counted : Prop) (role : Role) (claims : ClaimTable) :
    Prop :=
  (∀ (i : Nat) (item : DemandItem), items[i]? = some item → item.group = role.cfg.group →
      (∀ e, role.claims.find n = some e → e.kind ≠ .own →
          claims = { role.claims with
            entries := role.claims.entries.map (fun x => if x.station = n
              then { x with
                live := some ⟨item.level, item.reason, now⟩,
                lossReported := x.lossReported && x.kind != .required }
              else x) })
        ∧ (role.claims.find n = none → counted →
            (pool i < 48 ∧ role.claims.entries.length < 16 →
                claims = { role.claims with
                  entries := role.claims.entries ++ [⟨n, .ordinary, some ⟨item.level, item.reason, now⟩, false⟩] })
              ∧ (¬(pool i < 48 ∧ role.claims.entries.length < 16) → ClaimExhausted now n role item claims)))
    ∧ ((∀ item ∈ items, item.group ≠ role.cfg.group) →
        (role.claims.find n = none → claims = role.claims)
          ∧ (∀ e, role.claims.find n = some e → e.kind = .ordinary →
              claims = { role.claims with entries := role.claims.entries.filter (·.station ≠ n) })
          ∧ (∀ e, role.claims.find n = some e → e.kind = .required →
              claims = { role.claims with
                entries := role.claims.entries.map (fun x => if x.station = n
                  then { x with
                    live := none,
                    lossReported := x.lossReported || (x.live.isSome && role.claims.graceEnded) }
                  else x) }))

/-- The table of a role whose group is not listed. -/
theorem tableTaken_unlisted (now n : Nat) (items : List DemandItem) (pool : Nat → Nat) (counted : Prop) (role : Role)
    (hn : (role.claims.entries.map (·.station)).Nodup) (hg : ∀ item ∈ items, item.group ≠ role.cfg.group) :
    TableTaken now n items pool counted role (role.claims.ended n) := by
  refine ⟨fun i item hi he => absurd he (hg item (List.mem_of_getElem? hi)), fun _ => ⟨fun hf => ?_, fun e he hk => ?_, fun e he hk => ?_⟩⟩
  · simp [ClaimTable.ended, hf]
  · have hfilter : (fun x : ClaimEntry => x.station != n) = fun x => decide (x.station ≠ n) := by
      funext x; simp [bne, BEq.beq]
    simp only [ClaimTable.ended, he, hk, ClaimTable.remove, hfilter]
  · exact role.claims.ended_required n e hn he hk

/-- The table of a role whose group a listed entry names. -/
theorem tableTaken_listed (now n p i : Nat) (items : List DemandItem) (pool : Nat → Nat) (counted : Prop) (role : Role)
    (item : DemandItem) (hn : (role.claims.entries.map (·.station)).Nodup) (hd : (items.map (·.group)).Nodup)
    (hi : items[i]? = some item) (hg : item.group = role.cfg.group) (hp : counted → p = pool i) :
    TableTaken now n items pool counted role (role.claims.taken now n p role.cfg.claimMs item) := by
  refine ⟨fun j x hj hx => ?_, fun hnone => absurd hg (hnone item (List.mem_of_getElem? hi))⟩
  obtain rfl : i = j := by
    obtain ⟨hilt, hie⟩ := List.getElem?_eq_some_iff.mp hi
    obtain ⟨hjlt, hje⟩ := List.getElem?_eq_some_iff.mp hj
    refine (hd.getElem_inj_iff (hi := by simpa using hilt) (hj := by simpa using hjlt)).mp ?_
    simp [hie, hje, hg, hx]
  obtain rfl : item = x := Option.some.inj (hi.symm.trans hj)
  refine ⟨fun e he hk => role.claims.taken_refreshed now n p role.cfg.claimMs item e hn he hk, fun hf hc => ?_⟩
  have htaken : role.claims.taken now n p role.cfg.claimMs item = role.claims.claimed now n p role.cfg.claimMs item := by
    simp only [ClaimTable.taken, hf]
  rw [htaken, hp hc]
  unfold ClaimTable.claimed
  refine ⟨fun hroom => ?_, fun hroom => ?_⟩
  · rw [if_pos hroom]; rfl
  · rw [if_neg hroom]; exact claimExhausted_crowded now n role item

/-- No station stands twice in a table. -/
def StationsOnce (s : State) : Prop := ∀ role ∈ s.roles, (role.claims.entries.map (·.station)).Nodup

/-- Every role's table after a DEMAND (R8). -/
theorem State.takeClaims_table (s : State) (n : Nat) (items : List DemandItem) (hd : (items.map (·.group)).Nodup)
    (hroles : (s.roles.map (·.cfg.group)).Nodup) (r : Nat) (role : Role) (h : s.roles[r]? = some role)
    (hn : (role.claims.entries.map (·.station)).Nodup) :
    ∃ claims, (s.takeClaims n items).roles[r]? = some (role.withClaims claims)
      ∧ TableTaken s.now n items (poolAt s n items) (StationsOnce s) role claims := by
  by_cases hlisted : ∃ item ∈ items, item.group = role.cfg.group
  · obtain ⟨item, hmem, hg⟩ := hlisted
    obtain ⟨i, hi⟩ := List.mem_iff_getElem?.mp hmem
    obtain ⟨p, hget, hp⟩ := s.takeClaims_get_listed n items hd hroles r i role item h hi hg
    exact ⟨_, hget, tableTaken_listed s.now n p i items _ _ role item hn hd hi hg hp⟩
  · have hg : ∀ item ∈ items, item.group ≠ role.cfg.group := fun item hi hg => hlisted ⟨item, hi, hg⟩
    exact ⟨_, s.takeClaims_get_unlisted n items r role h hg, tableTaken_unlisted s.now n items _ _ role hn hg⟩

/-! ### What is counted depends on the claim sides alone -/

theorem listedRole_claimSide (s : State) (item : DemandItem) :
    (listedRole s item).map Role.claimSide = (s.roles.map Role.claimSide).find? (fun c => c.1.group == item.group) := by
  rw [List.find?_map]; rfl

theorem poolAfter_of_claimSides {s u : State} (h : u.roles.map Role.claimSide = s.roles.map Role.claimSide) (n : Nat) :
    poolAfter u n = poolAfter s n := by
  funext pool item
  have hlisted : (listedRole u item).map Role.claimSide = (listedRole s item).map Role.claimSide := by
    rw [listedRole_claimSide, listedRole_claimSide, h]
  unfold poolAfter
  cases hs : listedRole s item with
  | none =>
    rw [hs, Option.map_none, Option.map_eq_none_iff] at hlisted
    rw [hlisted]
  | some role =>
    rw [hs] at hlisted
    obtain ⟨q, hq, he⟩ := Option.map_eq_some_iff.mp hlisted
    obtain ⟨-, hclaims, -⟩ := (Role.claimSide_eq_iff q role).mp he
    simp [hq, roomFor, hclaims]

theorem poolAt_of_claimSides {s u : State} (h : u.roles.map Role.claimSide = s.roles.map Role.claimSide) (n : Nat)
    (items : List DemandItem) : poolAt u n items = poolAt s n items := by
  have hwithdrawn (v : State) : poolWithdrawn v n items = ((v.roles.map Role.claimSide).map (fun c =>
      if items.all (fun i => i.group != c.1.group) && (c.2.1.find n).any (fun e => e.kind == .ordinary)
      then c.2.1.entries.length - 1 else c.2.1.entries.length)).sum := by
    rw [List.map_map]; rfl
  funext i
  unfold poolAt
  rw [poolAfter_of_claimSides h, hwithdrawn, hwithdrawn, h]

theorem stationsOnce_of_claimSides {s u : State} (h : u.roles.map Role.claimSide = s.roles.map Role.claimSide) :
    StationsOnce u ↔ StationsOnce s := by
  have hsides (v : State) : StationsOnce v ↔ ∀ c ∈ v.roles.map Role.claimSide, (c.2.1.entries.map (·.station)).Nodup := by
    simp [StationsOnce, Role.claimSide]
  rw [hsides, hsides, h]

/-- The notices of a DEMAND depend on the roles alone. -/
theorem demandNotices_of_roles {s u : State} (h : u.roles = s.roles) (n : Nat) (items : List DemandItem) :
    demandNotices u n items = demandNotices s n items := by
  have hlisted : listedRole u = listedRole s := by funext item; simp only [listedRole, h]
  have hpool : poolAt u n items = poolAt s n items := poolAt_of_claimSides (by rw [h]) n items
  have hitem : itemNotice u n = itemNotice s n := by funext pool item; simp only [itemNotice, hlisted]
  unfold demandNotices
  rw [hpool, hitem, h]

end Sys2Proof.Machine
end

section
/-! A DEMAND frame at the receiver, at the claim tables and at the drives (R8, R128, R140, R154). -/

open Sys2Proof Sys2Proof.Machine

namespace Sys2Proof.Machine

namespace State

/-! ### The line while no frame is started -/

/-- On a line that is not IDLE an offer starts no frame. -/
theorem offer_line (s : State) (p : Payload) (h : s.line.state ≠ .idle) : (s.offer p).line = s.line := by
  have henter (u : State) (hu : u.line = s.line) : (u.enter p).line = s.line := by
    simp [enter, startHead, hu, h]
  unfold offer
  repeat' split
  · rfl
  · rfl
  · exact henter s rfl
  · simp [henter]
  · simp

theorem queueHandback_line (s : State) (r : Nat) (h : s.line.state ≠ .idle) : (s.queueHandback r).line = s.line := by
  unfold queueHandback
  repeat' split
  · rfl
  · rfl
  · exact offer_line _ _ h

theorem roleRejoined_line (s : State) (r : Nat) (h : s.line.state ≠ .idle) : (s.roleRejoined r).line = s.line := by
  unfold roleRejoined
  dsimp only
  repeat' split
  · rfl
  · exact queueHandback_line _ r h
  · rfl

theorem flushRole_line (s : State) (r : Nat) (h : s.line.state ≠ .idle) : (s.flushRole r).line = s.line := by
  unfold flushRole
  repeat' split
  · rfl
  · rfl
  · exact offer_line _ _ h
  · rfl

/-- A run over the roles whose parts start no frame starts none. -/
theorem forRoles_line (f : State → Nat → State) (hf : ∀ (u : State) (r : Nat), u.line.state ≠ .idle → (f u r).line = u.line)
    (s : State) (h : s.line.state ≠ .idle) : (s.forRoles f).line = s.line :=
  forRoles_keeps (fun u => u.line = s.line) f s (fun u r hu => (hf u r (by rwa [hu])).trans hu) rfl

theorem finish_line (s : State) (h : s.line.state ≠ .idle) : s.finish.line = s.line := forRoles_line _ flushRole_line s h

theorem rejoin_line (s : State) (n : Nat) (h : s.line.state ≠ .idle) : (s.rejoin n).line = s.line := by
  unfold rejoin
  rw [forRoles_line _ roleRejoined_line _ (by simpa using h)]
  simp

theorem peerTakes_line (s : State) (n : Nat) (p : Payload) (h : s.line.state ≠ .idle) : (s.peerTakes n p).line = s.line := by
  have hlink (u : State) (hu : u.line = s.line) : (u.linkTakes n).line = s.line := by
    unfold linkTakes
    repeat' split
    · exact (rejoin_line u n (by rwa [hu])).trans hu
    · exact hu
    · exact hu
  simp [peerTakes, hlink]

/-! ### The Peer Unit at a DEMAND -/

theorem rosterTakes_isolated (s : State) (n : Nat) (kind : FrameKind) :
    (s.rosterTakes n kind).peers.isolated = s.peers.isolated := by
  unfold rosterTakes
  split <;> rfl

/-- Out of isolation a frame at the link silence timer changes that timer alone (R152). -/
theorem linkTakes_connected (s : State) (n : Nat) (h : s.peers.isolated = false) :
    (s.linkTakes n).roles = s.roles ∧ (s.linkTakes n).fans = s.fans ∧ (s.linkTakes n).txq = s.txq
      ∧ (s.linkTakes n).stamp = s.stamp ∧ (s.linkTakes n).notices = s.notices := by
  unfold linkTakes
  rw [h]
  split
  · exact ⟨rfl, rfl, rfl, rfl, rfl⟩
  · exact ⟨rfl, rfl, rfl, rfl, rfl⟩

/-- At a DEMAND the Peer Unit of a station that is not ISOLATED leaves the roles, the fans and the transmit queue alone. -/
theorem peerTakes_demand (s : State) (n : Nat) (items : List DemandItem) (h : s.peers.isolated = false) :
    (s.peerTakes n (.demand items)).roles = s.roles ∧ (s.peerTakes n (.demand items)).fans = s.fans
      ∧ (s.peerTakes n (.demand items)).txq = s.txq ∧ (s.peerTakes n (.demand items)).stamp = s.stamp := by
  obtain ⟨hroles, hfans, htxq, hstamp, -⟩ :=
    (s.rosterTakes n .demand).linkTakes_connected n ((rosterTakes_isolated s n _).trans h)
  simp [peerTakes, payloadKind, hroles, hfans, htxq, hstamp]

/-- A known peer's DEMAND posts nothing at the Peer Unit. -/
theorem peerTakes_demand_notices (s : State) (n : Nat) (items : List DemandItem) (h : s.peers.isolated = false)
    (hn : s.peers.roster.any (fun x => x.station == n) = true) : (s.peerTakes n (.demand items)).notices = s.notices := by
  obtain ⟨-, -, -, -, hnotices⟩ := (s.rosterTakes n .demand).linkTakes_connected n ((rosterTakes_isolated s n _).trans h)
  have hroster : (s.rosterTakes n .demand).notices = s.notices := by
    unfold rosterTakes
    rw [if_pos hn]
  exact hnotices.trans hroster

/-! ### The claim tables at a DEMAND -/

theorem takeDemand_frame (s : State) (n : Nat) (items : List DemandItem) :
    (s.takeDemand n items).now = s.now ∧ (s.takeDemand n items).temps = s.temps ∧ (s.takeDemand n items).line = s.line
      ∧ (s.takeDemand n items).txq = s.txq ∧ (s.takeDemand n items).stamp = s.stamp
      ∧ (s.takeDemand n items).peers = s.peers
      ∧ (s.takeDemand n items).notices = (s.takeClaims n items).notices := by
  have hclaims := takeClaims_claimsOnly s n items
  rw [takeDemand_eq]
  simp only [handTargets_frame, and_true]
  rw [hclaims]
  simp

end State

/-! ### From the receiver to the end of the event -/

/-- What a DEMAND frame leads to: the state in which the claim tables take it, and the one at whose end of the event the STATUS
are queued; the Peer Unit has acted before the one or before the other (R140, R154). -/
structure DemandRun (s : State) (n : Nat) (items : List DemandItem) (u w : State) : Prop where
  sides : u.roles.map Role.claimSide = s.roles.map Role.claimSide
  now : u.now = s.now
  wsides : w.roles.map Role.claimSide = (u.takeDemand n items).roles.map Role.claimSide
  wnow : w.now = s.now
  wtemps : w.temps = s.temps
  wline : w.line = s.line
  wctl : w.ctl = s.ctl
  /-- Out of isolation the Peer Unit leaves roles, fans and transmit queue alone. -/
  apart : s.peers.isolated = false →
    (u.roles = s.roles ∧ u.fans = s.fans) ∧ w.roles = (u.takeDemand n items).roles ∧ w.fans = (u.takeDemand n items).fans
      ∧ w.txq = s.txq ∧ w.stamp = s.stamp
  /-- A known peer's DEMAND is told of by the claim tables alone. -/
  told : s.peers.isolated = false → s.peers.roster.any (fun x => x.station == n) = true →
    w.notices = (u.takeClaims n items).notices ∧ u.notices = s.notices ∧ u.timeBase = s.timeBase

/-- A DEMAND frame delivered (R128, R138, R140). -/
theorem receive_demand (s : State) (n : Nat) (items : List DemandItem) (h : TakesFrame s n (.demand items)) :
    s.receive n (.demand items) = ((s.setLine .notIdle).deliverAll n (.demand items)).finish := by
  obtain ⟨hreceiving, htransmits, hstation, hwf, hown⟩ := h
  have hdeliver : (s.setLine .notIdle).deliver n (.demand items) = (s.setLine .notIdle).deliverAll n (.demand items) := by
    unfold State.transmits at htransmits
    unfold State.deliver
    rw [State.setLine_ctl]
    cases hs : s.ctl.state <;> simp [hs] at htransmits
    · exact if_neg hown
    · exact if_neg hown
  unfold State.receive
  rw [if_pos hreceiving, if_pos (by rw [hstation, hwf]; rfl), hdeliver]

theorem timeBase_congr {s u : State} (hctl : u.ctl = s.ctl) (hnow : u.now = s.now) : u.timeBase = s.timeBase := by
  simp [State.timeBase, hctl, hnow]

/-- The Peer Unit takes the frame before the Claim Unit. -/
theorem demandRun_peerFirst (s : State) (n : Nat) (items : List DemandItem) (hl : s.line.state ≠ .idle) :
    DemandRun s n items (s.peerTakes n (.demand items)) ((s.peerTakes n (.demand items)).takeDemand n items) := by
  obtain ⟨hnow, htemps, hline, htxq, hstamp, -, hnotices⟩ := (s.peerTakes n (.demand items)).takeDemand_frame n items
  exact {
    sides := s.peerTakes_claimSides n _
    now := by simp
    wsides := rfl
    wnow := by simp [hnow]
    wtemps := by simp [htemps]
    wline := hline.trans (s.peerTakes_line n _ hl)
    wctl := by simp
    apart := fun hi => by
      obtain ⟨hroles, hfans, hq, hs⟩ := s.peerTakes_demand n items hi
      exact ⟨⟨hroles, hfans⟩, rfl, rfl, htxq.trans hq, hstamp.trans hs⟩
    told := fun hi hn => ⟨hnotices, s.peerTakes_demand_notices n items hi hn, timeBase_congr (by simp) (by simp)⟩ }

/-- The Claim Unit takes the frame before the Peer Unit: that of a new peer, or one that ends an isolation. -/
theorem demandRun_claimsFirst (s : State) (n : Nat) (items : List DemandItem) (hl : s.line.state ≠ .idle)
    (horder : s.peers.isolated = false → s.peers.roster.any (fun x => x.station == n) = false) :
    DemandRun s n items s ((s.takeDemand n items).peerTakes n (.demand items)) := by
  obtain ⟨hnow, htemps, hline, htxq, hstamp, hpeers, -⟩ := s.takeDemand_frame n items
  exact {
    sides := rfl
    now := rfl
    wsides := State.peerTakes_claimSides ..
    wnow := by simp [hnow]
    wtemps := by simp [htemps]
    wline := (State.peerTakes_line _ n _ (by rwa [hline])).trans hline
    wctl := by simp
    apart := fun hi => by
      obtain ⟨hroles, hfans, hq, hs⟩ := (s.takeDemand n items).peerTakes_demand n items (by rwa [hpeers])
      exact ⟨⟨rfl, rfl⟩, hroles, hfans, hq.trans htxq, hs.trans hstamp⟩
    told := fun hi hn => absurd ((horder hi).symm.trans hn) (by simp) }

/-- A DEMAND frame that the station takes, whichever unit is first (R140, R154; log entry 5). -/
theorem demandRun (s : State) (n : Nat) (items : List DemandItem) (h : TakesFrame s n (.demand items)) :
    ∃ k u w, s.receive n (.demand items) = w.finish ∧ DemandRun { s.setLine .notIdle with choices := k } n items u w := by
  rw [receive_demand s n items h]
  unfold State.deliverAll
  dsimp only
  have hline (k : Nat) : ({ s.setLine .notIdle with choices := k } : State).line.state ≠ .idle := by simp
  split
  · next horder =>
    split
    · exact ⟨_, _, _, rfl, demandRun_peerFirst _ n items (hline _)⟩
    · refine ⟨_, _, _, rfl, demandRun_claimsFirst _ n items (hline _) fun hi => ?_⟩
      have hi' : s.peers.isolated = false := hi
      simpa [State.orderMatters, payloadKind, hi'] using horder
  · exact ⟨s.choices, _, _, rfl, demandRun_peerFirst _ n items (hline _)⟩

end Sys2Proof.Machine
end

section
/-! A DEMAND frame at the tables, the drives, the queue and the notices of the station that takes it (R8, R36 to R41, R45). -/

open Sys2Proof Sys2Proof.Machine

namespace Sys2Proof.Machine

/-! ### A target taken, its STATUS apart -/

/-- The status timer and the mark of a STATUS do not count at a target taken. -/
theorem TargetTaken.with_status {now : Nat} {cfg : RoleCfg} {old new : Drive} (h : TargetTaken now cfg old new) (timer : Timer)
    (due : Bool) : TargetTaken now cfg old { new with statusTimer := timer, statusDue := due } := by
  let restamp (d : Drive) : Drive := { d with statusTimer := timer, statusDue := due }
  obtain ⟨hheld, htracking, hstopped⟩ := h
  refine ⟨fun hsame => congrArg restamp (hheld hsame), fun hne ht => ?_, fun hne hs hp => congrArg restamp (hstopped hne hs hp)⟩
  obtain ⟨hnew, hrest⟩ := htracking hne ht
  exact ⟨congrArg restamp hnew, hrest⟩

theorem TargetTaken.flushed {now : Nat} {cfg : RoleCfg} {old new : Drive} (h : TargetTaken now cfg old new) (t : Nat) :
    TargetTaken now cfg old (new.flushed t) := by
  unfold Drive.flushed
  split
  · split
    · exact h.with_status new.statusTimer false
    · exact h.with_status (.running (t + 1000)) false
  · exact h

/-- A target that is the one held changes nothing. -/
theorem TargetTaken.refl (now : Nat) (cfg : RoleCfg) (d : Drive) : TargetTaken now cfg d d :=
  ⟨fun _ => rfl, fun hne => absurd rfl hne, fun hne => absurd rfl hne⟩

theorem Role.handed_taken (now : Nat) (role : Role) : TargetTaken now role.cfg role.drive (role.handed now) := by
  unfold Role.handed
  split
  · exact .refl ..
  · next hne => exact Drive.takeTarget_taken now role.cfg role.computedTarget role.drive hne

/-- A changed target above 0 takes a stopped drive to SPIN_UP, with a STATUS due (R36). -/
theorem Role.handed_spinUp (now : Nat) (role : Role) (hs : role.drive.state = .stopped) (hp : 0 < (role.handed now).target)
    (hne : (role.handed now).target ≠ role.drive.target) :
    role.computedTarget ≠ role.drive.target ∧ (role.handed now).state = .spinUp ∧ (role.handed now).statusDue = true := by
  unfold Role.handed at hp hne ⊢
  split at hne
  · exact absurd rfl hne
  · next hchanged =>
    rw [if_neg hchanged] at hp ⊢
    refine ⟨hchanged, ?_⟩
    have htarget : 0 < role.computedTarget := by
      by_contra hzero
      simp [Drive.takeTarget, hs, hzero] at hp
    simp [Drive.takeTarget, hs, htarget, Drive.enterSpinUp]

/-! ### A role's table and target -/

/-- No entry of a DEMAND changes a role's configuration. -/
theorem State.takeDemand_cfg (s : State) (n : Nat) (items : List DemandItem) :
    (s.takeDemand n items).roles.map (·.cfg) = s.roles.map (·.cfg) := by
  rw [takeDemand_eq, handTargets_map (·.cfg) (fun _ _ => rfl), takeClaims_map (·.cfg) fun _ _ => rfl]

/-- What a table takes depends on the claim side of its role alone. -/
theorem TableTaken.of_claimSide {now n : Nat} {items : List DemandItem} {pool : Nat → Nat} {counted : Prop} {role role₀ : Role}
    {claims : ClaimTable} (h : TableTaken now n items pool counted role₀ claims) (he : role₀.claimSide = role.claimSide) :
    TableTaken now n items pool counted role claims := by
  obtain ⟨hcfg, hclaims, -⟩ := (Role.claimSide_eq_iff role₀ role).mp he
  unfold TableTaken ClaimExhausted at h ⊢
  rwa [hcfg, hclaims] at h

/-- The table of a role, and its target, at the end of the event (R8, R21). -/
theorem DemandRun.tableTaken {s u w : State} {n : Nat} {items : List DemandItem} (run : DemandRun s n items u w)
    (hd : (items.map (·.group)).Nodup) (hgroups : (s.roles.map (·.cfg.group)).Nodup) (r : Nat) (role : Role)
    (h : s.roles[r]? = some role) (hn : (role.claims.entries.map (·.station)).Nodup) :
    ∃ role', w.finish.roles[r]? = some role' ∧ role'.cfg = role.cfg ∧ role'.drive.target = role'.computedTarget
      ∧ TableTaken s.now n items (poolAt s n items) (StationsOnce s) role role'.claims := by
  obtain ⟨role₀, h₀, hside₀⟩ : ∃ role₀, u.roles[r]? = some role₀ ∧ role₀.claimSide = role.claimSide := by
    apply Option.map_eq_some_iff.mp
    rw [← List.getElem?_map, run.sides, List.getElem?_map, h, Option.map_some]
  obtain ⟨hcfg₀, hclaims₀, -⟩ := (Role.claimSide_eq_iff role₀ role).mp hside₀
  have hgroups₀ : (u.roles.map (·.cfg.group)).Nodup := by
    have hmap (v : State) : v.roles.map (·.cfg.group) = (v.roles.map Role.claimSide).map (·.1.group) := by
      rw [List.map_map]; rfl
    rwa [hmap, run.sides, ← hmap]
  obtain ⟨claims, hx, htaken⟩ := u.takeClaims_table n items hd hgroups₀ r role₀ h₀ (by rwa [hclaims₀])
  rw [run.now, poolAt_of_claimSides run.sides, propext (stationsOnce_of_claimSides run.sides)] at htaken
  obtain ⟨d, hdrive, htarget⟩ := (u.takeClaims n items).handTargets_get r _ hx
  obtain ⟨role', h', hside'⟩ : ∃ role', w.finish.roles[r]? = some role'
      ∧ role'.claimSide = (role₀.cfg, claims, d.target) := by
    apply Option.map_eq_some_iff.mp
    rw [← List.getElem?_map, State.finish_claimSides, run.wsides, State.takeDemand_eq, List.getElem?_map, hdrive]
    rfl
  simp only [Role.claimSide, Prod.mk.injEq] at hside'
  obtain ⟨hcfg', hclaims', htarget'⟩ := hside'
  refine ⟨role', h', hcfg'.trans hcfg₀, ?_, hclaims' ▸ htaken.of_claimSide hside₀⟩
  rw [htarget', htarget]
  exact (Role.computedTarget_congr (role := role₀.withClaims claims) hcfg' hclaims').symm

/-! ### The drives -/

/-- The claim tables at a DEMAND change nothing of a role but its table. -/
theorem State.takeClaims_get (s : State) (n : Nat) (items : List DemandItem) (r : Nat) (role : Role) (h : s.roles[r]? = some role) :
    ∃ claims, (s.takeClaims n items).roles[r]? = some (role.withClaims claims) := by
  obtain ⟨q, hq, he⟩ : ∃ q, (s.takeClaims n items).roles[r]? = some q
      ∧ q.withClaims role.claims = role.withClaims role.claims := by
    apply Option.map_eq_some_iff.mp
    rw [← List.getElem?_map, s.takeClaims_map (·.withClaims role.claims) fun _ _ => rfl, List.getElem?_map, h, Option.map_some]
  exact ⟨q.claims, hq.trans (congrArg (fun x => some (x.withClaims q.claims)) he)⟩

/-- Out of isolation a role's drive takes its target, and is reported where that starts it (R36 to R41, R45). -/
theorem DemandRun.targetHanded {s u w : State} {n : Nat} {items : List DemandItem} (run : DemandRun s n items u w)
    (hgroups : (s.roles.map (·.cfg.group)).Nodup) (hi : s.peers.isolated = false)
    (hj : JudgedOk s) (r : Nat) (role role' : Role) (h : s.roles[r]? = some role)
    (h' : w.finish.roles[r]? = some role') :
    TargetHanded s w.finish (s.txq.length + s.roles.length ≤ 8) r role role' := by
  obtain ⟨⟨huroles, hufans⟩, hwroles, hwfans, hwtxq, hwstamp⟩ := run.apart hi
  obtain ⟨claims, hx⟩ := u.takeClaims_get n items r role (by rwa [huroles])
  have honly := u.takeClaims_claimsOnly n items
  have hfans : (u.takeClaims n items).fans = s.fans := (congrArg State.fans honly).trans hufans
  have hnow : (u.takeClaims n items).now = s.now := (congrArg State.now honly).trans run.now
  have hjudged : RoleJudged (u.takeClaims n items) r (role.withClaims claims) := by
    have hrole := hj.role r role h
    unfold RoleJudged State.healths at hrole ⊢
    rwa [hfans]
  obtain ⟨hdrive, houtputs⟩ := State.handTargets_judged _ r _ hx hjudged
  rw [hnow] at hdrive houtputs
  rw [← State.takeDemand_eq, ← hwroles] at hdrive
  rw [← State.takeDemand_eq, ← hwfans] at houtputs
  obtain ⟨role₁, h₁, hcfg₁, -, hdrive₁⟩ := w.finish_body r _ hdrive
  obtain rfl : role₁ = role' := Option.some.inj (h₁.symm.trans h')
  have htnow : w.finish.now = s.now := by simpa using run.wnow
  rw [run.wnow] at hdrive₁
  refine ⟨?_, fun hstopped hpos hne => ?_⟩
  · rw [htnow, hdrive₁]
    exact ((role.withClaims claims).handed_taken s.now).flushed s.now
  · rw [hdrive₁, Drive.flushed_target] at hpos hne
    obtain ⟨hchanged, hspin, hdue⟩ := (role.withClaims claims).handed_spinUp s.now hstopped hpos hne
    have hacting : ((role.withClaims claims).handed s.now).state ≠ .released := by simp [hspin]
    refine ⟨fun f hf hrole => ?_, ?_, fun ht hroom hnone => ?_⟩
    · have hwf : f ∈ w.fans := by simpa using hf
      rw [houtputs hchanged f hwf hrole, hdrive₁, Drive.flushed_level]
      simp [Drive.output, hspin]
    · rw [hdrive₁, htnow]
      simp [Drive.flushed, hdue, hspin]
    · have hcfgs : w.roles.map (·.cfg) = s.roles.map (·.cfg) := by rw [hwroles, State.takeDemand_cfg, huroles]
      have hlength : w.roles.length = s.roles.length := by simpa using congrArg List.length hcfgs
      have hwgroups : (w.roles.map (·.cfg.group)).Nodup := by
        have := congrArg (List.map (·.group)) hcfgs
        simp only [List.map_map] at this
        exact this ▸ hgroups
      rw [← hwstamp]
      exact w.finish_queued r _ role₁ hdrive ((transmits_of_ctl run.wctl).trans ht) hdue hacting hwgroups
        (by rwa [hwtxq, hlength]) (by rwa [hwtxq, ← hcfg₁]) h₁

/-! ### The notices -/

/-- A known peer's DEMAND, out of isolation and with room in the queue, is told of by the claim tables alone (R10, R15, R18). -/
theorem DemandRun.notices {s u w : State} {n : Nat} {items : List DemandItem} (run : DemandRun s n items u w)
    (hd : (items.map (·.group)).Nodup) (hi : s.peers.isolated = false)
    (hknown : s.peers.roster.any (fun x => x.station == n) = true) (honce : StationsOnce s)
    (hroom : s.txq.length + s.roles.length ≤ 8) :
    w.finish.notices = s.notices.pushAll s.timeBase (demandNotices s n items) := by
  obtain ⟨⟨huroles, -⟩, hwroles, -, hwtxq, -⟩ := run.apart hi
  obtain ⟨hwnotices, hunotices, hutime⟩ := run.told hi hknown
  have hlength : w.roles.length = s.roles.length := by
    rw [hwroles, ← List.length_map (·.cfg), State.takeDemand_cfg, List.length_map, huroles]
  rw [w.finish_notices (by rwa [hwtxq, hlength]), hwnotices, u.takeClaims_notices n items hd (by rwa [huroles]), hunotices, hutime,
    demandNotices_of_roles huroles]

end Sys2Proof.Machine

/-- Settles O32: a DEMAND frame runs the Peer Unit and the claim tables, in the order the model chooses, and ends the event
(`demandRun`); each clause is read off the two states of that run. -/
theorem demandFrameTaken : Obligations.DemandFrameTaken := by
  intro s n items h hgroups
  obtain ⟨k, u, w, he, run⟩ := demandRun s n items h
  have hd : (items.map (·.group)).Nodup := by
    obtain ⟨-, -, -, hwf, -⟩ := h
    simp only [Payload.wf, Bool.and_eq_true, decide_eq_true_eq] at hwf
    exact hwf.2
  have hline : w.finish.line = { s.line with state := .notIdle } :=
    (w.finish_line (by rw [run.wline]; simp [State.setLine])).trans run.wline
  have htemps : w.finish.temps = s.temps := by simpa using run.wtemps
  refine ⟨w.finish, congrArg Host.Outcome.next he, hline, htemps, fun r role hr hn => ?_, fun hi hknown _ honce hroom =>
    run.notices hd hi hknown honce hroom⟩
  obtain ⟨role', hr', hcfg, htarget, hlisted, hunlisted⟩ := run.tableTaken hd hgroups r role hr hn
  exact ⟨role', hr', hcfg, htarget, fun hi hj _ => run.targetHanded hgroups hi hj r role role' hr hr', hlisted, hunlisted⟩
end

section
/-! SUPPORT. A STATUS that finds no room tells no role of a discard, so that the end of an event changes the drives alone (R45, R146,
R147); and the end of an event at which one role's STATUS is due. -/

namespace Sys2Proof.Machine

/-! ### What a STATUS evicts -/

/-- The candidate that R146 prefers of a list is one of them. -/
theorem foldl_worse_mem (a : QEntry) (es : List QEntry) : es.foldl worse a ∈ a :: es := by
  induction es generalizing a with
  | nil => simp
  | cons b bs ih =>
    have hab : worse a b = a ∨ worse a b = b := by unfold worse; split <;> simp
    rw [List.foldl_cons]
    rcases hab with h | h <;> rw [h]
    · exact List.cons_subset_cons a (List.subset_cons_self b bs) (ih a)
    · exact List.mem_cons_of_mem _ (ih b)

/-- An entry that gives way is of a later class than the frame that is offered (R146). -/
theorem victim_class (p : Payload) (q : List QEntry) (v : QEntry) (h : victim p q = some v) :
    payloadClass p < payloadClass v.payload := by
  unfold victim at h
  split at h
  · exact absurd h (by simp)
  · next a as hf =>
    have hv := foldl_worse_mem a as
    rw [← hf, Option.some.inj h, List.mem_filter] at hv
    simp only [Bool.and_eq_true, decide_eq_true_eq] at hv
    exact hv.2.2

@[simp] theorem Drive.flushed_statusDue (now : Nat) (d : Drive) : (d.flushed now).statusDue = false := by
  unfold Drive.flushed
  split
  · split <;> rfl
  · next h => simpa using h

/-- A driven role drives its outputs at its level (R33). -/
theorem Drive.output_driven (d : Drive) (h : d.state ≠ .released) : d.output = some d.level := by
  unfold Drive.output
  cases hs : d.state with
  | released => exact absurd hs h
  | spinUp => rfl
  | tracking => rfl
  | stopped => rfl
  | failsafe => rfl

/-- Without a STATUS due the end of an event leaves a drive as it is. -/
theorem Drive.flushed_of_settled (now : Nat) (d : Drive) (h : d.statusDue = false) : d.flushed now = d := by
  simp [Drive.flushed, h]

namespace State

/-- A discarded DEMAND or STATUS is reported to no role (R147). -/
theorem discard_roles (s : State) (p : Payload) (h : payloadKind p = .status ∨ payloadKind p = .demand) :
    (s.discard p).roles = s.roles := by
  cases p <;> simp [payloadKind] at h <;> simp [discard, reportDiscard, payloadSource]

/-- A STATUS that is offered leaves the roles: it evicts a DEMAND at most (R146). -/
theorem offer_status_roles (s : State) (c : StatusContent) : (s.offer (.status c)).roles = s.roles := by
  unfold offer
  split
  · rfl
  · split
    · rfl
    · split
      · simp
      · split
        · next v hv =>
          have hclass : 2 < payloadClass v.payload := victim_class _ _ v hv
          rw [discard_roles]
          · simp
          · cases hp : v.payload <;> simp [hp, payloadClass, payloadKind, kindClass] at hclass ⊢
        · exact discard_roles s _ (.inl rfl)

/-! ### The end of an event -/

/-- The roles after one role's end of an event. -/
theorem flushRole_roles (s : State) (r : Nat) :
    (s.flushRole r).roles = s.roles.modify r (fun q => { q with drive := q.drive.flushed s.now }) := by
  cases h : s.roles[r]? with
  | none => rw [flushRole_none s r h, modify_eq_of_get _ _ _ fun x hx => by simp [h] at hx]
  | some role =>
    rw [flushRole_eq s r role h]
    split
    · rw [offer_status_roles]; rfl
    · rfl

/-- The end of an event changes of every role its drive's reporting alone. -/
theorem finish_roles (s : State) : s.finish.roles = s.roles.map (fun q => { q with drive := q.drive.flushed s.now }) := by
  have hlength : s.finish.roles.length = s.roles.length := forRoles_same (·.roles.length) _ s fun u r => by simp [flushRole_roles]
  apply List.ext_getElem? fun q => ?_
  by_cases hq : q < s.roles.length
  · obtain ⟨u, hnow, hu, he⟩ := forRoles_get (fun u => u.now = s.now) flushRole
      (fun u r q hne => by simp [flushRole_roles, Ne.symm hne]) (fun u r h => by simpa using h) s rfl q hq
    rw [show s.finish = s.forRoles flushRole from rfl, he, flushRole_roles, hnow, List.getElem?_modify, hu, List.getElem?_map]
    simp
  · rw [List.getElem?_eq_none (by omega), List.getElem?_eq_none (by simp; omega)]

/-- After the end of an event no STATUS is due (log entry 7). -/
theorem settled_finish (s : State) : Settled s.finish := by
  intro role hr
  rw [finish_roles] at hr
  obtain ⟨q, -, rfl⟩ := List.mem_map.mp hr
  exact Drive.flushed_statusDue _ _

/-! ### One role's STATUS -/

/-- Of the roles but one none has a STATUS due. -/
def OthersSettled (s : State) (r : Nat) : Prop :=
  ∀ (q : Nat) (x : Role), q ≠ r → s.roles[q]? = some x → x.drive.statusDue = false

/-- An event at one role of a settled station leaves the others settled. -/
theorem othersSettled_of_get {s u : State} (r : Nat) (hs : Settled s) (hu : ∀ q, q ≠ r → u.roles[q]? = s.roles[q]?) :
    u.OthersSettled r :=
  fun q x hne hx => hs x (List.mem_of_getElem? (hu q hne ▸ hx))

/-- Roles without a STATUS due have no part in the end of an event. -/
theorem flushes_settled (xs : List Nat) (s : State)
    (h : ∀ q ∈ xs, ∀ x, s.roles[q]? = some x → x.drive.statusDue = false) : xs.foldl flushRole s = s := by
  induction xs with
  | nil => rfl
  | cons q qs ih =>
    have hq : s.flushRole q = s := by
      unfold flushRole
      split
      · rfl
      · next x hx => simp [h q List.mem_cons_self x hx]
    rw [List.foldl_cons, hq, ih fun q hm => h q (List.mem_cons_of_mem _ hm)]

/-- Where one role's STATUS is due at most, the end of the event is that role's. -/
theorem finish_single (s : State) (r : Nat) (hr : r < s.roles.length) (h : s.OthersSettled r) : s.finish = s.flushRole r := by
  obtain ⟨before, after, he, hb, ha, -⟩ := forRoles_split flushRole s r hr
  rw [flushes_settled before s fun q hq x hx => h q x (fun e => hb (e ▸ hq)) hx] at he
  rw [show s.finish = s.forRoles flushRole from rfl, he]
  refine flushes_settled after _ fun q hq x hx => ?_
  have hne : q ≠ r := fun e => ha (e ▸ hq)
  exact h q x hne (by simpa [flushRole_roles, Ne.symm hne] using hx)

/-- A role after the end of an event. -/
theorem finish_get (s : State) (r : Nat) (role : Role) (h : s.roles[r]? = some role) :
    s.finish.roles[r]? = some { role with drive := role.drive.flushed s.now } := by
  simp [finish_roles, h]

/-- A role without a STATUS due after the end of an event. -/
theorem finish_get_other (s : State) (r q : Nat) (h : s.OthersSettled r) (hne : q ≠ r) : s.finish.roles[q]? = s.roles[q]? := by
  cases hx : s.roles[q]? with
  | none => simp [finish_roles, hx]
  | some x => rw [finish_get s q x hx, x.drive.flushed_of_settled _ (h q x hne hx)]

/-- Where one role's STATUS is due at most and the queue has room, the end of the event posts nothing. -/
theorem finish_single_notices (s : State) (r : Nat) (hr : r < s.roles.length) (h : s.OthersSettled r) (hl : s.txq.length < 8) :
    s.finish.notices = s.notices := by
  rw [finish_single s r hr h]
  exact (flushRole_with_room s r hl).2.1

/-- The one STATUS that is due at a driven role is queued with the role's present content, where the queue has room and holds none of
its group (R45, R46). -/
theorem finish_single_queued (s : State) (r : Nat) (role role' : Role) (h : s.roles[r]? = some role) (ho : s.OthersSettled r)
    (ht : s.transmits = true) (hdue : role.drive.statusDue = true) (hdriven : role.drive.state ≠ .released)
    (hl : s.txq.length < 8) (hnone : ∀ e ∈ s.txq, e.isFor .status role.cfg.group = false)
    (h' : s.finish.roles[r]? = some role') : Queued s.finish s.stamp (.status (s.finish.statusContent role')) := by
  obtain rfl : { role with drive := role.drive.flushed s.now } = role' := Option.some.inj ((finish_get s r role h).symm.trans h')
  have hcontent : s.finish.statusContent { role with drive := role.drive.flushed s.now } = s.statusContent role := by
    simp [statusContent, speedsOf]
  have hany : (s.modDrive r (Drive.flushed s.now)).txq.any (coalesces (.status (s.statusContent role))) = false :=
    List.any_eq_false.mpr fun e hm => by rw [coalesces_status]; simpa [statusContent] using hnone e hm
  rw [hcontent, finish_single s r (List.getElem?_eq_some_iff.mp h).1 ho, flushRole_eq s r role h, if_pos ⟨hdue, hdriven⟩,
    offer_room (s.modDrive r (Drive.flushed s.now)) _ ht hany hl]
  exact enter_queued (s.modDrive r (Drive.flushed s.now)) _

/-- A driven role whose STATUS alone is due, at the end of an event that found the queue as it stood before (R33, R45, R46). -/
theorem driveReported_finish (s u : State) (r : Nat) (role role' : Role) (h : u.roles[r]? = some role) (ho : u.OthersSettled r)
    (hctl : u.ctl = s.ctl) (htxq : u.txq = s.txq) (hstamp : u.stamp = s.stamp) (hdue : role.drive.statusDue = true)
    (hdriven : role.drive.state ≠ .released) (hout : ∀ f ∈ u.fans, f.role = some r → f.output = role.drive.output)
    (h' : u.finish.roles[r]? = some role') : DriveReported s u.finish (s.txq.length < 8) r role' := by
  have hrole' : { role with drive := role.drive.flushed u.now } = role' := Option.some.inj ((finish_get u r role h).symm.trans h')
  refine ⟨fun f hf hr => ?_, ?_, fun ht hl hnone => ?_⟩
  · rw [hout f (by simpa using hf) hr, Drive.output_driven _ hdriven, ← hrole', Drive.flushed_level]
  · rw [← hrole']
    simp [Drive.flushed, hdue, hdriven]
  · rw [← hstamp]
    exact u.finish_single_queued r role role' h ho ((transmits_of_ctl hctl).trans ht) hdue hdriven (by rwa [htxq])
      (by rw [htxq, show role.cfg = role'.cfg by rw [← hrole']]; exact hnone) h'

end State
end Sys2Proof.Machine
end

section
/-! SUPPORT. What a step can do to the drives, the role machines and what acts on them: one principle for their invariants. -/

namespace Sys2Proof.Machine

/-! ### What the drives' invariants see -/

/-- A drive record, its reporting apart (R45). -/
def Drive.unreported (d : Drive) : Drive := { d with statusTimer := .stopped, statusDue := false }

/-- A role without its claim table and its drive's reporting. -/
def Role.driveSide (role : Role) : RoleCfg × Drive × Ship := (role.cfg, role.drive.unreported, role.ship)

/-- A temperature channel, its alert repeat timer apart. -/
def TempChannel.unrepeated (c : TempChannel) : TempChannel := { c with repeatTimer := .stopped }

/-- From one state to another nothing changes that the drives' invariants see: drives and role records, fan channels, temperature
channels, Station Control and isolation; SHUTDOWN may be asserted. -/
structure State.DrivesKept (s t : State) : Prop where
  roles : t.roles.map Role.driveSide = s.roles.map Role.driveSide
  fans : t.fans = s.fans
  temps : t.temps.map TempChannel.unrepeated = s.temps.map TempChannel.unrepeated
  ctl : t.ctl = s.ctl
  isolated : t.peers.isolated = s.peers.isolated
  shutdown : s.shutdown = true → t.shutdown = true

/-- A timer of a role record runs in its own state alone (Table 3-2). -/
def Ship.TimersOk (sh : Ship) : Prop :=
  (sh.silence ≠ .stopped → sh.machine = .watch) ∧ (sh.hold ≠ .stopped → sh.machine = .displaced)
    ∧ (sh.wait ≠ .stopped → sh.machine = .reclaim)

/-- A change of a role record after which its timers run in their own states and its role acts, or does not. -/
def Ship.Becomes (acting : Bool) (old new : Ship) : Prop := old.TimersOk → new.TimersOk ∧ new.machine.acting = acting

/-- A change of a role record that leaves its role acting or not. -/
def Ship.Stays (old new : Ship) : Prop := old.Becomes old.machine.acting new

/-- A drive record by itself (Table 2-7, R34, R43, R44): FAILSAFE with its causes, the level of its state, its timers in their own
states. -/
structure Drive.Sound (d : Drive) : Prop where
  failsafe : d.state ≠ .released → (d.state = .failsafe ↔ d.causes.empty = false)
  full : d.state = .released ∨ d.state = .failsafe → d.level = 100
  still : d.state = .stopped → d.level = 0
  spin : d.state = .spinUp → d.level = d.spinUpLevel
  ramp : d.ramp ≠ .stopped → d.state = .tracking
  spinUp : d.spinUp ≠ .stopped → d.state = .spinUp
  stopDelay : d.stopDelay ≠ .stopped → d.state = .tracking

/-- An event of a drive that goes on as it does: causes and condition stay, and so does that it is RELEASED or driven. -/
structure Drive.GoesOn (old new : Drive) : Prop where
  sound : old.Sound → new.Sound ∧ (new.state = .released ↔ old.state = .released)
  causes : new.causes = old.causes
  condition : new.condition = old.condition

/-- Every role of an image can be checked at a full level (Table 2-5). -/
def Image.Checkable (img : Image) : Prop := ∀ cfg ∈ img.roles, cfg.checkLevel ≤ 100

/-! ### Events of a drive that goes on -/

/-- What a new target does to a drive record (R36, R38 to R40): it is held; in TRACKING it acts on ramp and stop delay; in STOPPED a
target above 0 begins SPIN_UP. -/
theorem Drive.takeTarget_cases (now : Nat) (cfg : RoleCfg) (target : Nat) (d : Drive) :
    d.takeTarget now cfg target = { d with target := target }
      ∨ (d.state = .tracking ∧ ∃ ramp stopDelay,
          d.takeTarget now cfg target = { d with target := target, ramp := ramp, stopDelay := stopDelay })
      ∨ (d.state = .stopped ∧ d.takeTarget now cfg target = Drive.enterSpinUp now cfg { d with target := target }) := by
  unfold Drive.takeTarget
  cases hs : d.state with
  | released => exact .inl rfl
  | spinUp => exact .inl rfl
  | failsafe => exact .inl rfl
  | tracking => exact .inr (.inl ⟨rfl, _, _, rfl⟩)
  | stopped =>
    by_cases hp : 0 < target
    · exact .inr (.inr ⟨rfl, by simp [hp]⟩)
    · exact .inl (by simp [hp])

theorem Drive.takeTarget_goesOn (now : Nat) (cfg : RoleCfg) (target : Nat) (d : Drive) : d.GoesOn (d.takeTarget now cfg target) := by
  rcases d.takeTarget_cases now cfg target with he | ⟨hs, ramp, stopDelay, he⟩ | ⟨hs, he⟩ <;> rw [he]
  · exact ⟨fun h => ⟨⟨h.failsafe, h.full, h.still, h.spin, h.ramp, h.spinUp, h.stopDelay⟩, Iff.rfl⟩, rfl, rfl⟩
  · exact ⟨fun h => ⟨⟨h.failsafe, h.full, h.still, h.spin, fun _ => hs, h.spinUp, fun _ => hs⟩, Iff.rfl⟩, rfl, rfl⟩
  · refine ⟨fun h => ?_, rfl, rfl⟩
    have hempty := h.failsafe (by simp [hs])
    simp [hs] at hempty
    refine ⟨?_, by simp [Drive.enterSpinUp, hs]⟩
    constructor <;> simp [Drive.enterSpinUp, hempty]

/-- A step of a running ramp (R37). -/
theorem Drive.rampStep_goesOn (now : Nat) (cfg : RoleCfg) (level : Nat) (d : Drive) (hr : d.ramp ≠ .stopped) :
    d.GoesOn (d.rampStep now cfg level) := by
  refine ⟨fun h => ?_, rfl, rfl⟩
  have hs := h.ramp hr
  have hempty := h.failsafe (by simp [hs])
  have hspin := mt h.spinUp (by simp [hs])
  simp [hs] at hempty
  refine ⟨?_, Iff.rfl⟩
  constructor <;> simp_all [Drive.rampStep]

/-- The end of a running stop delay (R39). -/
theorem Drive.enterStopped_goesOn (d : Drive) (hr : d.stopDelay ≠ .stopped) : d.GoesOn d.enterStopped := by
  refine ⟨fun h => ?_, rfl, rfl⟩
  have hs := h.stopDelay hr
  have hempty := h.failsafe (by simp [hs])
  have hspin := mt h.spinUp (by simp [hs])
  simp [hs] at hempty
  refine ⟨?_, by simp [Drive.enterStopped, hs]⟩
  constructor <;> simp_all [Drive.enterStopped]

/-- The end of a running spin-up (R41). -/
theorem Drive.endSpinUp_goesOn (now : Nat) (cfg : RoleCfg) (level : Nat) (d : Drive) (hr : d.spinUp ≠ .stopped) :
    d.GoesOn (d.enterTracking now cfg level) := by
  refine ⟨fun h => ?_, rfl, rfl⟩
  have hs := h.spinUp hr
  have hempty := h.failsafe (by simp [hs])
  simp [hs] at hempty
  refine ⟨?_, by simp [Drive.enterTracking, hs]⟩
  constructor <;> simp_all [Drive.enterTracking]

/-! ### Role records -/

/-- Outside its own state a timer of a role record is stopped. -/
theorem Ship.TimersOk.stopped {sh : Ship} (h : sh.TimersOk) :
    (sh.machine ≠ .watch → sh.silence = .stopped) ∧ (sh.machine ≠ .displaced → sh.hold = .stopped)
      ∧ (sh.machine ≠ .reclaim → sh.wait = .stopped) := by
  obtain ⟨hsilence, hhold, hwait⟩ := h
  exact ⟨not_imp_comm.mp hsilence, not_imp_comm.mp hhold, not_imp_comm.mp hwait⟩

/-- A discard told to a role leaves it acting or not (R68). -/
theorem Ship.discarded_stays (kind : FrameKind) (silence wait : Timer) (sh : Ship) : sh.Stays (sh.discarded kind silence wait) := by
  intro h
  obtain ⟨hsilence, hhold, hwait⟩ := h.stopped
  unfold Ship.discarded
  split
  · next hm => exact ⟨by simp [Ship.TimersOk, hhold, hwait, hm], by simp [hm, RoleMachine.acting]⟩
  · next hm => exact ⟨by simp [Ship.TimersOk, hsilence, hhold, hm], rfl⟩
  · next hm =>
    split
    · exact ⟨by simp [Ship.TimersOk, hsilence, hhold, hm], rfl⟩
    · exact ⟨h, rfl⟩
  · exact ⟨h, rfl⟩

/-! ### Nothing is seen -/

namespace State

theorem DrivesKept.refl (s : State) : s.DrivesKept s := ⟨rfl, rfl, rfl, rfl, rfl, id⟩

theorem DrivesKept.trans {s t u : State} (h : s.DrivesKept t) (h' : t.DrivesKept u) : s.DrivesKept u :=
  ⟨h'.roles.trans h.roles, h'.fans.trans h.fans, h'.temps.trans h.temps, h'.ctl.trans h.ctl, h'.isolated.trans h.isolated,
    fun hs => h'.shutdown (h.shutdown hs)⟩

/-- A change of the claim tables and the notices alone. -/
theorem ClaimsOnly.drivesKept {s t : State} (h : s.ClaimsOnly t) (hr : t.roles.map Role.driveSide = s.roles.map Role.driveSide) :
    s.DrivesKept t :=
  ⟨hr, by rw [h], by rw [h], by rw [h], by rw [h], by rw [h]; exact id⟩

/-- A run over a list whose parts are not seen. -/
theorem DrivesKept.foldl {β : Type} (f : State → β → State) (hf : ∀ (u : State) (x : β), u.DrivesKept (f u x)) (xs : List β)
    (s : State) : s.DrivesKept (xs.foldl f s) :=
  foldl_keeps (fun u => s.DrivesKept u) f xs s (fun u x h => h.trans (hf u x)) (.refl s)

theorem drivesKept_post (s : State) (k : NoticeKind) (n : Nat) (v : Option Int) : s.DrivesKept (s.post k n v) := by
  constructor <;> simp

theorem drivesKept_postHealth (s : State) (i : Nat) (a b : TempChannel) : s.DrivesKept (s.postHealth i a b) := by
  constructor <;> simp

theorem drivesKept_postWatch (s : State) (i : Nat) (a b : TempChannel) : s.DrivesKept (s.postWatch i a b) := by
  constructor <;> simp

theorem drivesKept_enter (s : State) (p : Payload) : s.DrivesKept (s.enter p) := by
  constructor <;> simp

theorem drivesKept_startHead (s : State) : s.DrivesKept s.startHead := by
  constructor <;> simp

theorem drivesKept_withdraw (s : State) (k : FrameKind) (g : Nat) : s.DrivesKept (s.withdraw k g) := by
  constructor <;> simp

theorem drivesKept_rebuildTakeover (s : State) (g : Nat) (e : Epoch) : s.DrivesKept (s.rebuildTakeover g e) := by
  constructor <;> simp

/-- A drive's reporting is not seen. -/
theorem drivesKept_modDrive (s : State) (r : Nat) (f : Drive → Drive) (hf : ∀ d, (f d).unreported = d.unreported) :
    s.DrivesKept (s.modDrive r f) := by
  refine ⟨map_modify_of_same _ _ _ _ fun role => ?_, rfl, rfl, rfl, rfl, id⟩
  simp [Role.driveSide, hf]

theorem drivesKept_modClaims (s : State) (r : Nat) (f : ClaimTable → ClaimTable) : s.DrivesKept (s.modClaims r f) :=
  ⟨map_modify_of_same _ _ _ _ fun _ => rfl, rfl, rfl, rfl, rfl, id⟩

theorem drivesKept_endClaim (s : State) (r n : Nat) : s.DrivesKept (s.endClaim r n) := by
  cases h : s.roles[r]? with
  | none => simpa [endClaim, h] using DrivesKept.refl s
  | some role =>
    rw [endClaim_eq s r n role h]
    exact ⟨map_modify_of_same _ _ _ _ fun _ => rfl, rfl, rfl, rfl, rfl, id⟩

theorem drivesKept_takeClaims (s : State) (n : Nat) (items : List DemandItem) : s.DrivesKept (s.takeClaims n items) :=
  (takeClaims_claimsOnly s n items).drivesKept (takeClaims_map _ (fun _ _ => rfl) s n items)

theorem drivesKept_takeOwn (s : State) : s.DrivesKept { s with roles := s.roles.map (Role.takeOwn s.demand.entries) } := by
  refine ⟨?_, rfl, rfl, rfl, rfl, id⟩
  rw [List.map_map]
  apply List.map_congr_left
  intro role _
  simp only [Function.comp, Role.takeOwn]
  split <;> rfl

theorem drivesKept_reportAwaited (s : State) (r : Nat) (role : Role) : s.DrivesKept (s.reportAwaited r role) :=
  (drivesKept_modClaims s r _).trans (.foldl _ (fun u _ => drivesKept_post u _ _ _) _ _)

theorem drivesKept_modTemp_repeat (s : State) (i : Nat) (timer : Timer) :
    s.DrivesKept (s.modTemp i (fun c => { c with repeatTimer := timer })) :=
  ⟨rfl, rfl, map_modify_of_same _ _ _ _ fun _ => rfl, rfl, rfl, id⟩

theorem drivesKept_rosterTakes (s : State) (n : Nat) (k : FrameKind) : s.DrivesKept (s.rosterTakes n k) := by
  constructor <;> simp [rosterTakes_isolated]

theorem drivesKept_modBoard (s : State) (g : Nat) (f : List Member → List Member) : s.DrivesKept (s.modBoard g f) := by
  constructor <;> simp [modBoard]

theorem drivesKept_peerContent (s : State) (n : Nat) (p : Payload) : s.DrivesKept (s.peerContent n p) := by
  unfold peerContent
  split
  · split
    · unfold takeView
      split
      · exact ⟨rfl, rfl, rfl, rfl, rfl, id⟩
      · exact .refl s
    · exact .refl s
  · unfold takeCritical
    dsimp only
    split
    · exact ⟨rfl, rfl, rfl, rfl, rfl, fun h => by simp [h]⟩
    · exact ⟨rfl, rfl, rfl, rfl, rfl, fun h => by simp [h]⟩
  · split
    · unfold takeSaturation
      dsimp only
      split
      · exact drivesKept_modBoard s _ _
      · exact (drivesKept_modBoard s _ _).trans (drivesKept_post _ _ _ _)
    · exact .refl s
  · split
    · exact drivesKept_modBoard s _ _
    · exact .refl s
  all_goals exact .refl s

end State
end Sys2Proof.Machine
end

section
/-! SUPPORT. The principle for the drives' invariants: what each operation of a command keeps, and so every step. -/

namespace Sys2Proof.Machine

/-- The station at the entry into JOINING, before the first targets are handed on (R164). -/
def State.joined (s : State) (slot : Slot) (img : Image) : State :=
  { s with
    ctl        := { s.ctl with
      state := .joining, taken := some (slot, img.generation), load := none, joinWindow := .running (s.now + 2000) }
    timing     := some img.timing
    temps      := List.zipWith TempChannel.configured s.temps img.channels
    roundTimer := .running (s.now + 250)
    demand     := ⟨img.demands.map DemandEntry.fresh, .running (s.now + img.timing.refreshTenths * 100), false, false⟩
    roles      := img.roles.map (Role.fresh s.now (s.ctl.station.getD 0) (img.timing.takeoverS * 1000) img.demands)
    fans       := s.fans.mapIdx (FanChannel.configured img s.now)
    peers      := { s.peers with linkTimer := .running (s.now + img.timing.isolationS * 1000) } }

theorem State.enterJoining_eq (s : State) (slot : Slot) (img : Image) : s.enterJoining slot img = (s.joined slot img).handTargets := rfl

/-- What has to be shown of a property of the drives, the role machines, the channels and Station Control, for every step to keep it:
it does not see the rest of the station, and the events that act on those keep it. -/
structure DriveInvariant (P : State → Prop) : Prop where
  /-- Nothing else is seen. -/
  same : ∀ {s t : State}, P s → s.DrivesKept t → P t
  /-- A role record changes, and its role goes on acting or not (Table 3-2). -/
  ship : ∀ {s : State} (r : Nat) (f : Ship → Ship), (∀ role, s.roles[r]? = some role → role.ship.Stays (f role.ship)) → P s →
    P (s.modShip r f)
  /-- A role starts acting (R34). -/
  starts : ∀ {s : State} (r level : Nat) (f : Ship → Ship),
    (∀ role, s.roles[r]? = some role → role.ship.Becomes true (f role.ship)) → P s → P ((s.modShip r f).startActing r level)
  /-- A role stops acting (R35). -/
  stops : ∀ {s : State} (r : Nat) (f : Ship → Ship),
    (∀ role, s.roles[r]? = some role → role.ship.Becomes false (f role.ship)) → P s → P ((s.modShip r f).stopActing r)
  /-- A target, a step of the ramp, the end of a stop delay or of spin-up (R36 to R41). -/
  event : ∀ {s : State} (r : Nat) (f : RoleCfg → Drive → Drive),
    (∀ role, s.roles[r]? = some role → role.drive.GoesOn (f role.cfg role.drive)) → P s → P (s.driveEvent r f)
  /-- A fan channel is measured (R27). -/
  fan : ∀ {s : State} (i : Nat) (f : FanChannel) (edges : List Nat), s.fans[i]? = some f → P s → P (s.measureFan i f edges)
  /-- A temperature channel is taken that does not enter CRITICAL (R77 to R84). -/
  calm : ∀ {s : State} (i : Nat) (c : TempChannel) (m : Measurement), s.temps[i]? = some c → c.used = true →
    (c.round m).critical = c.critical → P s → P (s.modTemp i (fun _ => c.round m))
  /-- A temperature channel enters CRITICAL (R85). -/
  alarm : ∀ {s t : State} (i : Nat) (c : TempChannel) (m : Measurement), s.temps[i]? = some c → c.used = true →
    (c.round m).critical = true → State.DrivesKept { s.modTemp i (fun _ => c.round m) with shutdown := true } t → P s →
    P (t.setCausesAll (fun k => { k with critical := true }))
  /-- An isolation starts or ends (R153, R154). -/
  link : ∀ {s t : State} (isolated : Bool), s.transmits = true →
    State.DrivesKept { s with peers := { s.peers with isolated := isolated } } t → P s →
    P (t.setCausesAll (fun k => { k with isolated := isolated }))
  /-- The latches are cleared (R82). -/
  latches : ∀ {s : State}, P s → P s.clearLatches
  /-- The station enters FAULTED (R166). -/
  fault : ∀ {s : State} (cause : Cause) (item : Nat), P s → P (s.enterFaulted cause item)
  /-- The join window ends (R165). -/
  runs : ∀ {s : State}, s.ctl.joinWindow ≠ .stopped → P s →
    P { s with ctl := { s.ctl with state := .running, joinWindow := .stopped } }
  /-- The reading of the slots goes on (R161). -/
  reads : ∀ {s : State} (l l' : Load) (result : SlotResult), s.ctl.load = some l → (LoadOk l → LoadOk l') →
    (∀ img, l'.imageA = some img → l.imageA = some img ∨ img.Checkable) → P s →
    P { s with ctl := { s.ctl with slotA := result, load := some l' } }
  /-- The reading of the slots ends (R163). -/
  unloads : ∀ {s : State} (l : Load) (result : SlotResult), s.ctl.load = some l → P s →
    P { s with ctl := { s.ctl with slotB := result, load := none } }
  /-- The station enters JOINING with an image (R164). -/
  joins : ∀ {s t : State} (l : Load) (slot : Slot) (img : Image), s.ctl.load = some l → (l.imageA = some img ∨ img.Checkable) →
    State.DrivesKept { s with ctl := t.ctl } t → P s → P (t.joined slot img)
  /-- RESET_HELD is entered (R157). -/
  held : ∀ {s : State} (delivered : Nat), P s → P (s.resetHeld delivered)
  /-- LOADING begins after RESET_HELD (R157, R160). -/
  begins : ∀ {s : State} (startAt : Nat) (straps : Straps), s.ctl.state = .resetHeld → P s →
    P (State.beginLoading { s with ctl := { s.ctl with state := .loading, startAt := startAt } } straps)
  /-- The station starts again (R159). -/
  restart : ∀ {s : State} (straps : Straps), P s → P (s.restart straps)

/-! ### Between events -/

theorem settled_of_roles {s t : State} (h : t.roles = s.roles) (hs : Settled s) : Settled t := by
  unfold Settled
  rwa [h]

theorem settled_modShip (s : State) (r : Nat) (f : Ship → Ship) (hs : Settled s) : Settled (s.modShip r f) := by
  have hmap : (s.modShip r f).roles.map (·.drive.statusDue) = s.roles.map (·.drive.statusDue) :=
    map_modify_of_same _ _ _ _ fun _ => rfl
  have hall (u : State) : Settled u ↔ ∀ b ∈ u.roles.map (·.drive.statusDue), b = false := by simp [Settled]
  rwa [hall, hmap, ← hall]

/-- A role of a run over the roles, each part of which acts on a drive. -/
theorem settled_of_forRoles (f : State → Nat → State) (s : State)
    (ho : ∀ (u : State) (r q : Nat), q ≠ r → (f u r).roles[q]? = u.roles[q]?) (hl : (s.forRoles f).roles.length = s.roles.length)
    (hd : ∀ (u : State) (r : Nat) (role : Role), u.roles[r]? = some role → role ∈ s.roles →
      ∃ d, (f u r).roles[r]? = some { role with drive := d } ∧ d.statusDue = false) : Settled (s.forRoles f) := by
  intro role hr
  obtain ⟨q, hq⟩ := List.mem_iff_getElem?.mp hr
  have hlt : q < s.roles.length := hl ▸ (List.getElem?_eq_some_iff.mp hq).1
  obtain ⟨u, -, hu, he⟩ := State.forRoles_get (fun _ => True) f ho (fun _ _ h => h) s trivial q hlt
  obtain ⟨d, hdrive, hdue⟩ := hd u q s.roles[q] (by rw [hu, List.getElem?_eq_getElem hlt]) (List.getElem_mem hlt)
  obtain rfl : { s.roles[q] with drive := d } = role := Option.some.inj ((he.trans hdrive).symm.trans hq)
  exact hdue

theorem State.stopActing_get (s : State) (r : Nat) (role : Role) (h : s.roles[r]? = some role) :
    (s.stopActing r).roles[r]? = some { role with drive := role.drive.stopActing } :=
  driveEvent_get_released s r _ role h rfl rfl

theorem State.stopActing_get_other (s : State) (r q : Nat) (h : q ≠ r) : (s.stopActing r).roles[q]? = s.roles[q]? :=
  driveEvent_get_other s r q _ h

theorem State.stopActing_length (s : State) (r : Nat) : (s.stopActing r).roles.length = s.roles.length := driveEvent_length s r _

theorem State.handTarget_length (s : State) (r : Nat) : (s.handTarget r).roles.length = s.roles.length := by
  simpa using congrArg List.length (handTarget_map (fun q => q.cfg) (fun _ _ => rfl) s r)

theorem settled_stopAll (s : State) : Settled (s.forRoles State.stopActing) :=
  settled_of_forRoles _ s State.stopActing_get_other (State.forRoles_same (·.roles.length) _ s State.stopActing_length)
    fun u r role h _ => ⟨_, u.stopActing_get r role h, rfl⟩

theorem settled_enterFaulted (s : State) (cause : Cause) (item : Nat) : Settled (s.enterFaulted cause item) := by
  intro role hr
  simp only [State.enterFaulted, State.blocksFault, State.evaluateThrottle_roles, List.mem_map] at hr
  obtain ⟨q, hq, rfl⟩ := hr
  exact settled_stopAll _ q hq

/-- A target handed on to a RELEASED drive is held (R36). -/
theorem State.handTarget_get_released (s : State) (r : Nat) (role : Role) (h : s.roles[r]? = some role)
    (hs : role.drive.state = .released) (hn : role.drive.condition = .normal) :
    (s.handTarget r).roles[r]? = some { role with drive := { role.drive with target := role.computedTarget } } := by
  have htaken : role.drive.takeTarget s.now role.cfg role.computedTarget = { role.drive with target := role.computedTarget } := by
    simp [Drive.takeTarget, hs]
  unfold handTarget
  rw [h]
  dsimp only
  split
  · next he => rw [h, he]
  · rw [driveEvent_get_released s r _ role h (by rw [htaken]; exact hs) (by rw [htaken]; exact hn), htaken]

theorem settled_enterJoining (s : State) (slot : Slot) (img : Image) : Settled (s.enterJoining slot img) := by
  rw [State.enterJoining_eq, State.handTargets]
  refine settled_of_forRoles _ _ State.handTarget_get_other (State.forRoles_same (·.roles.length) _ _ State.handTarget_length) ?_
  intro u r role h hm
  obtain ⟨cfg, -, rfl⟩ := List.mem_map.mp hm
  exact ⟨_, u.handTarget_get_released r _ h rfl rfl, rfl⟩

/-- A channel that is CRITICAL stays so (R84). -/
theorem TempChannel.round_critical (m : Measurement) (c : TempChannel) (h : c.critical = true) : (c.round m).critical = true := by
  simp [TempChannel.round, h]

namespace DriveInvariant

variable {P : State → Prop}

/-- From one state to the next the property holds on, and where no STATUS was due none is. -/
def Ends (P : State → Prop) (s t : State) : Prop := P t ∧ (Settled s → Settled t)

theorem Ends.rfl {s : State} (hs : P s) : Ends P s s := ⟨hs, id⟩

/-! ### The transmit queue -/

/-- A change of the role record of a known role. -/
theorem ship_at (hP : DriveInvariant P) {s : State} (r : Nat) (role : Role) (f : Ship → Ship) (h : s.roles[r]? = some role)
    (hf : role.ship.Stays (f role.ship)) (hs : P s) : P (s.modShip r f) :=
  hP.ship r f (fun _ hx => Option.some.inj (h.symm.trans hx) ▸ hf) hs

theorem discard (hP : DriveInvariant P) {s : State} (p : Payload) (hs : P s) : P (s.discard p) := by
  have hposted : P (s.postOverflow p) := hP.same hs (State.drivesKept_post s _ _ _)
  unfold State.discard State.reportDiscard
  split
  · split
    · exact hP.ship _ _ (fun role _ => Ship.discarded_stays _ _ _ _) hposted
    · exact hposted
  all_goals exact hposted

theorem offer (hP : DriveInvariant P) {s : State} (p : Payload) (hs : P s) : P (s.offer p) := by
  unfold State.offer
  split
  · exact hs
  · split
    · exact hP.same hs ⟨rfl, rfl, rfl, rfl, rfl, id⟩
    · split
      · exact hP.same hs (State.drivesKept_enter s p)
      · split
        · next v _ =>
          have herased : P { s with txq := s.txq.erase v } := hP.same hs ⟨rfl, rfl, rfl, rfl, rfl, id⟩
          exact hP.discard _ (hP.same herased (State.drivesKept_enter _ p))
        · exact hP.discard _ hs

theorem flushRole (hP : DriveInvariant P) {s : State} (r : Nat) (hs : P s) : P (s.flushRole r) := by
  have hreport (f : Drive → Drive) (hf : ∀ d, (f d).unreported = d.unreported) : P (s.modDrive r f) :=
    hP.same hs (State.drivesKept_modDrive s r f hf)
  unfold State.flushRole
  repeat' split
  · exact hs
  · exact hreport _ fun _ => rfl
  · exact hP.offer _ (hreport _ fun _ => rfl)
  · exact hs

/-- The end of an event. -/
theorem finish (hP : DriveInvariant P) {s t : State} (hs : P t) : Ends P s t.finish :=
  ⟨State.forRoles_keeps P _ t (fun _ r h => hP.flushRole r h) hs, fun _ => State.settled_finish t⟩

/-- An event that the drives' invariants do not see. -/
theorem unseen (hP : DriveInvariant P) {s t : State} (hs : P s) (hk : s.DrivesKept t) (hr : t.roles = s.roles) : Ends P s t :=
  ⟨hP.same hs hk, settled_of_roles hr⟩

/-- An expiry keeps what its effect keeps. -/
theorem onExpiry (hP : DriveInvariant P) (timer : Timer) (k : State → State) (s : State)
    (hk : ∀ u : State, timer ≠ .stopped → u.roles = s.roles → u.fans = s.fans → u.ctl = s.ctl → P u → Ends P u (k u)) (hs : P s) :
    Ends P s (Machine.onExpiry timer k s) := by
  unfold Machine.onExpiry
  split
  · obtain ⟨hkept, hsettled⟩ := hk (s.until _) (by simp) rfl rfl rfl (hP.same hs ⟨rfl, rfl, rfl, rfl, rfl, id⟩)
    exact ⟨hkept, hsettled⟩
  · exact .rfl hs
  · exact .rfl hs

/-! ### The Claim Unit -/

theorem queueStatus (hP : DriveInvariant P) {s : State} (r : Nat) (hs : P s) : P (s.queueStatus r) :=
  hP.same hs (State.drivesKept_modDrive s r _ fun _ => rfl)

theorem handTarget (hP : DriveInvariant P) {s : State} (r : Nat) (hs : P s) : P (s.handTarget r) := by
  unfold State.handTarget
  repeat' split
  · exact hs
  · exact hs
  · exact hP.event r _ (fun role _ => Drive.takeTarget_goesOn _ _ _ _) hs

theorem handTargets (hP : DriveInvariant P) {s : State} (hs : P s) : P s.handTargets :=
  State.forRoles_keeps P _ s (fun _ r h => hP.handTarget r h) hs

theorem takeDemand (hP : DriveInvariant P) {s : State} (n : Nat) (items : List DemandItem) (hs : P s) : P (s.takeDemand n items) :=
  hP.handTargets (hP.same hs (State.drivesKept_takeClaims s n items))

/-! ### A round -/

theorem takeChannel (hP : DriveInvariant P) {s : State} (ms : List Measurement) (i : Nat) (hs : P s) : P (s.takeChannel ms i) := by
  unfold State.takeChannel
  split
  · exact hs
  · next c hc =>
    split
    · next hused =>
      dsimp only
      have hposts (u : State) (a b : TempChannel) : u.DrivesKept ((u.postHealth i a b).postWatch i a b) :=
        (State.drivesKept_postHealth u i a b).trans (State.drivesKept_postWatch _ i a b)
      split
      · next henters =>
        have hcaused := hP.alarm (t := { (((s.modTemp i (fun _ => c.round (ms.getD i .openCircuit))).postHealth i c
            (c.round (ms.getD i .openCircuit))).postWatch i c (c.round (ms.getD i .openCircuit))).post .critical i
            (c.round (ms.getD i .openCircuit)).reading with shutdown := true }) i c _ hc hused henters.1
          (by constructor <;> simp) hs
        unfold State.enterCritical
        dsimp only
        split
        · exact hP.offer _ (hP.same hcaused (State.drivesKept_modTemp_repeat _ i _))
        · exact hcaused
      · next hcalm =>
        refine hP.same (hP.calm i c _ hc hused ?_ hs) (hposts _ _ _)
        cases hb : c.critical with
        | true => exact c.round_critical _ hb
        | false => simpa [hb] using hcalm
    · exact hs

theorem takeMonitor (hP : DriveInvariant P) {s : State} (i : Nat) (hs : P s) : P (s.takeMonitor i) := by
  have hentry (u : State) (f : DemandEntry → DemandEntry) (hu : P u) : P (u.modEntry i f) :=
    hP.same hu ⟨rfl, rfl, rfl, rfl, rfl, id⟩
  have htold (f : DemandEntry → DemandEntry) (k : NoticeKind) (n : Nat) (v : Option Int) :
      P (((s.modEntry i f).post k n v).evaluateThrottle) := hP.same hs ⟨rfl, rfl, rfl, rfl, rfl, id⟩
  unfold State.takeMonitor
  repeat' split
  · exact hs
  · unfold State.leaveSaturated
    dsimp only
    split
    · exact hP.offer _ (htold _ _ _ _)
    · exact htold _ _ _ _
  · exact hs
  · exact hentry s _ hs
  · unfold State.enterSaturated
    dsimp only
    split
    · exact hP.offer _ (hentry _ _ (htold _ _ _ _))
    · exact htold _ _ _ _
  · exact hentry s _ hs
  · exact hentry s _ hs
  · exact hs
  · exact hentry s _ hs
  · exact hentry s _ hs

theorem computeDemand (hP : DriveInvariant P) {s : State} (hs : P s) : P s.computeDemand := by
  unfold State.computeDemand
  dsimp only
  split
  · exact hs
  · have hcomputed : P { s with demand := { s.demand with entries := s.demand.entries.map s.computeEntry, computed := true } } :=
      hP.same hs ⟨rfl, rfl, rfl, rfl, rfl, id⟩
    have hown := hP.handTargets (hP.same hcomputed (State.drivesKept_takeOwn _))
    have hposted : ∀ {u : State}, P u → P u.postAtComputation := by
      intro u hu
      unfold State.postAtComputation
      repeat' split
      · exact hP.offer _ hu
      · exact hu
      · exact hP.offer _ hu
      · exact hu
    exact State.foldl_keeps P _ _ _ (fun _ i h => hP.takeMonitor i h) (hposted hown)

end DriveInvariant
end Sys2Proof.Machine
end

section
/-! SUPPORT. The principle for the drives' invariants at the Drivership Unit and at the Peer Unit (03, 06, 09). -/

namespace Sys2Proof.Machine

namespace Ship

/-! ### Changes of a role record -/

/-- The timers of a role record stand as before, and so does its state. -/
theorem Stays.of_timers {old new : Ship} (hm : new.machine = old.machine) (hs : old.silence = .stopped → new.silence = .stopped)
    (hh : old.hold = .stopped → new.hold = .stopped) (hw : old.wait = .stopped → new.wait = .stopped) : old.Stays new := by
  rintro ⟨hsilence, hhold, hwait⟩
  exact ⟨⟨fun h => hm ▸ hsilence (mt hs h), fun h => hm ▸ hhold (mt hh h), fun h => hm ▸ hwait (mt hw h)⟩, by rw [hm]⟩

/-- A role record whose timers stand stopped outside its new state. -/
theorem Becomes.of_timers {old new : Ship} {acting : Bool} (ha : new.machine.acting = acting)
    (hs : old.TimersOk → new.machine ≠ .watch → new.silence = .stopped)
    (hh : old.TimersOk → new.machine ≠ .displaced → new.hold = .stopped)
    (hw : old.TimersOk → new.machine ≠ .reclaim → new.wait = .stopped) : old.Becomes acting new :=
  fun h => ⟨⟨not_imp_comm.mp (hs h), not_imp_comm.mp (hh h), not_imp_comm.mp (hw h)⟩, ha⟩

/-- The entry into WATCH, with a running or a frozen silence timer (R61). -/
theorem Becomes.watch (timer : Timer) {sh : Ship} (hd : sh.machine ≠ .displaced) (hr : sh.machine ≠ .reclaim) :
    sh.Becomes false { sh with machine := .watch, silence := timer } :=
  Becomes.of_timers rfl (fun _ h => absurd rfl h) (fun h _ => h.stopped.2.1 hd) (fun h _ => h.stopped.2.2 hr)

theorem freeze_stopped (now : Nat) (t : Timer) (h : t = .stopped) : t.freeze now = .stopped := by rw [h]; rfl

theorem unfreeze_stopped (now : Nat) (t : Timer) (h : t = .stopped) : t.unfreeze now = .stopped := by rw [h]; rfl

end Ship

theorem State.modShip_get (s : State) (r : Nat) (f : Ship → Ship) (role : Role) (h : s.roles[r]? = some role) :
    (s.modShip r f).roles[r]? = some { role with ship := f role.ship } := by
  simp [h]

/-- Two changes of one role record. -/
theorem State.modShip_modShip (s : State) (r : Nat) (f g : Ship → Ship) :
    (s.modShip r f).modShip r g = s.modShip r (fun sh => g (f sh)) := by
  simp [State.modShip, State.modRole, List.modify_modify_eq, Function.comp_def]

namespace DriveInvariant

variable {P : State → Prop}

/-! ### The Drivership Unit -/

theorem withdraw (hP : DriveInvariant P) {s : State} (k : FrameKind) (g : Nat) (hs : P s) : P (s.withdraw k g) :=
  hP.same hs (State.drivesKept_withdraw s k g)

theorem post (hP : DriveInvariant P) {s : State} (k : NoticeKind) (n : Nat) (v : Option Int) (hs : P s) : P (s.post k n v) :=
  hP.same hs (State.drivesKept_post s k n v)

/-- A role record changes beside its state and its timers. -/
theorem ship_beside (hP : DriveInvariant P) {s : State} (r : Nat) (f : Ship → Ship)
    (hf : ∀ sh, (f sh).machine = sh.machine ∧ (sh.silence = .stopped → (f sh).silence = .stopped)
      ∧ (sh.hold = .stopped → (f sh).hold = .stopped) ∧ (sh.wait = .stopped → (f sh).wait = .stopped)) (hs : P s) :
    P (s.modShip r f) :=
  hP.ship r f (fun role _ => have ⟨hm, hsilence, hhold, hwait⟩ := hf role.ship; .of_timers hm hsilence hhold hwait) hs

theorem queueTakeover (hP : DriveInvariant P) {s : State} (r : Nat) (hs : P s) : P (s.queueTakeover r) := by
  unfold State.queueTakeover
  split
  · exact hs
  · exact hP.offer _ hs

theorem queueHandback (hP : DriveInvariant P) {s : State} (r : Nat) (hs : P s) : P (s.queueHandback r) := by
  unfold State.queueHandback
  repeat' split
  · exact hs
  · exact hs
  · exact hP.offer _ (hP.ship_beside r _ (fun _ => ⟨rfl, id, id, id⟩) hs)

/-- A takeover is forced in DISPLACED or RECLAIM (R60). -/
theorem forceTakeover (hP : DriveInvariant P) {s : State} (r : Nat) (role : Role) (mark : Forcing) (h : s.roles[r]? = some role)
    (hm : role.ship.TimersOk → role.ship.machine = .displaced ∨ role.ship.machine = .reclaim) (hs : P s) :
    P (s.forceTakeover r mark) := by
  refine hP.queueTakeover r (hP.ship_at r role _ h (fun ht => ?_) hs)
  have hsilence := ht.stopped.1
  rcases hm ht with hm | hm <;> exact ⟨by simp [Ship.TimersOk, hsilence, hm], by simp [hm, RoleMachine.acting]⟩

/-- A standby claims its group in WATCH (R62). -/
theorem claimGroup (hP : DriveInvariant P) {s : State} (r : Nat) (role : Role) (h : s.roles[r]? = some role)
    (hm : role.ship.TimersOk → role.ship.machine = .watch) (hs : P s) : P (s.claimGroup r) := by
  refine hP.queueTakeover r (hP.ship_at r role _ h (fun ht => ?_) hs)
  obtain ⟨-, hhold, hwait⟩ := ht.stopped
  have hm := hm ht
  exact ⟨by simp [Ship.TimersOk, hhold, hwait, hm], by rw [hm]; rfl⟩

/-- A standby goes back from CLAIMING to WATCH (R63, R69). -/
theorem enterWatch (hP : DriveInvariant P) {s : State} (r : Nat) (role : Role) (h : s.roles[r]? = some role)
    (hm : role.ship.machine = .claiming) (hs : P s) : P (s.enterWatch r) := by
  refine hP.ship_at r role (fun sh => { sh with machine := .watch, silence := s.startFreezable s.takeoverMs }) h ?_ hs
  rw [Ship.Stays, hm]
  exact .watch _ (by simp [hm]) (by simp [hm])

/-- An acting role that lost a conflict (R67). -/
theorem loseConflict (hP : DriveInvariant P) {s : State} (r : Nat) (role : Role) (n : Nat) (e : Epoch) (h : s.roles[r]? = some role)
    (hm : role.ship.machine = .own ∨ role.ship.machine = .act) (hs : P s) : P (s.loseConflict r role n e) := by
  have hmachine : role.ship.machine ≠ .watch ∧ role.ship.machine ≠ .displaced ∧ role.ship.machine ≠ .reclaim := by
    rcases hm with hm | hm <;> simp [hm]
  obtain ⟨hwatch, hdisplaced, hreclaim⟩ := hmachine
  unfold State.loseConflict
  split
  · refine hP.post _ _ _ (hP.stops r _ (fun x hx => ?_) hs)
    obtain rfl := Option.some.inj (h.symm.trans hx)
    exact .of_timers rfl (fun ht _ => ht.stopped.1 hwatch) (fun _ hn => absurd rfl hn) fun ht _ => ht.stopped.2.2 hreclaim
  · refine hP.stops (s := s.withdraw .yield role.cfg.group) r
      (fun sh => { sh with machine := .watch, silence := s.startFreezable s.takeoverMs }) (fun x hx => ?_) (hP.withdraw _ _ hs)
    obtain rfl := Option.some.inj (h.symm.trans hx)
    exact .watch _ hdisplaced hreclaim

theorem takeConflict (hP : DriveInvariant P) {s : State} (r : Nat) (role : Role) (n : Nat) (e : Epoch) (k : RoleKind)
    (h : s.roles[r]? = some role) (hm : role.ship.machine = .own ∨ role.ship.machine = .act) (hs : P s) :
    P (s.takeConflict r role n e k) := by
  have hdecided (u : State) (won : Bool) (hu : P u) (hr : u.roles[r]? = some role) :
      P (if won then u.queueStatus r else u.loseConflict r role n e) := by
    split
    · exact hP.queueStatus r hu
    · exact hP.loseConflict r role n e hr hm hu
  unfold State.takeConflict
  refine hdecided _ _ ?_ ?_
  · split
    · exact hP.post _ _ _ hs
    · exact hs
  · split <;> exact h

theorem hearOther (hP : DriveInvariant P) {s : State} (r : Nat) (role : Role) (n : Nat) (e : Epoch) (hs : P s) :
    P (s.hearOther r role n e) := by
  unfold State.hearOther
  split
  · exact hs
  · next other _ =>
    have hheard := hP.ship_beside r (fun sh => { sh with other := some other, otherSilence := s.startFreezable s.takeoverMs })
      (fun _ => ⟨rfl, id, id, id⟩) hs
    dsimp only
    split
    · exact hP.queueHandback r (hP.ship_beside r _ (fun _ => ⟨rfl, id, id, fun _ => rfl⟩) (hP.withdraw _ _ hheard))
    · exact hheard

/-- A role in RECLAIM starts acting (R59, R60). -/
theorem starts_reclaim (hP : DriveInvariant P) {s : State} (r level : Nat) (role : Role) (f : Ship → Ship)
    (h : s.roles[r]? = some role) (hm : role.ship.machine = .reclaim)
    (hf : (f role.ship).machine = .own ∧ (f role.ship).silence = role.ship.silence ∧ (f role.ship).hold = role.ship.hold
      ∧ (f role.ship).wait = .stopped) (hs : P s) : P ((s.modShip r f).startActing r level) := by
  refine hP.starts r level f (fun x hx => ?_) hs
  obtain rfl := Option.some.inj (h.symm.trans hx)
  obtain ⟨hown, hsilence, hhold, hwait⟩ := hf
  refine .of_timers (by rw [hown]; rfl) (fun ht _ => ?_) (fun ht _ => ?_) (fun _ _ => hwait)
  · exact hsilence.trans (ht.stopped.1 (by simp [hm]))
  · exact hhold.trans (ht.stopped.2.1 (by simp [hm]))

theorem acceptYield (hP : DriveInvariant P) {s : State} (r : Nat) (role : Role) (e : Epoch) (level : Nat)
    (h : s.roles[r]? = some role) (hm : role.ship.machine = .reclaim) (hs : P s) : P (s.acceptYield r role e level) :=
  hP.post _ _ _ (hP.starts_reclaim (s := (s.withdraw .handback role.cfg.group).withdraw .takeover role.cfg.group) r level role _ h hm
    ⟨rfl, rfl, rfl, rfl⟩ (hP.withdraw _ _ (hP.withdraw _ _ hs)))

theorem roleFrame (hP : DriveInvariant P) {s : State} (r : Nat) (role : Role) (n : Nat) (e : Epoch) (p : Payload)
    (h : s.roles[r]? = some role) (hs : P s) : P (s.roleFrame r role n e p) := by
  have hlisten (f : Ship → Ship) (hf : ∀ sh, (f sh).machine = sh.machine ∧ (f sh).silence = sh.silence ∧ (f sh).hold = sh.hold
      ∧ (f sh).wait = sh.wait) : P (s.modShip r f) :=
    hP.ship_beside r f (fun sh => have ⟨hm, hsilence, hhold, hwait⟩ := hf sh
      ⟨hm, hsilence.trans, hhold.trans, hwait.trans⟩) hs
  have hwatch (timer : Timer) (hm : role.ship.machine = .watch) :
      P (s.modShip r (fun sh => { sh with silence := timer, pendingExpiry := false })) :=
    hP.ship_at r role _ h (fun ⟨_, hhold, hwait⟩ => ⟨⟨fun _ => hm, hhold, hwait⟩, rfl⟩) hs
  unfold State.roleFrame
  split
  case h_1 | h_2 =>
    split
    · exact hlisten _ fun _ => ⟨rfl, rfl, rfl, rfl⟩
    · exact hs
  case h_3 hm _ | h_4 hm _ => exact hP.takeConflict r role n e _ h (.inl hm) hs
  case h_5 hm _ | h_6 hm _ => exact hP.takeConflict r role n e _ h (.inr hm) hs
  case h_7 | h_8 | h_9 | h_10 => exact hP.hearOther r role n e hs
  case h_11 hm _ =>
    split
    · split
      · exact hP.acceptYield r role e _ h hm hs
      · exact hs
    · exact hs
  case h_12 hm _ | h_13 hm _ | h_14 hm _ =>
    split
    · exact hwatch _ hm
    · exact hs
  case h_15 hm _ | h_16 hm _ | h_17 hm _ =>
    split
    · exact hP.withdraw _ _ (hP.enterWatch r role h hm hs)
    · exact hs
  case h_18 =>
    unfold State.answerHandback
    dsimp only
    split
    · exact hP.offer _ hs
    · exact hs
  case h_19 => exact hs

theorem checkTakeover (hP : DriveInvariant P) {s : State} (r : Nat) (hs : P s) : P (s.checkTakeover r) := by
  unfold State.checkTakeover
  split
  · exact hs
  · next role h =>
    split
    · split
      · next hm =>
        split
        · exact hs
        · exact hP.withdraw _ _ (hP.enterWatch r role h hm hs)
      · split
        · exact hP.same hs (State.drivesKept_rebuildTakeover s _ _)
        · exact hs
      all_goals exact hs
    · exact hs

theorem driveshipTakes (hP : DriveInvariant P) {s : State} (n : Nat) (p : Payload) (hs : P s) : P (s.driveshipTakes n p) := by
  unfold State.driveshipTakes
  repeat' split
  · exact hs
  · exact hs
  · exact hs
  · next h => exact hP.checkTakeover _ (hP.ship_beside _ _ (fun _ => ⟨rfl, id, id, id⟩) (hP.roleFrame _ _ n _ p h hs))

theorem takeoverTransmitted (hP : DriveInvariant P) {s : State} (g : Nat) (e : Epoch) (hs : P s) : P (s.takeoverTransmitted g e) := by
  unfold State.takeoverTransmitted
  split
  · exact hs
  · next r _ =>
    split
    · exact hs
    · next role h =>
      split
      · next hm =>
        refine hP.post _ _ _ (hP.starts r 100 _ (fun x hx => ?_) hs)
        obtain rfl := Option.some.inj (h.symm.trans hx)
        exact .of_timers rfl (fun _ _ => rfl) (fun ht _ => ht.stopped.2.1 (by simp [hm])) fun ht _ => ht.stopped.2.2 (by simp [hm])
      · next hm => exact hP.post _ _ _ (hP.starts_reclaim r 100 role _ h hm ⟨rfl, rfl, rfl, rfl⟩ hs)
      all_goals exact hs

theorem handbackTransmitted (hP : DriveInvariant P) {s : State} (g : Nat) (hs : P s) : P (s.handbackTransmitted g) := by
  unfold State.handbackTransmitted
  split
  · exact hs
  · refine hP.ship _ _ (fun role _ => ?_) hs
    split
    · next hm => exact fun ⟨hsilence, hhold, _⟩ => ⟨⟨hsilence, hhold, fun _ => hm.1⟩, rfl⟩
    · exact fun ht => ⟨ht, rfl⟩

theorem yieldTransmitted (hP : DriveInvariant P) {s : State} (g : Nat) (e : Epoch) (hs : P s) : P (s.yieldTransmitted g e) := by
  unfold State.yieldTransmitted
  split
  · exact hs
  · next r _ =>
    split
    · exact hs
    · next role h =>
      split
      · next hm =>
        have hnoted := hP.ship_beside r (fun sh => { sh with known := noteEpoch e sh.known }) (fun _ => ⟨rfl, id, id, id⟩) hs
        refine hP.post _ _ _ (hP.stops r _ (fun x hx => ?_) hnoted)
        obtain rfl := Option.some.inj ((s.modShip_get r _ role h).symm.trans hx)
        exact Ship.Becomes.watch _ (by simp [hm]) (by simp [hm])
      all_goals exact hs

theorem demandTransmitted (hP : DriveInvariant P) {s : State} (items : List DemandItem) (hs : P s) : P (s.demandTransmitted items) := by
  unfold State.demandTransmitted
  dsimp only
  split
  · exact hP.offer _ (hP.same hs ⟨rfl, rfl, rfl, rfl, rfl, id⟩)
  · exact hP.same hs ⟨rfl, rfl, rfl, rfl, rfl, id⟩

theorem reportTransmitted (hP : DriveInvariant P) {s : State} (p : Payload) (hs : P s) : P (s.reportTransmitted p) := by
  cases p with
  | demand items => exact hP.demandTransmitted items hs
  | takeover g e => exact hP.takeoverTransmitted g e hs
  | handback g e => exact hP.handbackTransmitted g hs
  | yield g e a l => exact hP.yieldTransmitted g e hs
  | status c => exact hs
  | alert k n v => exact hs

/-! ### Running and isolation -/

theorem roleRuns (hP : DriveInvariant P) {s : State} (r : Nat) (hs : P s) : P (s.roleRuns r) := by
  unfold State.roleRuns
  split
  · exact hs
  · next role h =>
    split
    · next hm =>
      split
      · refine hP.queueHandback r (hP.ship_at r role _ h (fun ht => ?_) hs)
        obtain ⟨hsilence, hhold, -⟩ := ht.stopped
        exact ⟨by simp [Ship.TimersOk, hsilence, hhold, hm], by rw [hm]; rfl⟩
      · refine hP.starts r 100 _ (fun x hx => ?_) hs
        obtain rfl := Option.some.inj (h.symm.trans hx)
        refine .of_timers rfl (fun ht _ => ?_) (fun ht _ => ?_) fun ht _ => ?_
        · exact ht.stopped.1 (by simp [hm])
        · exact ht.stopped.2.1 (by simp [hm])
        · exact ht.stopped.2.2 (by simp [hm])
    · next hm =>
      split
      · exact hP.claimGroup r role h (fun _ => hm) hs
      · exact hs
    all_goals exact hs

theorem roleIsolated (hP : DriveInvariant P) {s : State} (r : Nat) (hs : P s) : P (s.roleIsolated r) := by
  unfold State.roleIsolated
  split
  · exact hs
  · next role h =>
    have hfrozen := hP.ship_beside r
      (fun sh => { sh with silence := sh.silence.freeze s.now, otherSilence := sh.otherSilence.freeze s.now, wait := sh.wait.freeze s.now })
      (fun sh => ⟨rfl, Ship.freeze_stopped _ _, id, Ship.freeze_stopped _ _⟩) hs
    dsimp only
    split
    · next hm => exact hP.withdraw _ _ (hP.enterWatch r _ (s.modShip_get r _ role h) hm.1 hfrozen)
    · split
      · exact hP.ship_beside r _ (fun _ => ⟨rfl, id, id, id⟩) (hP.withdraw _ _ hfrozen)
      · exact hfrozen

theorem roleRejoined (hP : DriveInvariant P) {s : State} (r : Nat) (hs : P s) : P (s.roleRejoined r) := by
  unfold State.roleRejoined
  split
  · exact hs
  · next role h =>
    have hthawed : P (s.modShip r (fun sh => { sh with
        silence := sh.silence.unfreeze s.now, otherSilence := sh.otherSilence.unfreeze s.now
        wait := role.ship.wait.unfreeze s.now })) :=
      hP.ship_at r role _ h (.of_timers rfl (Ship.unfreeze_stopped _ _) id (Ship.unfreeze_stopped _ _)) hs
    dsimp only
    split
    · exact hP.queueHandback r hthawed
    · exact hthawed

/-! ### The Peer Unit -/

theorem isolate (hP : DriveInvariant P) {s : State} (ht : s.transmits = true) (hs : P s) : P s.isolate :=
  State.forRoles_keeps P _ _ (fun _ r h => hP.roleIsolated r h) (hP.link true ht ⟨rfl, rfl, rfl, rfl, rfl, id⟩ hs)

theorem linkTakes (hP : DriveInvariant P) {s : State} (n : Nat) (hs : P s) : P (s.linkTakes n) := by
  unfold State.linkTakes
  split
  · next ht =>
    split
    · exact State.forRoles_keeps P _ _ (fun _ r h => hP.roleRejoined r h) (hP.link false ht ⟨rfl, rfl, rfl, rfl, rfl, id⟩ hs)
    · exact hP.same hs ⟨rfl, rfl, rfl, rfl, rfl, id⟩
  · exact hs

theorem peerTakes (hP : DriveInvariant P) {s : State} (n : Nat) (p : Payload) (hs : P s) : P (s.peerTakes n p) :=
  hP.same (hP.linkTakes n (hP.same hs (State.drivesKept_rosterTakes s n _))) (State.drivesKept_peerContent _ n p)

end DriveInvariant
end Sys2Proof.Machine
end

section
/-! SUPPORT. The principle for the drives' invariants at every command. -/

namespace Sys2Proof.Machine

/-! ### The check levels of an image (R162) -/

/-- An image without a content fault can be checked at a full level (Table 10-3). -/
theorem readImage_checkable (station : Nat) (b : List Byte) (h : contentFault station b = none) : (readImage b).Checkable := by
  intro cfg hcfg
  obtain ⟨i, hi, rfl⟩ := List.mem_map.mp (show cfg ∈ (List.range (imageRoles b)).map (readRole b) from hcfg)
  have hrole := contentChecks_pass station b h (16 + i, _) (List.mem_append_left _ (List.mem_append_left _
    (List.mem_append_right _ (List.mem_map.mpr ⟨i, hi, rfl⟩))))
  simp only [roleOk, inRange, Bool.and_eq_true, decide_eq_true_eq] at hrole
  omega

/-- A valid slot's image can be checked at a full level. -/
theorem judgeSlot_checkable (station : Nat) (b : List Byte) (img : Image) (h : (judgeSlot station b).2 = some img) :
    img.Checkable := by
  unfold judgeSlot at h
  dsimp only at h
  repeat' split at h
  all_goals simp only [reduceCtorEq, Option.some.injEq] at h
  next hc => exact h ▸ readImage_checkable station b hc

namespace DriveInvariant

variable {P : State → Prop}

/-! ### Frames -/

theorem othersTake (hP : DriveInvariant P) {s : State} (n : Nat) (p : Payload) (hs : P s) : P (s.othersTake n p) := by
  cases p with
  | demand items => exact hP.takeDemand n items hs
  | alert k i v => exact hs
  | status c => exact hP.driveshipTakes n (.status c) hs
  | takeover g e => exact hP.driveshipTakes n (.takeover g e) hs
  | handback g e => exact hP.driveshipTakes n (.handback g e) hs
  | yield g e a l => exact hP.driveshipTakes n (.yield g e a l) hs

/-- A frame delivered, the blocks in either order (R140, R141, R154). -/
theorem deliver (hP : DriveInvariant P) {s : State} (n : Nat) (p : Payload) (hs : P s) : P (s.deliver n p) := by
  have hall : P (s.deliverAll n p) := by
    have hcount : P { s with choices := s.choices + 1 } := hP.same hs ⟨rfl, rfl, rfl, rfl, rfl, id⟩
    unfold State.deliverAll
    dsimp only
    repeat' split
    · exact hP.othersTake n p (hP.peerTakes n p hcount)
    · exact hP.peerTakes n p (hP.othersTake n p hcount)
    · exact hP.othersTake n p (hP.peerTakes n p hs)
  unfold State.deliver
  repeat' split
  · exact hs
  · exact hs
  · exact hP.fault _ _ hs
  · exact hall
  · exact hP.fault _ _ hs
  · exact hall
  · exact hs
  · exact hP.peerTakes n p hs

/-- A frame that the checks discard. -/
theorem discarded (hP : DriveInvariant P) {s : State} (hs : P s) :
    Ends P s (if s.receiving then (s.setLine .notIdle).countBad else s) := by
  split
  · exact hP.unseen hs ⟨rfl, rfl, rfl, rfl, rfl, id⟩ rfl
  · exact .rfl hs

/-- A frame that ends at the receiver (R128, R138). -/
theorem receive (hP : DriveInvariant P) {s : State} (n : Nat) (p : Payload) (hs : P s) : Ends P s (s.receive n p) := by
  unfold State.receive
  repeat' split
  · exact hP.finish (hP.deliver n p (hP.same hs ⟨rfl, rfl, rfl, rfl, rfl, id⟩))
  · exact hP.unseen hs ⟨rfl, rfl, rfl, rfl, rfl, id⟩ rfl
  · exact .rfl hs

theorem fault_ends (hP : DriveInvariant P) {s t : State} (cause : Cause) (item : Nat) (ht : P t) :
    Ends P s (t.enterFaulted cause item) :=
  ⟨hP.fault cause item ht, fun _ => settled_enterFaulted t cause item⟩

/-- An overlap, and the fault that a third one is (R130, R131). -/
theorem meetOverlap (hP : DriveInvariant P) {s : State} (e : QEntry) (hs : P s) : Ends P s (s.meetOverlap e) := by
  unfold State.meetOverlap
  dsimp only
  split
  · exact hP.fault_ends _ _ (hP.same hs ⟨rfl, rfl, rfl, rfl, rfl, id⟩)
  · exact hP.unseen hs ⟨rfl, rfl, rfl, rfl, rfl, id⟩ rfl

/-! ### The slots -/

/-- Both slots have been judged (R163): the station enters JOINING with an image, or FAULTED. -/
theorem chooseImage (hP : DriveInvariant P) {s : State} (l : Load) (result : SlotResult) (img : Option Image)
    (hl : s.ctl.load = some l) (himg : ∀ i, img = some i → i.Checkable) (hs : P s) :
    Ends P s (State.chooseImage { s with ctl := { s.ctl with slotB := result, load := none } } l.imageA img) := by
  have hjoin (t : State) (slot : Slot) (i : Image) (hi : l.imageA = some i ∨ img = some i)
      (ht : State.DrivesKept { s with ctl := t.ctl } t) : Ends P s (t.enterJoining slot i) :=
    ⟨hP.handTargets (hP.joins l slot i hl (hi.imp_right (himg i)) ht hs), fun _ => settled_enterJoining _ _ _⟩
  have hunloaded := hP.unloads l result hl hs
  unfold State.chooseImage
  split
  · next ha => split <;> exact hjoin _ _ _ (by simp_all) (.refl _)
  · next ha => exact hjoin _ _ _ (.inl ha) (State.drivesKept_post _ _ _ _)
  · exact hjoin _ _ _ (.inr rfl) (State.drivesKept_post _ _ _ _)
  · split
    · exact hP.fault_ends _ _ hunloaded
    all_goals exact ⟨hunloaded, id⟩

/-- The judgement of a slot (R161, R163). -/
theorem slotJudged (hP : DriveInvariant P) {s : State} (l l' : Load) (result : SlotResult) (img : Option Image)
    (hl : s.ctl.load = some l) (hi : l'.imageA = l.imageA) (himg : ∀ i, img = some i → i.Checkable) (hs : P s) :
    Ends P s (s.slotJudged l' result img) := by
  unfold State.slotJudged
  split
  · exact ⟨hP.reads l _ result hl (fun _ => LoadOk.start .b img s.now) (fun i h => .inr (himg i h)) hs, id⟩
  · rw [hi]
    exact hP.chooseImage l result img hl himg hs

/-- Bytes of a slot (R161). -/
theorem slotAnswered (hP : DriveInvariant P) {s : State} (l l' : Load) (bytes : List Byte) (ended : Bool)
    (hl : s.ctl.load = some l) (hi : l'.imageA = l.imageA) (hok : LoadOk l → LoadOk l') (hs : P s) :
    Ends P s (s.slotAnswered l' bytes ended) := by
  unfold State.slotAnswered
  dsimp only
  split
  · exact hP.slotJudged l l' _ _ hl hi (fun i h => judgeSlot_checkable _ _ i h) hs
  · next hpart =>
    obtain ⟨-, hlen⟩ := not_or.mp hpart
    refine ⟨hP.reads l _ s.ctl.slotA hl (fun h => (hok h).part l' bytes (Nat.not_le.mp hlen)) (fun i h => .inl ?_) hs, id⟩
    rw [← hi]
    exact h

/-! ### The service port -/

/-- The end of a transaction, and the RESTART that it may bring (R170, R175). -/
theorem endTransfer (hP : DriveInvariant P) {s : State} (straps : Straps) (hs : P s) : Ends P s (s.endTransfer straps) := by
  have hidle : P { s with port := { s.port with transfer := .idle } } := hP.same hs ⟨rfl, rfl, rfl, rfl, rfl, id⟩
  unfold State.endTransfer
  split
  · dsimp only
    split
    · next action _ =>
      cases action with
      | select v => exact hP.unseen hs ⟨rfl, rfl, rfl, rfl, rfl, id⟩ rfl
      | takeNotice => exact hP.unseen hs ⟨rfl, rfl, rfl, rfl, rfl, id⟩ rfl
      | clearLatches => exact ⟨hP.latches hidle, id⟩
      | restart =>
        refine ⟨hP.restart straps hidle, fun _ => ?_⟩
        unfold State.portAct State.restart State.beginLoading
        dsimp only
        split
        · exact fun role hr => nomatch hr
        · exact settled_enterFaulted _ _ _
    · exact ⟨hidle, id⟩
  · exact .rfl hs

/-- A transaction whose bytes have come, after one that has ended. -/
theorem Ends.trans {s t u : State} (h : Ends P s t) (h' : P t → Ends P t u) : Ends P s u := by
  obtain ⟨ht, hsettled⟩ := h
  obtain ⟨hu, hsettled'⟩ := h' ht
  exact ⟨hu, hsettled' ∘ hsettled⟩

/-- A whole write transaction. -/
theorem portWrite (hP : DriveInvariant P) {s : State} (straps : Straps) (bytes : List Byte) (hs : P s) :
    Ends P s (s.portWrite straps bytes) := by
  unfold State.portWrite
  split
  · refine (hP.endTransfer s.ctl.straps hs).trans fun hu => ?_
    exact (hP.unseen hu ⟨rfl, rfl, rfl, rfl, rfl, id⟩ rfl : Ends P _ (State.bringBytes _ bytes)).trans fun hv =>
      hP.endTransfer straps hv
  · exact .rfl hs

/-! ### Every command -/

/-- A handback wait of RECLAIM that ends in a forced takeover (R59, R60). -/
theorem forceTakeover_of_wait (hP : DriveInvariant P) {s : State} (r : Nat) (role : Role) (mark : Forcing)
    (h : s.roles[r]? = some role) (hw : role.ship.wait ≠ .stopped) (hs : P s) :
    P ((s.modShip r (fun sh => { sh with wait := .stopped })).forceTakeover r mark) := by
  refine hP.queueTakeover r ?_
  rw [State.modShip_modShip]
  refine hP.ship_at r role _ h (fun ht => ?_) hs
  have hm := ht.2.2 hw
  exact ⟨by simp [Ship.TimersOk, ht.stopped.1, hm], by simp [hm, RoleMachine.acting]⟩

/-- Every command keeps the property, and leaves no STATUS due. -/
theorem exec (hP : DriveInvariant P) (c : Instr) (s t : State) (hs : P s) (h : exec c s = .next t) : Ends P s t := by
  cases c
  all_goals (injection h with h; subst h)
  case resetHeldEntry delivered => exact ⟨hP.held delivered hs, fun _ _ hr => nomatch hr⟩
  case resetHeldEnd straps =>
    have hport : P { s with port := { s.port with selection := .station } } := hP.same hs ⟨rfl, rfl, rfl, rfl, rfl, id⟩
    split
    · next hr =>
      refine ⟨hP.begins (s := { s with port := { s.port with selection := .station } }) s.now straps hr hport, fun h => ?_⟩
      unfold State.beginLoading
      dsimp only
      split
      · exact h
      · exact settled_enterFaulted _ _ _
    all_goals exact .rfl hs
  case memoryAnswerTimeout =>
    split
    · exact .rfl hs
    · next l hl =>
      exact hP.onExpiry _ _ s (fun u _ _ _ hc hu => hP.slotJudged l l _ _ (by rw [hc, hl]) rfl (fun _ hi => nomatch hi) hu) hs
  case slotReadComplete bytes status ended =>
    split
    · exact .rfl hs
    · next l hl =>
      dsimp only
      generalize hl' : (if l.ready then l else l.queried status) = l'
      have hi : l'.imageA = l.imageA := by rw [← hl']; split <;> simp
      have hok : LoadOk l → LoadOk l' := by
        rw [← hl']
        split
        · exact id
        · next hr => exact fun h => h.queried l status (by simpa using hr)
      split
      · exact hP.slotAnswered l l' bytes ended hl hi hok hs
      · exact ⟨hP.reads l l' s.ctl.slotA hl hok (fun img h => .inl (hi ▸ h)) hs, id⟩
  case joinWindowExpiry =>
    refine hP.onExpiry _ _ s (fun u hw _ _ hc hu => hP.finish ?_) hs
    exact State.forRoles_keeps P _ _ (fun _ r h => hP.roleRuns r h) (hP.post _ _ _ (hP.runs (by rwa [hc]) hu))
  case roundComplete ms =>
    refine hP.onExpiry _ _ s (fun u _ _ _ _ hu => hP.finish ?_) hs
    have hround : P (State.takeRound { u with roundTimer := .running (u.now + 250) } ms) :=
      State.foldl_keeps P _ _ _ (fun _ i h => hP.takeChannel ms i h) (hP.same hu ⟨rfl, rfl, rfl, rfl, rfl, id⟩)
    split
    · exact hP.computeDemand hround
    · exact hround
  case criticalAlertRepeatExpiry i =>
    split
    · exact .rfl hs
    · refine hP.onExpiry _ _ s (fun u _ _ _ _ hu => hP.finish ?_) hs
      have hrepeat := hP.same hu (State.drivesKept_modTemp_repeat u i (.running (u.now + 5000)))
      split
      · exact hrepeat
      · exact hP.offer _ hrepeat
  case claimExpiry r n =>
    repeat' split
    · exact .rfl hs
    · exact .rfl hs
    · exact .rfl hs
    · exact .rfl hs
    · next l _ _ =>
      have hlate (due : Nat) : P (s.until due) := hP.same hs ⟨rfl, rfl, rfl, rfl, rfl, id⟩
      exact hP.finish (hP.handTarget r (hP.same (hlate _) (State.drivesKept_endClaim _ r n)))
  case joinGraceEnd r =>
    split
    · exact .rfl hs
    · next role _ =>
      exact hP.onExpiry _ _ s
        (fun u _ _ _ _ hu => hP.finish (hP.handTarget r (hP.same hu (State.drivesKept_reportAwaited u r role)))) hs
  case peakExpiry r =>
    split
    · exact .rfl hs
    · exact hP.onExpiry _ _ s (fun u _ _ _ _ hu => hP.finish (hP.handTarget r (hP.same hu (State.drivesKept_modClaims u r _)))) hs
  case tachMeasurement i edges =>
    split
    · exact .rfl hs
    · next f hf => exact hP.onExpiry _ _ s (fun u _ _ hfans _ hu => hP.finish (hP.fan i f edges (by rw [hfans, hf]) hu)) hs
  case rampTimerExpiry r =>
    split
    · exact .rfl hs
    · next role hr =>
      have hstep (due : Nat) (level : RoleCfg → Nat) (hramp : role.drive.ramp ≠ .stopped) :
          P ((s.until due).driveEvent r (fun cfg => Drive.rampStep (max s.now due) cfg (level cfg))) := by
        refine hP.event r _ (fun x hx => ?_) (hP.same hs ⟨rfl, rfl, rfl, rfl, rfl, id⟩)
        obtain rfl := Option.some.inj (hr.symm.trans hx)
        exact Drive.rampStep_goesOn _ _ _ _ hramp
      split
      · exact .rfl hs
      · next due hramp => exact hP.finish (hstep due _ (by simp [hramp]))
      · next due hramp => exact hP.finish (hstep due _ (by simp [hramp]))
  case stopDelayExpiry r =>
    split
    · exact .rfl hs
    · next role hr =>
      refine hP.onExpiry _ _ s (fun u hrun hroles _ _ hu => hP.finish (hP.event r _ (fun x hx => ?_) hu)) hs
      obtain rfl := Option.some.inj (hr.symm.trans (hroles ▸ hx))
      exact Drive.enterStopped_goesOn _ hrun
  case spinUpExpiry r =>
    split
    · exact .rfl hs
    · next role hr =>
      refine hP.onExpiry _ _ s (fun u hrun hroles _ _ hu => hP.finish (hP.event r _ (fun x hx => ?_) hu)) hs
      obtain rfl := Option.some.inj (hr.symm.trans (hroles ▸ hx))
      exact Drive.endSpinUp_goesOn _ _ _ _ hrun
  case statusTimerExpiry r =>
    split
    · exact .rfl hs
    · exact hP.onExpiry _ _ s (fun u _ _ _ _ hu => hP.finish (hP.queueStatus r hu)) hs
  case silenceTimerExpiry r =>
    split
    · exact .rfl hs
    · next role hr =>
      refine hP.onExpiry _ _ s (fun u hrun hroles _ _ hu => ?_) hs
      have hur : u.roles[r]? = some role := by rw [hroles, hr]
      split
      · exact hP.finish (hP.claimGroup r role hur (fun ht => ht.1 hrun) hu)
      · exact ⟨hP.ship_beside r _ (fun _ => ⟨rfl, fun _ => rfl, id, id⟩) hu, settled_modShip u r _⟩
      all_goals exact .rfl hu
  case otherSilenceExpiry r =>
    split
    · exact .rfl hs
    · next role hr =>
      refine hP.onExpiry _ _ s (fun u hrun hroles _ _ hu => ?_) hs
      have hsilent := hP.ship_beside r (fun sh => { sh with otherSilence := .stopped }) (fun _ => ⟨rfl, id, id, id⟩) hu
      have hget := u.modShip_get r (fun sh => { sh with otherSilence := .stopped }) role (by rw [hroles, hr])
      dsimp only
      split
      · exact ⟨hP.ship_beside r _ (fun _ => ⟨rfl, id, id, id⟩) hsilent, fun h => settled_modShip _ r _ (settled_modShip u r _ h)⟩
      · next hm => exact hP.finish (hP.forceTakeover r _ _ hget (fun _ => .inl hm) (hP.withdraw _ _ hsilent))
      · next hm =>
        split
        · exact hP.finish (hP.forceTakeover r _ _ hget (fun _ => .inr hm) (hP.withdraw _ _ hsilent))
        · exact ⟨hsilent, settled_modShip u r _⟩
      all_goals exact ⟨hsilent, settled_modShip u r _⟩
  case displacedHoldExpiry r =>
    split
    · exact .rfl hs
    · next role hr =>
      refine hP.onExpiry _ _ s (fun u hrun hroles _ _ hu => hP.finish (hP.queueHandback r ?_)) hs
      refine hP.ship_at r role _ (by rw [hroles, hr]) (fun ht => ?_) hu
      have hm := ht.2.1 hrun
      exact ⟨by simp [Ship.TimersOk, ht.stopped.1, hm], by simp [hm, RoleMachine.acting]⟩
  case handbackWaitExpiry r =>
    split
    · exact .rfl hs
    · next role hr =>
      refine hP.onExpiry _ _ s (fun u hrun hroles _ _ hu => hP.finish ?_) hs
      have hwaited := hP.ship_beside r (fun sh => { sh with wait := .stopped }) (fun _ => ⟨rfl, id, id, fun _ => rfl⟩) hu
      repeat' split
      · exact hP.queueTakeover r hwaited
      · exact hP.queueHandback r hwaited
      · exact hP.forceTakeover_of_wait r role .attempts (by rw [hroles, hr]) hrun hu
  case refreshTimerExpiry =>
    refine hP.onExpiry _ _ s (fun u _ _ _ _ hu => hP.finish ?_) hs
    have hrestart : P u.restartRefresh := hP.same hu ⟨rfl, rfl, rfl, rfl, rfl, id⟩
    split
    · exact hrestart
    · exact hP.offer _ hrestart
  case viewStale g =>
    repeat' split
    · exact .rfl hs
    · exact .rfl hs
    · exact hP.unseen hs ⟨rfl, rfl, rfl, rfl, rfl, id⟩ rfl
  case saturationAlertRepeatExpiry g =>
    repeat' split
    · exact .rfl hs
    · exact .rfl hs
    · refine hP.onExpiry _ _ s (fun u _ _ _ _ hu => hP.finish ?_) hs
      split
      · exact hP.same hu ⟨rfl, rfl, rfl, rfl, rfl, id⟩
      · exact hP.offer _ (hP.same hu ⟨rfl, rfl, rfl, rfl, rfl, id⟩)
  case boardRenewalExpiry g n =>
    split
    · exact .rfl hs
    · exact hP.unseen hs ⟨rfl, rfl, rfl, rfl, rfl, id⟩ rfl
  case rosterSilent n =>
    repeat' split
    · exact .rfl hs
    · exact .rfl hs
    · exact hP.unseen hs ⟨rfl, rfl, rfl, rfl, rfl, id⟩ rfl
  case rosterLoss n =>
    split
    · exact .rfl hs
    · exact hP.unseen hs ⟨rfl, rfl, rfl, rfl, rfl, id⟩ rfl
  case linkSilenceExpiry =>
    refine hP.onExpiry _ _ s (fun u _ _ _ _ hu => ?_) hs
    repeat' split
    · exact hP.unseen hu ⟨rfl, rfl, rfl, rfl, rfl, id⟩ rfl
    · next hrun => exact hP.finish (hP.isolate (by simp [State.transmits, hrun.1]) hu)
    · exact .rfl hu
  case demandFrame n items => exact hP.receive n _ hs
  case statusFrame n content => exact hP.receive n _ hs
  case takeoverFrame n g e => exact hP.receive n _ hs
  case handbackFrame n g e => exact hP.receive n _ hs
  case yieldFrame n g e a l => exact hP.receive n _ hs
  case alertFrame n k i v => exact hP.receive n _ hs
  case badFrameReceived frame =>
    split
    · exact hP.receive _ _ hs
    · exact hP.discarded hs
  case pulseError pulse =>
    repeat' split
    · exact hP.meetOverlap _ hs
    · exact hP.unseen hs ⟨rfl, rfl, rfl, rfl, rfl, id⟩ rfl
    · exact .rfl hs
    · exact .rfl hs
  case lineIdle peerFirst =>
    have hidle (l : Line) : State.DrivesKept s { s with line := l } := ⟨rfl, rfl, rfl, rfl, rfl, id⟩
    repeat' split
    · exact .rfl hs
    · exact hP.unseen hs ⟨rfl, rfl, rfl, rfl, rfl, id⟩ rfl
    · exact hP.unseen hs ((hidle _).trans (State.drivesKept_startHead _)) (by simp)
    · exact hP.unseen hs ⟨rfl, rfl, rfl, rfl, rfl, id⟩ rfl
    · exact hP.unseen hs ((hidle _).trans (State.drivesKept_startHead _)) (by simp)
    · exact .rfl hs
    · exact .rfl hs
  case contentionLoss cell =>
    repeat' split
    · exact hP.unseen hs ⟨rfl, rfl, rfl, rfl, rfl, id⟩ rfl
    · exact .rfl hs
    · exact .rfl hs
  case overlap mismatch =>
    repeat' split
    · exact hP.meetOverlap _ hs
    · exact .rfl hs
    · exact .rfl hs
  case lineStuck =>
    have hcounted : State.DrivesKept s (if s.line.state = .frame then s.countBad else s)
        ∧ (if s.line.state = .frame then s.countBad else s).roles = s.roles := by
      split
      · exact ⟨⟨rfl, rfl, rfl, rfl, rfl, id⟩, rfl⟩
      · exact ⟨.refl s, rfl⟩
    split
    · dsimp only
      split
      · exact hP.unseen hs (hcounted.1.trans ⟨rfl, rfl, rfl, rfl, rfl, id⟩) hcounted.2
      · exact hP.unseen hs (hcounted.1.trans ⟨rfl, rfl, rfl, rfl, rfl, id⟩) hcounted.2
    · exact .rfl hs
  case frameTransmitted =>
    split
    · exact .rfl hs
    · exact hP.finish (hP.reportTransmitted _ (hP.same hs ⟨rfl, rfl, rfl, rfl, rfl, id⟩))
  case restart straps => exact hP.portWrite _ _ hs
  case takeNotice => exact hP.portWrite _ _ hs
  case clearLatches => exact hP.portWrite _ _ hs
  case stationView => exact hP.portWrite _ _ hs
  case channelView => exact hP.portWrite _ _ hs
  case fanView => exact hP.portWrite _ _ hs
  case roleView => exact hP.portWrite _ _ hs
  case claimsView => exact hP.portWrite _ _ hs
  case groupviewView => exact hP.portWrite _ _ hs
  case rosterView => exact hP.portWrite _ _ hs
  case demandView => exact hP.portWrite _ _ hs
  case satboardView => exact hP.portWrite _ _ hs
  case noticeView => exact hP.portWrite _ _ hs
  case countsView => exact hP.portWrite _ _ hs
  case writeRefused address bytes ended =>
    have hbrought : Ends P s (s.bringBytes bytes) := hP.unseen hs ⟨rfl, rfl, rfl, rfl, rfl, id⟩ rfl
    dsimp only
    repeat' split
    · exact hbrought.trans fun hu => hP.endTransfer _ hu
    · exact hbrought
    · exact hP.endTransfer _ hs
  case readTransaction address count =>
    dsimp only
    split
    · exact (hP.endTransfer s.ctl.straps hs).trans fun hu => hP.unseen hu ⟨rfl, rfl, rfl, rfl, rfl, id⟩ rfl
    · exact hP.endTransfer _ hs
  case startMark =>
    split
    · exact hP.unseen hs ⟨rfl, rfl, rfl, rfl, rfl, id⟩ rfl
    · exact .rfl hs

/-- Every step keeps the property, and leaves no STATUS due. -/
theorem step (hP : DriveInvariant P) (s t : State) (hs : P s) (h : step s = .next t) : Ends P s t := by
  unfold Machine.step at h
  split at h
  · injection h with h
    exact h ▸ hP.unseen hs ⟨rfl, rfl, rfl, rfl, rfl, id⟩ rfl
  · next c rest _ =>
    have hrest : P { s with pending := rest } := hP.same hs ⟨rfl, rfl, rfl, rfl, rfl, id⟩
    exact hP.exec c { s with pending := rest } t hrest h

end DriveInvariant
end Sys2Proof.Machine
end

section
/-! SUPPORT. What the roles keep at an event of a drive, at a change of causes and at a fault. -/

namespace Sys2Proof.Machine

/-! ### Causes -/

@[simp] theorem Drive.setCauses_causes (now : Nat) (cfg : RoleCfg) (causes : Causes) (d : Drive) :
    (d.setCauses now cfg causes).causes = causes := by
  unfold Drive.setCauses
  dsimp only
  split
  · next h => exact h.symm
  · split
    · split <;> rfl
    · split <;> rfl
    · split <;> rfl
    · split <;> rfl
    · rfl

/-- A new condition changes of the causes GROUP_FAILED alone (R31). -/
@[simp] theorem Drive.takeCondition_causes (now : Nat) (cfg : RoleCfg) (c : Condition) (d : Drive) :
    (d.takeCondition now cfg c).causes = { d.causes with groupFailed := c == Condition.failed } := by
  simp [Drive.takeCondition]

/-- The start of acting keeps the causes (R34). -/
@[simp] theorem Drive.startActing_causes (now : Nat) (cfg : RoleCfg) (level : Nat) (d : Drive) :
    (d.startActing now cfg level).causes = d.causes := by
  unfold Drive.startActing
  split <;> rfl

/-! ### Roles -/

/-- Where one role changes, what the others have and the new one has all have. -/
theorem forall_mem_of_get {α : Type} {Q : α → Prop} {l : List α} (r : Nat)
    (hother : ∀ q x, q ≠ r → l[q]? = some x → Q x) (hself : ∀ x, l[r]? = some x → Q x) : ∀ x ∈ l, Q x := by
  intro x hx
  obtain ⟨q, hq⟩ := List.mem_iff_getElem?.mp hx
  by_cases hne : q = r
  · exact hself x (hne ▸ hq)
  · exact hother q x hne hq

/-- A measure of a list where one element has changed, and has it as before. -/
theorem map_modify_of_get {α β : Type} (g : α → β) (f : α → α) (l : List α) (i : Nat) (h : ∀ x, l[i]? = some x → g (f x) = g x) :
    (l.modify i f).map g = l.map g := by
  apply List.ext_getElem? fun j => ?_
  simp only [List.getElem?_map, List.getElem?_modify]
  split
  · next hij => subst hij; cases hx : l[i]? <;> simp [h _, hx]
  · simp

/-- What a role has beside what a condition acts on. -/
def ConditionFree (Q : Role → Prop) : Prop :=
  ∀ (role : Role) (now : Nat) (c : Condition), Q role → Q { role with drive := role.drive.takeCondition now role.cfg c }

namespace State

theorem judgeGroup_roles {Q : Role → Prop} (hQ : ConditionFree Q) (s : State) (r : Nat) (hs : ∀ role ∈ s.roles, Q role) :
    ∀ role ∈ (s.judgeGroup r).roles, Q role := by
  unfold judgeGroup
  split
  · exact hs
  · next role h =>
    dsimp only
    split
    · exact hs
    · refine forall_mem_of_get r (fun q x hne hx => hs x ?_) fun x hx => ?_
      · exact List.mem_of_getElem? (i := q) (by simpa [Ne.symm hne] using hx)
      · obtain rfl : _ = x := by simpa [h] using hx
        exact hQ role _ _ (hs role (List.mem_of_getElem? h))

/-- An event of one drive: the other roles, and this one as the event leaves it, have what no condition acts on. -/
theorem driveEvent_roles {Q : Role → Prop} (hQ : ConditionFree Q) (s : State) (r : Nat) (f : RoleCfg → Drive → Drive)
    (hother : ∀ q role, q ≠ r → s.roles[q]? = some role → Q role)
    (hself : ∀ role, s.roles[r]? = some role → Q { role with drive := f role.cfg role.drive }) :
    ∀ role ∈ (s.driveEvent r f).roles, Q role := by
  refine forall_mem_of_get r (fun q x hne hx => hother q x hne (driveEvent_get_other s r q f hne ▸ hx)) fun x hx => ?_
  cases h : s.roles[r]? with
  | none => rw [driveEvent, h] at hx; simp [h] at hx
  | some role =>
    rw [driveEvent_get_self s r f role h] at hx
    obtain rfl := Option.some.inj hx
    dsimp only
    split
    · exact hself role h
    · exact hQ _ _ _ (hself role h)

/-- A change of the causes of every role. -/
theorem setCausesAll_roles {Q : Role → Prop} (hQ : ConditionFree Q) (s : State) (f : Causes → Causes)
    (hs : ∀ role ∈ s.roles, ∀ now, Q { role with drive := role.drive.setCauses now role.cfg (f role.drive.causes) }) :
    ∀ role ∈ (s.setCausesAll f).roles, Q role := by
  intro role hr
  obtain ⟨q, hq⟩ := List.mem_iff_getElem?.mp hr
  have hlength : (s.setCausesAll f).roles.length = s.roles.length :=
    forRoles_same (·.roles.length) _ s fun u x => driveEvent_length u x _
  have hlt : q < s.roles.length := hlength ▸ (List.getElem?_eq_some_iff.mp hq).1
  obtain ⟨u, -, hu, he⟩ := forRoles_get (fun _ => True)
    (fun s r => s.driveEvent r (fun cfg d => d.setCauses s.now cfg (f d.causes)))
    (fun v r q hne => driveEvent_get_other v r q _ hne) (fun _ _ h => h) s trivial q hlt
  have hself : u.roles[q]? = some s.roles[q] := by rw [hu, List.getElem?_eq_getElem hlt]
  rw [show (s.setCausesAll f).roles[q]? = _ from he, driveEvent_get_self u q _ _ hself] at hq
  obtain rfl := Option.some.inj hq
  have hset := hs s.roles[q] (List.getElem_mem hlt) u.now
  dsimp only
  split
  · exact hset
  · exact hQ _ _ _ hset

/-- Every role at the entry into FAULTED: its drive has stopped acting, its table and its record are at their values (R166). -/
theorem enterFaulted_role (s : State) (cause : Cause) (item : Nat) (role : Role) (h : role ∈ (s.enterFaulted cause item).roles) :
    ∃ old ∈ s.roles, role = Role.faulted { old with drive := old.drive.stopActing } := by
  simp only [enterFaulted, blocksFault, evaluateThrottle_roles, List.mem_map] at h
  obtain ⟨stopped, hstopped, rfl⟩ := h
  obtain ⟨q, hq⟩ := List.mem_iff_getElem?.mp hstopped
  have hlength (u : State) : (u.forRoles stopActing).roles.length = u.roles.length :=
    forRoles_same (·.roles.length) _ u stopActing_length
  have hlt : q < s.roles.length := by simpa [hlength] using (List.getElem?_eq_some_iff.mp hq).1
  obtain ⟨u, -, hu, he⟩ := forRoles_get (fun _ => True) stopActing stopActing_get_other (fun _ _ h => h) _ trivial q
    (show q < (post { s with ctl := { s.ctl with
      state := .faulted, cause := some cause, item := item, load := none, joinWindow := .stopped } }
      .fault (causeCode cause) (some item)).roles.length from hlt)
  have hself : u.roles[q]? = some s.roles[q] := hu.trans (List.getElem?_eq_getElem hlt)
  rw [he, u.stopActing_get q _ hself] at hq
  exact ⟨s.roles[q], List.getElem_mem hlt, by rw [Option.some.inj hq]⟩

/-- A role's part that is not seen is what it was in some role before. -/
theorem DrivesKept.role {s t : State} (h : s.DrivesKept t) (r : Nat) (role : Role) (hr : t.roles[r]? = some role) :
    ∃ old, s.roles[r]? = some old ∧ role.cfg = old.cfg ∧ role.ship = old.ship ∧ role.drive.unreported = old.drive.unreported := by
  have hget := congrArg (·[r]?) h.roles
  simp only [List.getElem?_map, hr, Option.map_some] at hget
  cases hold : s.roles[r]? with
  | none => rw [hold] at hget; exact nomatch hget
  | some old =>
    rw [hold, Option.map_some] at hget
    obtain ⟨hcfg, hdrive, hship⟩ : role.cfg = old.cfg ∧ role.drive.unreported = old.drive.unreported ∧ role.ship = old.ship := by
      simpa [Role.driveSide] using hget
    exact ⟨old, rfl, hcfg, hship, hdrive⟩

/-- The same of a role that is known to be there. -/
theorem DrivesKept.role_mem {s t : State} (h : s.DrivesKept t) (role : Role) (hr : role ∈ t.roles) :
    ∃ old ∈ s.roles, role.cfg = old.cfg ∧ role.ship = old.ship ∧ role.drive.unreported = old.drive.unreported := by
  obtain ⟨q, hq⟩ := List.mem_iff_getElem?.mp hr
  obtain ⟨old, hold, hsame⟩ := h.role q role hq
  exact ⟨old, List.mem_of_getElem? hold, hsame⟩

end State

/-- Two drives whose reporting alone differs. -/
theorem Drive.eq_of_unreported {d d' : Drive} (h : d'.unreported = d.unreported) :
    d' = { d with statusTimer := d'.statusTimer, statusDue := d'.statusDue } := by
  cases d
  cases d'
  simpa [Drive.unreported] using h

end Sys2Proof.Machine
end

section
/-! SUPPORT. The invariant of critical temperatures and isolation (R42, R81, R84, R85, R119). -/

namespace Sys2Proof.Machine

/-! ### A temperature channel -/

/-- The bounds of a temperature channel's record (R76, R81, R84). -/
def TempChannel.Ranged (c : TempChannel) : Prop :=
  (∀ v, c.reading = some v → -40 ≤ v ∧ v ≤ 150) ∧ c.critCount ≤ 2 ∧ (c.critical = false → c.critCount ≤ 1)
    ∧ (c.watch = .above → c.latch = true)

/-- A reading lies in its range (R76). -/
theorem TempChannel.readingTaken_range (m : Measurement) (c : TempChannel) (v : Int) (h : c.readingTaken m = some v) :
    -40 ≤ v ∧ v ≤ 150 := by
  unfold TempChannel.readingTaken at h
  repeat' split at h
  all_goals simp only [reduceCtorEq, Option.some.injEq] at h
  simp only [measuredValue] at h
  omega

/-- A round keeps a channel's record in its bounds (R77 to R84). -/
theorem TempChannel.round_ranged (m : Measurement) {c : TempChannel} (h : c.Ranged) : (c.round m).Ranged := by
  obtain ⟨hreading, hcount, hcalm, hlatch⟩ := h
  have hnext (health : Health) (reading : Option Int) : c.nextCount health reading ≤ 2 := by
    unfold TempChannel.nextCount
    cases hc : c.critical with
    | true => simp only [if_true]; split <;> omega
    | false =>
      have := hcalm hc
      rw [if_neg (by simp)]
      repeat' split
      all_goals omega
  refine ⟨fun v hv => ?_, hnext _ _, fun hc => ?_, fun hw => ?_⟩
  · rcases Option.or_eq_some_iff.mp hv with ht | ⟨-, hr⟩
    · exact c.readingTaken_range m v ht
    · exact hreading v hr
  · have hc : c.critical = false ∧ ¬2 ≤ (c.round m).critCount := by simpa [TempChannel.round] using hc
    omega
  · have hw : c.nextWatch (c.readingTaken m) = .above := hw
    simp only [TempChannel.round, hw]
    cases hb : c.watch with
    | below => simp
    | above => simp [hlatch hb]

theorem TempChannel.reset_ranged : TempChannel.reset.Ranged := by
  simp [TempChannel.Ranged, TempChannel.reset]

/-! ### The invariant in its parts -/

/-- The causes ISOLATED and CRITICAL of a role's set (R42). -/
def Role.Caused (isolated critical : Bool) (role : Role) : Prop :=
  role.drive.causes.isolated = isolated ∧ role.drive.causes.critical = critical

/-- What the invariant asks of Station Control. -/
def Control.Protects (c : Control) : Prop :=
  (c.load.isSome = true → c.state = .loading) ∧ (c.joinWindow ≠ .stopped → c.state = .joining)

/-- Is some channel CRITICAL? -/
def State.anyCritical (s : State) : Bool := s.temps.any (·.critical)

theorem protectionOk_iff (s : State) :
    ProtectionOk s ↔ (∀ role ∈ s.roles, role.Caused s.peers.isolated s.anyCritical) ∧ (s.anyCritical = true → s.shutdown = true)
      ∧ (∀ c ∈ s.temps, c.Ranged)
      ∧ ((s.ctl.load.isSome = true ∨ s.ctl.state = .resetHeld) →
          s.peers.isolated = false ∧ ∀ c ∈ s.temps, c.used = false ∧ c.critical = false)
      ∧ s.ctl.Protects := Iff.rfl

theorem Role.conditionFree_caused (isolated critical : Bool) : ConditionFree (Role.Caused isolated critical) := by
  rintro role now c ⟨hisolated, hcritical⟩
  exact ⟨by simp [hisolated], by simp [hcritical]⟩

/-- A role whose drive's causes are as they were. -/
theorem Role.Caused.of_causes {isolated critical : Bool} {role role' : Role} (h : role.Caused isolated critical)
    (hc : role'.drive.causes = role.drive.causes) : role'.Caused isolated critical := by
  unfold Role.Caused
  rwa [hc]

/-- The roles change, and keep their causes ISOLATED and CRITICAL; nothing else does that the invariant sees. -/
theorem ProtectionOk.of_roles {s t : State} (h : ProtectionOk s) (hctl : t.ctl = s.ctl) (htemps : t.temps = s.temps)
    (hpeers : t.peers = s.peers) (hshut : t.shutdown = s.shutdown)
    (hroles : ∀ role ∈ t.roles, role.Caused s.peers.isolated s.anyCritical) : ProtectionOk t := by
  obtain ⟨-, hshutdown, hranged, hbefore, hcontrol⟩ := (protectionOk_iff s).mp h
  refine (protectionOk_iff t).mpr ⟨?_, ?_, ?_, ?_, ?_⟩
  · rw [hpeers, State.anyCritical, htemps]; exact hroles
  · rw [State.anyCritical, htemps, hshut]; exact hshutdown
  · rw [htemps]; exact hranged
  · rw [hctl, hpeers, htemps]; exact hbefore
  · rw [hctl]; exact hcontrol

/-- The temperature channels change, and which of them are used and CRITICAL does not. -/
theorem ProtectionOk.of_temps {s t : State} (h : ProtectionOk s) (hctl : t.ctl = s.ctl)
    (hisolated : t.peers.isolated = s.peers.isolated) (hshut : s.shutdown = true → t.shutdown = true)
    (hsame : t.temps.map (fun c => (c.used, c.critical)) = s.temps.map (fun c => (c.used, c.critical)))
    (hranged : ∀ c ∈ t.temps, c.Ranged) (hroles : ∀ role ∈ t.roles, role.Caused s.peers.isolated s.anyCritical) :
    ProtectionOk t := by
  obtain ⟨-, hshutdown, -, hbefore, hcontrol⟩ := (protectionOk_iff s).mp h
  have hany (u : State) : u.anyCritical = (u.temps.map (fun c => (c.used, c.critical))).any (·.2) := by
    simp [State.anyCritical, List.any_map, Function.comp_def]
  have hcritical : t.anyCritical = s.anyCritical := by rw [hany, hany, hsame]
  refine (protectionOk_iff t).mpr ⟨?_, ?_, hranged, fun hload => ?_, hctl ▸ hcontrol⟩
  · rw [hisolated, hcritical]; exact hroles
  · rw [hcritical]; exact fun hc => hshut (hshutdown hc)
  · obtain ⟨hiso, hold⟩ := hbefore (hctl ▸ hload)
    refine ⟨hisolated.trans hiso, fun c hc => ?_⟩
    have hmem := List.mem_map_of_mem (f := fun c : TempChannel => (c.used, c.critical)) hc
    rw [hsame] at hmem
    obtain ⟨old, hmem, he⟩ := List.mem_map.mp hmem
    obtain ⟨hused, hcrit⟩ := Prod.mk.inj he
    exact ⟨hused ▸ (hold old hmem).1, hcrit ▸ (hold old hmem).2⟩

/-- An event of one drive that keeps its causes. -/
theorem ProtectionOk.driveEvent {s : State} (h : ProtectionOk s) (r : Nat) (f : RoleCfg → Drive → Drive)
    (hf : ∀ role, s.roles[r]? = some role →
      (f role.cfg role.drive).causes.isolated = role.drive.causes.isolated
        ∧ (f role.cfg role.drive).causes.critical = role.drive.causes.critical) : ProtectionOk (s.driveEvent r f) := by
  obtain ⟨hroles, -⟩ := (protectionOk_iff s).mp h
  refine h.of_roles (by simp) (by simp) (by simp) (by simp) (State.driveEvent_roles (Role.conditionFree_caused _ _) s r f
    (fun q role _ hq => hroles role (List.mem_of_getElem? hq)) fun role hr => ?_)
  obtain ⟨hisolated, hcritical⟩ := hf role hr
  obtain ⟨hi, hc⟩ := hroles role (List.mem_of_getElem? hr)
  exact ⟨hisolated.trans hi, hcritical.trans hc⟩

/-- A role record changes. -/
theorem ProtectionOk.modShip {s : State} (h : ProtectionOk s) (r : Nat) (f : Ship → Ship) : ProtectionOk (s.modShip r f) := by
  obtain ⟨hroles, -⟩ := (protectionOk_iff s).mp h
  refine h.of_roles rfl rfl rfl rfl (forall_mem_of_get r (fun q x hne hx => ?_) fun x hx => ?_)
  · exact hroles x (List.mem_of_getElem? (i := q) (by simpa [Ne.symm hne] using hx))
  · cases hr : s.roles[r]? with
    | none => simp [hr] at hx
    | some role =>
      obtain rfl : _ = x := by simpa [hr] using hx
      exact (hroles role (List.mem_of_getElem? hr)).of_causes rfl

/-- The station enters FAULTED: causes and lines stay (R43, R119). -/
theorem ProtectionOk.enterFaulted {s : State} (h : ProtectionOk s) (cause : Cause) (item : Nat) :
    ProtectionOk (s.enterFaulted cause item) := by
  obtain ⟨hroles, hshutdown, hranged, hbefore, -⟩ := (protectionOk_iff s).mp h
  obtain ⟨-, hload, hstate, hjoin⟩ := enterFaulted_empty s cause item
  have hstops (u : State) : (u.forRoles State.stopActing).temps = u.temps
      ∧ (u.forRoles State.stopActing).peers = u.peers ∧ (u.forRoles State.stopActing).shutdown = u.shutdown :=
    ⟨State.forRoles_same (·.temps) _ u fun v r => by simp, State.forRoles_same (·.peers) _ u fun v r => by simp,
      State.forRoles_same (·.shutdown) _ u fun v r => by simp⟩
  have htemps : (s.enterFaulted cause item).temps = s.temps.map TempChannel.faulted := by
    simp [State.enterFaulted, State.blocksFault, hstops]
  have hisolated : (s.enterFaulted cause item).peers.isolated = s.peers.isolated := by
    simp [State.enterFaulted, State.blocksFault, hstops]
  have hshut : (s.enterFaulted cause item).shutdown = s.shutdown := by
    simp [State.enterFaulted, State.blocksFault, hstops]
  have hcritical : (s.enterFaulted cause item).anyCritical = s.anyCritical := by
    simp [State.anyCritical, htemps, List.any_map, Function.comp_def, TempChannel.faulted]
  refine (protectionOk_iff _).mpr ⟨fun role hr => ?_, ?_, fun c hc => ?_, ?_, ?_⟩
  · obtain ⟨old, hold, rfl⟩ := State.enterFaulted_role s cause item role hr
    rw [hisolated, hcritical]
    exact hroles old hold
  · rw [hcritical, hshut]; exact hshutdown
  · rw [htemps] at hc
    obtain ⟨old, hold, rfl⟩ := List.mem_map.mp hc
    exact hranged old hold
  · simp [hload, hstate]
  · simp [Control.Protects, hload, hjoin]

/-- LOADING begins, with no channel in use and outside isolation (R160). -/
theorem ProtectionOk.beginLoading {s : State} (h : ProtectionOk s) (straps : Straps) (hj : s.ctl.joinWindow = .stopped)
    (hbefore : s.peers.isolated = false ∧ ∀ c ∈ s.temps, c.used = false ∧ c.critical = false) :
    ProtectionOk (s.beginLoading straps) := by
  obtain ⟨hroles, hshutdown, hranged, -, -⟩ := (protectionOk_iff s).mp h
  have hloading : ProtectionOk { s with ctl := { s.ctl with
      state := .loading, straps := straps, station := some straps.sn.toNat, offset := some straps.adr.toNat
      load := some (.start .a none s.now) } } :=
    (protectionOk_iff _).mpr ⟨hroles, hshutdown, hranged, fun _ => hbefore, fun _ => rfl, fun hw => absurd hj hw⟩
  unfold State.beginLoading
  dsimp only
  split
  · exact hloading
  · exact hloading.enterFaulted _ _

/-! ### What is not seen -/

namespace State

theorem DrivesKept.temps_map {α : Type} {s t : State} (h : s.DrivesKept t) (g : TempChannel → α)
    (hg : ∀ c : TempChannel, g c.unrepeated = g c) : t.temps.map g = s.temps.map g := by
  have := congrArg (List.map g) h.temps
  simpa [Function.comp_def, hg] using this

theorem DrivesKept.anyCritical {s t : State} (h : s.DrivesKept t) : t.anyCritical = s.anyCritical := by
  have := congrArg (List.any · id) (h.temps_map (·.critical) fun _ => rfl)
  simpa [State.anyCritical, List.any_map, Function.comp_def] using this

theorem DrivesKept.ranged {s t : State} (h : s.DrivesKept t) (hs : ∀ c ∈ s.temps, c.Ranged) : ∀ c ∈ t.temps, c.Ranged := by
  intro c hc
  have hmem := List.mem_map_of_mem (f := TempChannel.unrepeated) hc
  rw [h.temps] at hmem
  obtain ⟨old, hold, he⟩ := List.mem_map.mp hmem
  have hr : old.unrepeated.Ranged := hs old hold
  exact (he ▸ hr : c.unrepeated.Ranged)

theorem DrivesKept.caused {s t : State} (h : s.DrivesKept t) {isolated critical : Bool}
    (hs : ∀ role ∈ s.roles, role.Caused isolated critical) : ∀ role ∈ t.roles, role.Caused isolated critical := by
  intro role hr
  obtain ⟨old, hold, -, -, hdrive⟩ := h.role_mem role hr
  have hcauses := congrArg Drive.causes hdrive
  exact (hs old hold).of_causes hcauses

end State

/-- A cause is added to the sets of all roles, or removed from them, and what it stands for has begun or ended. -/
theorem ProtectionOk.setCausesAll (s : State) (f : Causes → Causes)
    (hroles : ∀ role ∈ s.roles, (f role.drive.causes).isolated = s.peers.isolated ∧ (f role.drive.causes).critical = s.anyCritical)
    (hshut : s.anyCritical = true → s.shutdown = true) (hranged : ∀ c ∈ s.temps, c.Ranged)
    (hload : s.ctl.load.isSome ≠ true) (hstate : s.ctl.state ≠ .resetHeld) (hcontrol : s.ctl.Protects) :
    ProtectionOk (s.setCausesAll f) := by
  have hkept : (s.setCausesAll f).temps = s.temps ∧ (s.setCausesAll f).peers = s.peers ∧ (s.setCausesAll f).ctl = s.ctl
      ∧ (s.setCausesAll f).shutdown = s.shutdown := by simp
  obtain ⟨htemps, hpeers, hctl, hshutdown⟩ := hkept
  refine (protectionOk_iff _).mpr ⟨?_, ?_, ?_, ?_, ?_⟩
  · rw [hpeers, State.anyCritical, htemps]
    exact State.setCausesAll_roles (Role.conditionFree_caused _ _) s f fun role hr now => by
      simpa [Role.Caused, State.anyCritical] using hroles role hr
  · rw [hshutdown, State.anyCritical, htemps]; exact hshut
  · rw [htemps]; exact hranged
  · rw [hctl]; exact fun hb => absurd hb (not_or.mpr ⟨hload, hstate⟩)
  · rw [hctl]; exact hcontrol

/-- Every event that acts on the drives keeps the causes ISOLATED and CRITICAL and what they stand for. -/
theorem driveInvariant_protectionOk : DriveInvariant ProtectionOk where
  same {s t} h hk := by
    obtain ⟨hroles, -, hranged, -, -⟩ := (protectionOk_iff s).mp h
    exact h.of_temps hk.ctl hk.isolated hk.shutdown (hk.temps_map _ fun _ => rfl) (hk.ranged hranged) (hk.caused hroles)
  ship r f _ h := h.modShip r f
  starts r level f _ h := (h.modShip r f).driveEvent r _ fun _ _ => by simp
  stops r f _ h := (h.modShip r f).driveEvent r _ fun _ _ => ⟨rfl, rfl⟩
  event r f hf h := h.driveEvent r f fun role hr => by rw [(hf role hr).causes]; exact ⟨rfl, rfl⟩
  fan {s} i f edges _ h := by
    obtain ⟨hroles, -⟩ := (protectionOk_iff s).mp h
    refine h.of_roles (by simp) (by simp) (by simp) (by simp) ?_
    unfold State.measureFan
    dsimp only
    repeat' split
    · exact State.judgeGroup_roles (Role.conditionFree_caused _ _) _ _ (by simpa using hroles)
    · simpa using hroles
    · exact hroles
  calm {s} i c m hc _ hcalm h := by
    obtain ⟨hroles, -, hranged, -, -⟩ := (protectionOk_iff s).mp h
    refine h.of_temps rfl rfl id ?_ (forall_mem_of_get i (fun q x hne hx => ?_) fun x hx => ?_) hroles
    · refine map_modify_of_get _ _ _ _ fun x hx => ?_
      obtain rfl := Option.some.inj (hc.symm.trans hx)
      exact congrArg (c.used, ·) hcalm
    · exact hranged x (List.mem_of_getElem? (i := q) (by simpa [Ne.symm hne] using hx))
    · obtain rfl : _ = x := by simpa [hc] using hx
      exact TempChannel.round_ranged m (hranged c (List.mem_of_getElem? hc))
  alarm {s t} i c m hc hused hcrit hk h := by
    obtain ⟨hroles, -, hranged, hbefore, hcontrol⟩ := (protectionOk_iff s).mp h
    have hnotBefore : ¬(s.ctl.load.isSome = true ∨ s.ctl.state = .resetHeld) := fun hb => by
      simp [((hbefore hb).2 c (List.mem_of_getElem? hc)).1] at hused
    obtain ⟨hload, hstate⟩ := not_or.mp hnotBefore
    have hctl : t.ctl = s.ctl := hk.ctl
    have hcritical : t.anyCritical = true := by
      refine hk.anyCritical.trans (List.any_eq_true.mpr ⟨c.round m, List.mem_of_getElem? (i := i) ?_, hcrit⟩)
      simp [hc]
    have hrounded : ∀ x ∈ (s.modTemp i (fun _ => c.round m)).temps, x.Ranged := by
      refine forall_mem_of_get i (fun q x hne hx => ?_) fun x hx => ?_
      · exact hranged x (List.mem_of_getElem? (i := q) (by simpa [Ne.symm hne] using hx))
      · obtain rfl : _ = x := by simpa [hc] using hx
        exact TempChannel.round_ranged m (hranged c (List.mem_of_getElem? hc))
    refine ProtectionOk.setCausesAll t _ (fun role hr => ?_) (fun _ => hk.shutdown rfl) (hk.ranged hrounded) (hctl ▸ hload)
      (hctl ▸ hstate) (hctl ▸ hcontrol)
    exact ⟨(hk.caused hroles role hr).1.trans hk.isolated.symm, hcritical.symm⟩
  link {s t} isolated ht hk h := by
    obtain ⟨hroles, hshutdown, hranged, hbefore, hcontrol⟩ := (protectionOk_iff s).mp h
    have hctl : t.ctl = s.ctl := hk.ctl
    have hstate : s.ctl.state ≠ .resetHeld := fun hr => by simp [State.transmits, hr] at ht
    have hload : s.ctl.load.isSome ≠ true := fun hl => by simp [State.transmits, hcontrol.1 hl] at ht
    have hcritical : t.anyCritical = s.anyCritical := hk.anyCritical
    refine ProtectionOk.setCausesAll t _ (fun role hr => ?_) (fun hc => hk.shutdown (hshutdown (hcritical ▸ hc))) (hk.ranged hranged)
      (hctl ▸ hload) (hctl ▸ hstate) (hctl ▸ hcontrol)
    exact ⟨hk.isolated.symm, (hk.caused hroles role hr).2.trans hcritical.symm⟩
  latches {s} h := by
    obtain ⟨hroles, -, hranged, -, -⟩ := (protectionOk_iff s).mp h
    have hcleared (c : TempChannel) : c.latchCleared.used = c.used ∧ c.latchCleared.critical = c.critical := by
      unfold TempChannel.latchCleared
      split <;> exact ⟨rfl, rfl⟩
    refine h.of_temps rfl rfl id ?_ (fun c hc => ?_) hroles
    · simp [State.clearLatches, Function.comp_def, hcleared]
    · obtain ⟨old, hold, rfl⟩ := List.mem_map.mp hc
      obtain ⟨hreading, hcount, hcalm, hlatch⟩ := hranged old hold
      unfold TempChannel.latchCleared
      split
      · next hw => exact ⟨hreading, hcount, hcalm, by simp [hw]⟩
      · exact ⟨hreading, hcount, hcalm, hlatch⟩
  fault cause item h := h.enterFaulted cause item
  runs {s} hw h := by
    obtain ⟨hroles, hshutdown, hranged, hbefore, hload, hjoin⟩ := (protectionOk_iff s).mp h
    have hjoining := hjoin hw
    have hnone : s.ctl.load.isSome ≠ true := fun hl => by simp [hload hl] at hjoining
    exact (protectionOk_iff _).mpr ⟨hroles, hshutdown, hranged, fun hl => absurd hl (by simpa using hnone), 
      fun hl => absurd hl hnone, fun hne => absurd rfl hne⟩
  reads {s} l l' result hl _ _ h := by
    obtain ⟨hroles, hshutdown, hranged, hbefore, hload, hjoin⟩ := (protectionOk_iff s).mp h
    exact (protectionOk_iff _).mpr ⟨hroles, hshutdown, hranged, fun _ => hbefore (.inl (by simp [hl])),
      fun _ => hload (by simp [hl]), hjoin⟩
  unloads {s} l result hl h := by
    obtain ⟨hroles, hshutdown, hranged, hbefore, hload, hjoin⟩ := (protectionOk_iff s).mp h
    exact (protectionOk_iff _).mpr ⟨hroles, hshutdown, hranged, fun _ => hbefore (.inl (by simp [hl])),
      fun hnone => (nomatch hnone), hjoin⟩
  joins {s t} l slot img hl _ hk h := by
    obtain ⟨-, -, hranged, hbefore, -⟩ := (protectionOk_iff s).mp h
    obtain ⟨hisolated, htemps⟩ := hbefore (.inl (by simp [hl]))
    have hconfigured : ∀ c ∈ (t.joined slot img).temps, ∃ old ∈ t.temps, ∃ cfg, c = old.configured cfg := by
      intro c hc
      obtain ⟨i, hi⟩ := List.mem_iff_getElem?.mp hc
      obtain ⟨old, cfg, hold, -, rfl⟩ := List.getElem?_zipWith_eq_some.mp hi
      exact ⟨old, List.mem_of_getElem? hold, cfg, rfl⟩
    have hkept (old : TempChannel) (cfg : Option ChannelCfg) :
        (old.configured cfg).critical = old.critical ∧ (old.Ranged → (old.configured cfg).Ranged) := by
      cases cfg <;> exact ⟨rfl, id⟩
    have hnone : t.anyCritical = false := hk.anyCritical.trans (List.any_eq_false.mpr fun c hc => by simp [(htemps c hc).2])
    have hcritical : (t.joined slot img).anyCritical = false := List.any_eq_false.mpr fun c hc => by
      obtain ⟨old, hold, cfg, rfl⟩ := hconfigured c hc
      rw [(hkept old cfg).1]
      exact List.any_eq_false.mp hnone old hold
    refine (protectionOk_iff _).mpr ⟨fun role hr => ?_, by simp [hcritical], fun c hc => ?_, ?_, ?_⟩
    · obtain ⟨cfg, -, rfl⟩ := List.mem_map.mp hr
      rw [hcritical]
      exact ⟨(hk.isolated.trans hisolated).symm, rfl⟩
    · obtain ⟨old, hold, cfg, rfl⟩ := hconfigured c hc
      exact (hkept old cfg).2 (hk.ranged hranged old hold)
    · simp [State.joined]
    · simp [State.joined, Control.Protects]
  held delivered _ := by
    have htemps : ∀ c ∈ State.reset.temps, c = .reset := fun c hc => List.eq_of_mem_replicate hc
    refine (protectionOk_iff _).mpr ⟨fun _ hr => (nomatch hr), fun hc => ?_, fun c hc => ?_, fun _ => ⟨rfl, fun c hc => ?_⟩, ?_⟩
    · exact absurd (show State.reset.anyCritical = true from hc) (by decide)
    · rw [htemps c hc]
      exact TempChannel.reset_ranged
    · rw [htemps c hc]
      exact ⟨rfl, rfl⟩
    · exact ⟨fun hl => (nomatch hl), fun hw => absurd rfl hw⟩
  begins {s} startAt straps hstate h := by
    obtain ⟨hroles, hshutdown, hranged, hbefore, hload, hjoin⟩ := (protectionOk_iff s).mp h
    have hwindow : s.ctl.joinWindow = .stopped := not_not.mp fun hw => by simp [hstate] at hjoin; exact hw hjoin
    refine ProtectionOk.beginLoading (s := { s with ctl := { s.ctl with state := .loading, startAt := startAt } }) ?_ straps hwindow
      (hbefore (.inr hstate))
    exact (protectionOk_iff _).mpr ⟨hroles, hshutdown, hranged, fun _ => hbefore (.inr hstate), fun _ => rfl,
      fun hw => absurd hwindow hw⟩
  restart {s} straps h := by
    obtain ⟨-, -, hranged, -, -⟩ := (protectionOk_iff s).mp h
    have htemps : ∀ c ∈ s.temps.map TempChannel.restarted, (c.used = false ∧ c.critical = false) ∧ c.Ranged := by
      intro c hc
      obtain ⟨old, -, rfl⟩ := List.mem_map.mp hc
      exact ⟨⟨rfl, rfl⟩, by simp [TempChannel.Ranged, TempChannel.restarted, TempChannel.reset]⟩
    have hcritical : (s.temps.map TempChannel.restarted).any (·.critical) = false :=
      List.any_eq_false.mpr fun c hc => by simp [(htemps c hc).1.2]
    refine ProtectionOk.beginLoading ?_ straps rfl ⟨rfl, fun c hc => (htemps c hc).1⟩
    exact (protectionOk_iff _).mpr ⟨fun _ hr => (nomatch hr), fun hc => absurd (hcritical.symm.trans hc) (by simp),
      fun c hc => (htemps c hc).2, fun _ => ⟨rfl, fun c hc => (htemps c hc).1⟩, fun _ => rfl, fun hw => absurd rfl hw⟩

end Sys2Proof.Machine

open Sys2Proof Sys2Proof.Machine

/-- Settles O13: every event that acts on the drives keeps the causes ISOLATED and CRITICAL (Table 2-7, R42). -/
theorem stepKeepsProtection : Obligations.StepKeepsProtection := by
  unfold Obligations.StepKeepsProtection
  exact fun s t hs h => (driveInvariant_protectionOk.step s t hs h).1

end

section
/-! SUPPORT. The health of the fans (R28, R31, R42): an event of a drive and a measurement leave each role with the condition that its
channels give. -/

namespace Sys2Proof.Machine

/-! ### A drive that takes a condition -/

/-- GROUP_FAILED stands in a drive's set exactly while it is FAILED (R42). -/
def Drive.Tells (d : Drive) : Prop := d.causes.groupFailed = true ↔ d.condition = .failed

@[simp] theorem Drive.setCauses_condition (now : Nat) (cfg : RoleCfg) (causes : Causes) (d : Drive) :
    (d.setCauses now cfg causes).condition = d.condition := by
  unfold Drive.setCauses
  dsimp only
  split
  · rfl
  · split
    · split <;> rfl
    · split <;> rfl
    · split <;> rfl
    · split <;> rfl
    · rfl

@[simp] theorem Drive.takeCondition_condition (now : Nat) (cfg : RoleCfg) (c : Condition) (d : Drive) :
    (d.takeCondition now cfg c).condition = c := by
  simp [Drive.takeCondition]

theorem Drive.takeCondition_tells (now : Nat) (cfg : RoleCfg) (c : Condition) (d : Drive) : (d.takeCondition now cfg c).Tells := by
  simp [Drive.Tells]

/-- A drive that checks its channels goes on to: a change of causes takes it to level 100 or leaves it as it is (R28, R43, R44). -/
theorem Drive.setCauses_checks (now : Nat) (cfg : RoleCfg) (causes : Causes) (d : Drive) (hc : d.checks cfg = true)
    (hl : cfg.checkLevel ≤ 100) : (d.setCauses now cfg causes).checks cfg = true := by
  unfold Drive.setCauses
  dsimp only
  split
  · exact hc
  · split
    · split
      · simpa [Drive.checks] using hc
      · simp [Drive.checks, Drive.enterFailsafe, hl]
    · next hs => simp [Drive.checks, hs] at hc
    · next hs => simp [Drive.checks, hs] at hc
    · split
      · simp [Drive.checks, Drive.enterTracking, hl]
      · simpa [Drive.checks] using hc
    · next hs => simp [Drive.checks, hs] at hc

theorem Drive.takeCondition_checks (now : Nat) (cfg : RoleCfg) (c : Condition) (d : Drive) (hc : d.checks cfg = true)
    (hl : cfg.checkLevel ≤ 100) : (d.takeCondition now cfg c).checks cfg = true :=
  Drive.setCauses_checks now cfg _ { d with condition := c, statusDue := true } hc hl

/-! ### The healths of a role's channels -/

/-- One element of a list changes, and what is seen of it does not. -/
theorem filter_map_set_of_same {α β : Type} (p : α → Bool) (g : α → β) (l : List α) (i : Nat) (x y : α) (h : l[i]? = some x)
    (hp : p y = p x) (hg : p x = true → g y = g x) : ((l.set i y).filter p).map g = (l.filter p).map g := by
  induction l generalizing i with
  | nil => rfl
  | cons a as ih =>
    cases i with
    | zero =>
      obtain rfl : a = x := by simpa using h
      cases hx : p a with
      | true => simp [hp, hx, hg hx]
      | false => simp [hp, hx]
    | succ i =>
      rw [List.getElem?_cons_succ] at h
      rw [List.set_cons_succ, List.filter_cons, List.filter_cons]
      split
      · rw [List.map_cons, List.map_cons, ih i h]
      · exact ih i h

namespace State

/-- A channel that is not checked is UNCHECKED without a run (R28). -/
def FansJudged (s : State) : Prop := ∀ f ∈ s.fans, s.checked f = false → f.health = .unchecked ∧ f.run = none

/-- A role has the condition that its channels give, tells it by GROUP_FAILED, and can be checked at a full level (R31, R42). -/
def RoleTold (s : State) (r : Nat) (role : Role) : Prop :=
  role.drive.condition = groupCondition (s.healths r) ∧ role.drive.Tells ∧ role.cfg.checkLevel ≤ 100

theorem checked_of_role (s : State) (f : FanChannel) (r : Nat) (role : Role) (hf : f.role = some r) (hr : s.roles[r]? = some role) :
    s.checked f = role.drive.checks role.cfg := by
  simp [checked, hf, hr]

/-- Whether a channel is checked is a matter of its role's number and of that role. -/
theorem checked_congr (s t : State) (f g : FanChannel) (hrole : g.role = f.role)
    (h : ∀ r, f.role = some r → t.roles[r]? = s.roles[r]?) : t.checked g = s.checked f := by
  cases hf : f.role with
  | none => simp [checked, hrole, hf]
  | some r => simp [checked, hrole, hf, h r hf]

/-- What is seen of the channels and the roles alone. -/
theorem FansJudged.of_same {s t : State} (h : s.FansJudged) (hfans : t.fans = s.fans) (hroles : t.roles = s.roles) : t.FansJudged :=
  fun f hf hc => h f (hfans ▸ hf) ((checked_congr s t f f rfl fun r _ => by rw [hroles]) ▸ hc)

theorem RoleTold.of_same {s t : State} {r : Nat} {role : Role} (h : s.RoleTold r role) (hfans : t.fans = s.fans) :
    t.RoleTold r role := by
  obtain ⟨hcondition, htells, hlevel⟩ := h
  exact ⟨(by rw [hcondition, healths, healths, hfans]), htells, hlevel⟩

theorem healths_followDrive_other (s : State) (r q : Nat) (h : q ≠ r) : (s.followDrive r).healths q = s.healths q := by
  rw [healths_eq, healths_eq, followDrive_fansOf_other s q r (Ne.symm h)]

/-- After the channels of a role have followed its drive, they stand as the drive checks them or not. -/
theorem followDrive_fansJudged (s : State) (r : Nat)
    (h : ∀ f ∈ s.fans, f.role ≠ some r ∨ s.roles[r]? = none → s.checked f = false → f.health = .unchecked ∧ f.run = none) :
    (s.followDrive r).FansJudged := by
  intro f hf hchecked
  cases hr : s.roles[r]? with
  | none => exact h f (by simpa [followDrive, hr] using hf) (.inr hr) (by simpa [followDrive, hr] using hchecked)
  | some role =>
    rw [followDrive_fans s r role hr] at hf
    obtain ⟨g, hg, rfl⟩ := List.mem_map.mp hf
    split at hchecked
    · next hrole =>
      rw [if_pos hrole]
      refine FanChannel.follow_unchecked _ _ _ ?_
      rwa [checked_of_role _ _ r role (by rw [FanChannel.follow_role, hrole]) (by simpa using hr)] at hchecked
    · next hrole =>
      rw [if_neg hrole]
      exact h g hg (.inl hrole) ((checked_congr s (s.followDrive r) g g rfl fun q _ => by simp) ▸ hchecked)

/-- The group condition computed anew (R31): where a role tells its condition, it then has the one that its channels give. -/
theorem judgeGroup_told (s : State) (r : Nat) (hfans : s.FansJudged)
    (hother : ∀ q role, q ≠ r → s.roles[q]? = some role → s.RoleTold q role)
    (hself : ∀ role, s.roles[r]? = some role → role.drive.Tells ∧ role.cfg.checkLevel ≤ 100) :
    (s.judgeGroup r).FansJudged ∧ ∀ q role, (s.judgeGroup r).roles[q]? = some role → (s.judgeGroup r).RoleTold q role := by
  cases hr : s.roles[r]? with
  | none =>
    have hnone : s.judgeGroup r = s := by simp [judgeGroup, hr]
    rw [hnone]
    exact ⟨hfans, fun q role hq => hother q role (fun he => by simp [he, hr] at hq) hq⟩
  | some role =>
    obtain ⟨htells, hlevel⟩ := hself role hr
    by_cases hc : groupCondition (s.healths r) = role.drive.condition
    · have hsame : s.judgeGroup r = s := by simp [judgeGroup, hr, hc]
      rw [hsame]
      refine ⟨hfans, fun q x hq => ?_⟩
      by_cases hne : q = r
      · obtain rfl : role = x := Option.some.inj (hr.symm.trans (hne ▸ hq))
        exact ⟨hne ▸ hc.symm, htells, hlevel⟩
      · exact hother q x hne hq
    · let d := role.drive.takeCondition s.now role.cfg (groupCondition (s.healths r))
      let u := s.modDrive r (Drive.takeCondition s.now role.cfg (groupCondition (s.healths r)))
      have hu : u.roles[r]? = some { role with drive := d } := modDrive_get_self _ _ _ _ hr
      have hgroup : s.judgeGroup r = u.followDrive r := by simp [judgeGroup, hr, hc, u]
      have hhealths : groupCondition ((u.followDrive r).healths r) = groupCondition (s.healths r) := by
        cases hd : d.checks role.cfg with
        | true => rw [healths_followDrive_checked u r _ hu hd]; rfl
        | false =>
          have hold : role.drive.checks role.cfg ≠ true := fun hold => by
            simp [d, Drive.takeCondition_checks _ _ _ _ hold hlevel] at hd
          rw [groupCondition_unchecked (healths_followDrive_unchecked u r _ hu hd), groupCondition_unchecked fun x hx => ?_]
          obtain ⟨f, hf, rfl⟩ := List.mem_map.mp hx
          obtain ⟨hmem, hrole⟩ := List.mem_filter.mp hf
          exact (hfans f hmem ((s.checked_of_role f r role (by simpa using hrole) hr).trans (by simpa using hold))).1
      have hroles : (u.followDrive r).roles = u.roles := by simp
      rw [hgroup]
      refine ⟨followDrive_fansJudged u r fun f hf hor => ?_, fun q x hq => ?_⟩
      · have hrole : f.role ≠ some r := hor.resolve_right (by simp [hu])
        rw [checked_congr s u f f rfl fun q hq => modDrive_get_other _ _ _ _ fun he => hrole (he ▸ hq)]
        exact hfans f hf
      · by_cases hne : q = r
        · subst hne
          obtain rfl : { role with drive := d } = x := by simpa [hu] using hq
          exact ⟨by rw [hhealths]; exact Drive.takeCondition_condition _ _ _ _, Drive.takeCondition_tells _ _ _ _, hlevel⟩
        · have hx : s.roles[q]? = some x := by
            rw [← hq, hroles]
            exact (modDrive_get_other s r q _ hne).symm
          obtain ⟨hcond, htold, hle⟩ := hother q x hne hx
          refine ⟨?_, htold, hle⟩
          rw [healths_followDrive_other u r q hne]
          exact hcond

end State

/-! ### A measurement (R27, R29, R30) -/

/-- A channel that is not checked, after its measurement. -/
def FanChannel.timed (now : Nat) (edges : List Nat) (f : FanChannel) : FanChannel :=
  { f with window := .running (now + 500), speed := tachSpeed f.cfg.pulses edges }

/-- A checked channel after its measurement. -/
def FanChannel.judged (now : Nat) (edges : List Nat) (f : FanChannel) : FanChannel :=
  FanChannel.measured now (tachSpeed f.cfg.pulses edges) { f with window := .running (now + 500) }

/-- The state at a checked channel's measurement, before its role's condition is computed anew. -/
def State.withJudged (s : State) (i : Nat) (f : FanChannel) (edges : List Nat) : State :=
  State.postFan { s with fans := s.fans.set i (f.judged s.now edges) } i f (f.judged s.now edges)

theorem State.measureFan_unchecked (s : State) (i : Nat) (f : FanChannel) (edges : List Nat) (h : s.checked f = false) :
    s.measureFan i f edges = { s with fans := s.fans.set i (f.timed s.now edges) } := by
  simp [measureFan, h, FanChannel.timed]

theorem State.measureFan_checked (s : State) (i r : Nat) (f : FanChannel) (edges : List Nat) (h : s.checked f = true)
    (hr : f.role = some r) : s.measureFan i f edges = (s.withJudged i f edges).judgeGroup r := by
  simp [measureFan, h, hr, withJudged, FanChannel.judged]

/-- A checked channel has a role. -/
theorem State.role_of_checked (s : State) (f : FanChannel) (h : s.checked f = true) :
    ∃ r role, f.role = some r ∧ s.roles[r]? = some role ∧ role.drive.checks role.cfg = true := by
  unfold checked at h
  split at h
  · exact nomatch h
  · next r hf =>
    split at h
    · exact nomatch h
    · next role hr => exact ⟨r, role, hf, hr, h⟩

end Sys2Proof.Machine
end

section
/-! SUPPORT. The invariant of the fans' health (R28, R31, R42). -/

namespace Sys2Proof.Machine

theorem judgedOk_iff (s : State) :
    JudgedOk s ↔ s.FansJudged ∧ (∀ r role, s.roles[r]? = some role → s.RoleTold r role)
      ∧ (∀ img, heldImage s = some img → img.Checkable) ∧ NoRoleBeforeImage s := Iff.rfl

namespace JudgedOk

/-- The roles keep their drives, their reporting apart, and no channel changes. -/
theorem of_drives {s t : State} (h : JudgedOk s) (hfans : t.fans = s.fans)
    (hroles : t.roles.map (fun q => (q.cfg, q.drive.unreported)) = s.roles.map (fun q => (q.cfg, q.drive.unreported)))
    (hheld : ∀ img, heldImage t = some img → img.Checkable) (hbefore : NoRoleBeforeImage t) : JudgedOk t := by
  obtain ⟨hjudged, htold, -, -⟩ := (judgedOk_iff s).mp h
  have hrole (r : Nat) : (t.roles[r]?).map (fun q => (q.cfg, q.drive.unreported))
      = (s.roles[r]?).map (fun q => (q.cfg, q.drive.unreported)) := by
    simpa using congrArg (·[r]?) hroles
  have hchecked (f : FanChannel) : t.checked f = s.checked f := by
    cases hf : f.role with
    | none => simp [State.checked, hf]
    | some r =>
      have hget := hrole r
      cases ht : t.roles[r]? with
      | none =>
        have hs : s.roles[r]? = none := by simpa [ht] using hget.symm
        simp [State.checked, hf, ht, hs]
      | some new =>
        rw [ht] at hget
        obtain ⟨old, hs, he⟩ := Option.map_eq_some_iff.mp hget.symm
        obtain ⟨hcfg, hdrive⟩ := Prod.mk.inj he
        rw [State.checked_of_role _ _ r new hf ht, State.checked_of_role _ _ r old hf hs, ← hcfg]
        exact (congrArg (Drive.checks old.cfg) hdrive).symm
  refine (judgedOk_iff t).mpr ⟨fun f hf hc => hjudged f (hfans ▸ hf) (hchecked f ▸ hc), fun r role hr => ?_, hheld, hbefore⟩
  have hsame := hrole r
  rw [hr] at hsame
  obtain ⟨old, hold, he⟩ := Option.map_eq_some_iff.mp hsame.symm
  obtain ⟨hcfg, hdrive⟩ := Prod.mk.inj he
  obtain ⟨hcondition, htells, hlevel⟩ := htold r old hold
  have hcond := congrArg Drive.condition hdrive
  have hcauses := congrArg Drive.causes hdrive
  simp only [Drive.unreported] at hcond hcauses
  refine ⟨?_, ?_, hcfg ▸ hlevel⟩
  · rw [← hcond, hcondition, State.healths, State.healths, hfans]
  · unfold Drive.Tells
    rw [← hcond, ← hcauses]
    exact htells

/-- Only Station Control has changed. -/
theorem of_ctl {s t : State} (h : JudgedOk s) (hfans : t.fans = s.fans) (hroles : t.roles = s.roles)
    (hheld : ∀ img, heldImage t = some img → img.Checkable) (hbefore : NoRoleBeforeImage t) : JudgedOk t :=
  h.of_drives hfans (by rw [hroles]) hheld hbefore

/-- Neither the drives nor the channels nor Station Control have changed. -/
theorem beside {s t : State} (h : JudgedOk s) (hfans : t.fans = s.fans) (hroles : t.roles = s.roles) (hctl : t.ctl = s.ctl) :
    JudgedOk t := by
  obtain ⟨-, -, hheld, hbefore⟩ := (judgedOk_iff s).mp h
  exact h.of_ctl hfans hroles (by rw [heldImage, hctl]; exact hheld) (by rw [NoRoleBeforeImage, hctl, hroles]; exact hbefore)

/-- Nothing changes that the drives' invariants see. -/
theorem same {s t : State} (h : JudgedOk s) (hk : s.DrivesKept t) : JudgedOk t := by
  obtain ⟨-, -, hheld, hbefore⟩ := (judgedOk_iff s).mp h
  have hctl : t.ctl = s.ctl := hk.ctl
  refine h.of_drives hk.fans ?_ (by rw [heldImage, hctl]; exact hheld) fun hb => ?_
  · have hside := congrArg (List.map (fun q : RoleCfg × Drive × Ship => (q.1, q.2.1))) hk.roles
    simpa [Function.comp_def, Role.driveSide] using hside
  · rw [hctl] at hb
    simpa [hbefore hb] using hk.roles

/-- An event of one drive that leaves it telling its condition. -/
theorem driveEvent {s : State} (h : JudgedOk s) (r : Nat) (f : RoleCfg → Drive → Drive)
    (hf : ∀ role, s.roles[r]? = some role → role.drive.Tells → (f role.cfg role.drive).Tells) : JudgedOk (s.driveEvent r f) := by
  obtain ⟨hjudged, htold, hheld, hbefore⟩ := (judgedOk_iff s).mp h
  cases hr : s.roles[r]? with
  | none => simpa [State.driveEvent, hr] using h
  | some role =>
    let u := s.modDrive r (f role.cfg)
    have hother (q : Nat) (hne : q ≠ r) : u.roles[q]? = s.roles[q]? := State.modDrive_get_other _ _ _ _ hne
    have hself : u.roles[r]? = some { role with drive := f role.cfg role.drive } := State.modDrive_get_self _ _ _ _ hr
    have hfollowed : (u.followDrive r).roles = u.roles := by simp
    obtain ⟨-, htells, hlevel⟩ := htold r role hr
    obtain ⟨hfans, hroles⟩ := (u.followDrive r).judgeGroup_told r
      (State.followDrive_fansJudged u r fun g hg hor hc => hjudged g hg (by
        have hrole : g.role ≠ some r := hor.resolve_right (by simp [hself])
        rwa [State.checked_congr s u g g rfl fun q hq => hother q fun he => hrole (he ▸ hq)] at hc))
      (fun q x hne hx => by
        rw [hfollowed, hother q hne] at hx
        obtain ⟨hcondition, htells', hle⟩ := htold q x hx
        exact ⟨(by rw [State.healths_followDrive_other u r q hne]; exact hcondition), htells', hle⟩)
      fun x hx => by
        rw [hfollowed, hself] at hx
        obtain rfl := Option.some.inj hx
        exact ⟨hf role hr htells, hlevel⟩
    have hevent : s.driveEvent r f = (u.followDrive r).judgeGroup r := by simp [State.driveEvent, hr, u]
    have hctl : (s.driveEvent r f).ctl = s.ctl := by simp
    refine (judgedOk_iff _).mpr ⟨hevent ▸ hfans, hevent ▸ hroles, ?_, fun hb => ?_⟩
    · rw [heldImage, hctl]; exact hheld
    · rw [hctl] at hb
      simp [hbefore hb] at hr

/-- The same event at every role. -/
theorem forRoles_driveEvent {s : State} (h : JudgedOk s) (f : State → RoleCfg → Drive → Drive)
    (hf : ∀ (u : State) (cfg : RoleCfg) (d : Drive), d.Tells → (f u cfg d).Tells) :
    JudgedOk (s.forRoles (fun u r => u.driveEvent r (f u))) :=
  State.forRoles_keeps JudgedOk _ s (fun u _ hu => hu.driveEvent _ _ fun _ _ => hf u _ _) h

/-- A change of the causes other than GROUP_FAILED. -/
theorem setCausesAll {s : State} (h : JudgedOk s) (f : Causes → Causes) (hf : ∀ k, (f k).groupFailed = k.groupFailed) :
    JudgedOk (s.setCausesAll f) :=
  h.forRoles_driveEvent _ fun u cfg d hd => by simpa [Drive.Tells, hf] using hd

/-- A role record changes. -/
theorem modShip {s : State} (h : JudgedOk s) (r : Nat) (f : Ship → Ship) : JudgedOk (s.modShip r f) := by
  obtain ⟨-, -, hheld, hbefore⟩ := (judgedOk_iff s).mp h
  refine h.of_drives rfl (map_modify_of_same _ _ _ _ fun _ => rfl) hheld fun hb => ?_
  simp [hbefore hb]

/-- The station enters FAULTED: every role has stopped acting (R166). -/
theorem enterFaulted {s : State} (h : JudgedOk s) (cause : Cause) (item : Nat) : JudgedOk (s.enterFaulted cause item) := by
  let u := State.post { s with ctl := { s.ctl with
    state := .faulted, cause := some cause, item := item, load := none, joinWindow := .stopped } } .fault (causeCode cause) (some item)
  have hu : JudgedOk u := h.of_ctl rfl rfl (fun _ hi => (nomatch hi)) fun hb => by simp [u] at hb
  have hstopped : JudgedOk (u.forRoles State.stopActing) :=
    hu.forRoles_driveEvent (fun _ _ => Drive.stopActing) fun _ _ d _ => by simp [Drive.Tells, Drive.stopActing]
  obtain ⟨-, hload, hstate, -⟩ := enterFaulted_empty s cause item
  refine hstopped.of_drives rfl ?_ (fun img hi => ?_) fun hb => ?_
  · rw [show (s.enterFaulted cause item).roles = (u.forRoles State.stopActing).roles.map Role.faulted from rfl, List.map_map]
    rfl
  · simp [heldImage, hload] at hi
  · simp [hload, hstate] at hb

/-- A station at its power-on values (R26, R32). -/
theorem unset {s : State} (hroles : s.roles = []) (hfans : s.fans = State.reset.fans) (hload : s.ctl.load = none) : JudgedOk s := by
  refine (judgedOk_iff s).mpr ⟨fun f hf _ => ?_, fun r role hr => by simp [hroles] at hr, fun img hi => by simp [heldImage, hload] at hi,
    fun _ => hroles⟩
  rw [hfans] at hf
  rw [List.eq_of_mem_replicate (show f ∈ List.replicate 6 FanChannel.reset from hf)]
  exact ⟨rfl, rfl⟩

/-- LOADING begins, without a role (R160). -/
theorem beginLoading {s : State} (h : JudgedOk s) (straps : Straps) (hroles : s.roles = []) : JudgedOk (s.beginLoading straps) := by
  have hloading : JudgedOk { s with ctl := { s.ctl with
      state := .loading, straps := straps, station := some straps.sn.toNat, offset := some straps.adr.toNat
      load := some (.start .a none s.now) } } := h.of_ctl rfl rfl (fun _ hi => (nomatch hi)) fun _ => hroles
  unfold State.beginLoading
  dsimp only
  split
  · exact hloading
  · exact hloading.enterFaulted _ _

end JudgedOk

/-- A measurement leaves each role with the condition that its channels give (R29 to R31). -/
theorem JudgedOk.measureFan {s : State} (h : JudgedOk s) (i : Nat) (f : FanChannel) (edges : List Nat) (hf : s.fans[i]? = some f) :
    JudgedOk (s.measureFan i f edges) := by
  obtain ⟨hfans, htold, hheld, hbefore⟩ := (judgedOk_iff s).mp h
  have hctl : (s.measureFan i f edges).ctl = s.ctl := by simp
  have hset (g : FanChannel) (hrole : g.role = f.role) (hg : s.checked f = false → g.health = .unchecked ∧ g.run = none) :
      State.FansJudged { s with fans := s.fans.set i g } := by
    intro x hx hc
    rcases List.mem_or_eq_of_mem_set hx with hold | rfl
    · exact hfans x hold hc
    · exact hg ((State.checked_congr s s f x hrole fun _ _ => rfl) ▸ hc)
  have htoldSet (g : FanChannel) (hrole : g.role = f.role) (r : Nat) (hh : f.role = some r → g.health = f.health) (role : Role)
      (hr : s.roles[r]? = some role) : State.RoleTold { s with fans := s.fans.set i g } r role := by
    obtain ⟨hcondition, htells, hlevel⟩ := htold r role hr
    refine ⟨?_, htells, hlevel⟩
    rw [hcondition, State.healths, State.healths]
    exact congrArg groupCondition (filter_map_set_of_same _ _ _ i f g hf (by rw [hrole]) fun hx => hh (by simpa using hx)).symm
  have hjudged : (s.measureFan i f edges).FansJudged
      ∧ ∀ r role, (s.measureFan i f edges).roles[r]? = some role → (s.measureFan i f edges).RoleTold r role := by
    cases hchecked : s.checked f with
    | true =>
      obtain ⟨r, -, hrole, -, -⟩ := s.role_of_checked f hchecked
      have hkept : (s.withJudged i f edges).fans = s.fans.set i (f.judged s.now edges)
          ∧ (s.withJudged i f edges).roles = s.roles := by simp [State.withJudged]
      obtain ⟨hset', hroles⟩ := hkept
      rw [s.measureFan_checked i r f edges hchecked hrole]
      refine State.judgeGroup_told _ r ?_ (fun q role hne hq => ?_) fun role hr => ?_
      · exact (hset (f.judged s.now edges) rfl fun hc => by simp [hchecked] at hc).of_same hset' hroles
      · refine (htoldSet (f.judged s.now edges) rfl q (fun he => ?_) role (hroles ▸ hq)).of_same hset'
        exact absurd (Option.some.inj (he.symm.trans hrole)) hne
      · obtain ⟨-, htells, hlevel⟩ := htold r role (hroles ▸ hr)
        exact ⟨htells, hlevel⟩
    | false =>
      rw [s.measureFan_unchecked i f edges hchecked]
      exact ⟨hset (f.timed s.now edges) rfl fun hc => hfans f (List.mem_of_getElem? hf) hc,
        fun r role hr => htoldSet (f.timed s.now edges) rfl r (fun _ => rfl) role hr⟩
  refine (judgedOk_iff _).mpr ⟨hjudged.1, hjudged.2, ?_, fun hb => ?_⟩
  · rw [heldImage, hctl]; exact hheld
  · have hnone : s.roles = [] := hbefore (hctl ▸ hb)
    have hchecked : s.checked f = false := by
      unfold State.checked
      cases f.role <;> simp [hnone]
    rw [s.measureFan_unchecked i f edges hchecked]
    exact hnone

/-- Every event that acts on the drives and the channels leaves each role with the condition that its channels give. -/
theorem driveInvariant_judgedOk : DriveInvariant JudgedOk where
  same h hk := h.same hk
  ship r f _ h := h.modShip r f
  starts r level f _ h := (h.modShip r f).driveEvent r _ fun role _ hd => by
    unfold Drive.startActing
    split <;> exact hd
  stops r f _ h := (h.modShip r f).driveEvent r _ fun _ _ _ => by simp [Drive.Tells, Drive.stopActing]
  event r f hf h := h.driveEvent r f fun role hr hd => by
    rw [Drive.Tells, (hf role hr).causes, (hf role hr).condition]
    exact hd
  fan i f edges hf h := h.measureFan i f edges hf
  calm i c m _ _ _ h := h.beside rfl rfl rfl
  alarm {s t} i c m _ _ _ hk h := (JudgedOk.same (by exact h.beside rfl rfl rfl) hk).setCausesAll _ fun _ => rfl
  link {s t} isolated _ hk h := (JudgedOk.same (by exact h.beside rfl rfl rfl) hk).setCausesAll _ fun _ => rfl
  latches h := h.beside rfl rfl rfl
  fault cause item h := h.enterFaulted cause item
  runs {s} _ h := by
    obtain ⟨-, -, hheld, hbefore⟩ := (judgedOk_iff s).mp h
    exact h.of_ctl rfl rfl hheld fun hb => hbefore (hb.imp_right fun hr => nomatch hr)
  reads {s} l l' result hl _ himg h := by
    obtain ⟨-, -, hheld, hbefore⟩ := (judgedOk_iff s).mp h
    refine h.of_ctl rfl rfl (fun img hi => ?_) fun _ => hbefore (.inl (by simp [hl]))
    rcases himg img hi with hold | hnew
    · exact hheld img (by simp [heldImage, hl, hold])
    · exact hnew
  unloads {s} l result hl h := by
    obtain ⟨-, -, -, hbefore⟩ := (judgedOk_iff s).mp h
    exact h.of_ctl rfl rfl (fun _ hi => (nomatch hi)) fun _ => hbefore (.inl (by simp [hl]))
  joins {s t} l slot img hl himg hk h := by
    obtain ⟨hfans, -, hheld, hbefore⟩ := (judgedOk_iff s).mp h
    have hroles : s.roles = [] := hbefore (.inl (by simp [hl]))
    have hchecked (f : FanChannel) : s.checked f = false := by
      unfold State.checked
      cases f.role <;> simp [hroles]
    have hunchecked : ∀ f ∈ (t.joined slot img).fans, f.health = .unchecked ∧ f.run = none := by
      intro f hf
      obtain ⟨i, hi, rfl⟩ := List.mem_mapIdx.mp hf
      have hold := hfans t.fans[i] (by rw [← hk.fans]; exact List.getElem_mem hi) (hchecked _)
      exact hold
    have himage : img.Checkable := himg.elim (fun ha => hheld img (by simp [heldImage, hl, ha])) id
    refine (judgedOk_iff _).mpr ⟨fun f hf _ => hunchecked f hf, fun r role hr => ?_, fun _ hi => (nomatch hi), ?_⟩
    · obtain ⟨cfg, hcfg, rfl⟩ := List.mem_map.mp (List.mem_of_getElem? hr)
      refine ⟨(groupCondition_unchecked fun x hx => ?_).symm, by simp [Drive.Tells, Role.fresh, Drive.fresh], himage cfg hcfg⟩
      obtain ⟨f, hf, rfl⟩ := List.mem_map.mp hx
      exact (hunchecked f (List.mem_filter.mp hf).1).1
    · simp [NoRoleBeforeImage, State.joined]
  held {s} delivered _ := JudgedOk.unset rfl rfl rfl
  begins {s} startAt straps hstate h := by
    obtain ⟨-, -, hheld, hbefore⟩ := (judgedOk_iff s).mp h
    have hroles : s.roles = [] := hbefore (.inr hstate)
    refine JudgedOk.beginLoading (s := { s with ctl := { s.ctl with state := .loading, startAt := startAt } }) ?_ straps hroles
    exact h.of_ctl rfl rfl hheld fun _ => hroles
  restart {s} straps h := by
    refine JudgedOk.beginLoading ?_ straps rfl
    exact JudgedOk.unset rfl rfl rfl

end Sys2Proof.Machine

open Sys2Proof Sys2Proof.Machine

/-- Settles O8: every event of a drive, and every measurement, computes the group condition anew (R31). -/
theorem stepKeepsJudgement : Obligations.StepKeepsJudgement := by
  unfold Obligations.StepKeepsJudgement
  exact fun s t hs h => (driveInvariant_judgedOk.step s t hs h).1

end

section
/-! SUPPORT. The invariant of the fan outputs and the role machines (R25, R33, R34, R43, R44). -/

namespace Sys2Proof.Machine

/-! ### Drives -/

/-- A change of causes leaves a drive RELEASED or driven (R42). -/
theorem Drive.setCauses_released (now : Nat) (cfg : RoleCfg) (causes : Causes) (d : Drive) :
    (d.setCauses now cfg causes).state = .released ↔ d.state = .released := by
  unfold Drive.setCauses
  dsimp only
  split
  · exact Iff.rfl
  · split
    case h_1 hs | h_2 hs | h_3 hs => split <;> simp [Drive.enterFailsafe, hs]
    case h_4 hs => split <;> simp [Drive.enterTracking, hs]
    case h_5 hs => simp [hs]

/-- A change of causes keeps a drive record to the rules (R42 to R44). -/
theorem Drive.setCauses_sound (now : Nat) (cfg : RoleCfg) (causes : Causes) {d : Drive} (h : d.Sound) :
    (d.setCauses now cfg causes).Sound := by
  obtain ⟨hfailsafe, hfull, hstill, hspin, hramp, hspinUp, hstopDelay⟩ := h
  unfold Drive.setCauses
  dsimp only
  split
  · exact ⟨hfailsafe, hfull, hstill, hspin, hramp, hspinUp, hstopDelay⟩
  · have hdriven (he : causes.empty = true) (hf : d.state ≠ .failsafe) : Drive.Sound { d with causes := causes } :=
      ⟨fun _ => ⟨fun h => absurd h hf, fun h => absurd (he.symm.trans h) (by simp)⟩, hfull, hstill, hspin, hramp, hspinUp, hstopDelay⟩
    have hcaused (he : ¬causes.empty = true) : Drive.Sound (Drive.enterFailsafe { d with causes := causes }) := by
      constructor <;> simp [Drive.enterFailsafe, he]
    split
    case h_1 hs | h_2 hs | h_3 hs =>
      split
      · next he => exact hdriven he (by simp [hs])
      · next he => exact hcaused he
    case h_4 hs =>
      split
      · next he => constructor <;> simp [Drive.enterTracking, he]
      · next he => exact ⟨fun _ => ⟨fun _ => by simpa using he, fun _ => hs⟩, hfull, hstill, hspin, hramp, hspinUp, hstopDelay⟩
    case h_5 hs => exact ⟨fun hne => absurd hs hne, hfull, hstill, hspin, hramp, hspinUp, hstopDelay⟩

/-- A new condition does the same (R31). -/
theorem Drive.takeCondition_sound (now : Nat) (cfg : RoleCfg) (c : Condition) {d : Drive} (h : d.Sound) :
    (d.takeCondition now cfg c).Sound :=
  Drive.setCauses_sound now cfg _ (d := { d with condition := c, statusDue := true })
    ⟨h.failsafe, h.full, h.still, h.spin, h.ramp, h.spinUp, h.stopDelay⟩

theorem Drive.takeCondition_released (now : Nat) (cfg : RoleCfg) (c : Condition) (d : Drive) :
    (d.takeCondition now cfg c).state = .released ↔ d.state = .released :=
  Drive.setCauses_released now cfg _ { d with condition := c, statusDue := true }

/-- The start of acting (R34). -/
theorem Drive.startActing_sound (now : Nat) (cfg : RoleCfg) (level : Nat) (d : Drive) :
    (d.startActing now cfg level).Sound ∧ (d.startActing now cfg level).state ≠ .released := by
  unfold Drive.startActing
  split
  · next he =>
    refine ⟨?_, by simp [Drive.enterTracking]⟩
    constructor <;> simp [Drive.enterTracking, he]
  · next he =>
    refine ⟨?_, by simp [Drive.enterFailsafe]⟩
    constructor <;> simp [Drive.enterFailsafe, he]

/-- The end of acting (R35). -/
theorem Drive.stopActing_sound (d : Drive) : d.stopActing.Sound ∧ d.stopActing.state = .released := by
  refine ⟨?_, rfl⟩
  constructor <;> simp [Drive.stopActing]

/-! ### Roles -/

/-- A role by itself, its reporting apart: drive and role record to the rules, and RELEASED exactly while it does not act (R33). -/
def Role.Stands (role : Role) : Prop :=
  role.drive.Sound ∧ role.ship.TimersOk ∧ (role.drive.state = .released ↔ role.ship.machine.acting = false)

theorem roleOk_iff (role : Role) : RoleOk role ↔ role.Stands ∧ role.drive.statusDue = false := by
  constructor
  · rintro ⟨hacting, hfailsafe, hfull, hstill, hspin, hdue, hramp, hspinUp, hstopDelay, htimers⟩
    exact ⟨⟨⟨hfailsafe, hfull, hstill, hspin, hramp, hspinUp, hstopDelay⟩, htimers, hacting⟩, hdue⟩
  · rintro ⟨⟨⟨hfailsafe, hfull, hstill, hspin, hramp, hspinUp, hstopDelay⟩, htimers, hacting⟩, hdue⟩
    exact ⟨hacting, hfailsafe, hfull, hstill, hspin, hdue, hramp, hspinUp, hstopDelay, htimers⟩

/-- A role whose drive goes on to the rules, RELEASED or driven as it was. -/
theorem Role.Stands.with_drive {role : Role} (h : role.Stands) {d : Drive}
    (hd : d.Sound ∧ (d.state = .released ↔ role.drive.state = .released)) : Role.Stands { role with drive := d } := by
  obtain ⟨-, htimers, hacting⟩ := h
  obtain ⟨hsound, hreleased⟩ := hd
  exact ⟨hsound, htimers, hreleased.trans hacting⟩

theorem Role.conditionFree_stands : ConditionFree Role.Stands :=
  fun _ now c h => h.with_drive ⟨Drive.takeCondition_sound now _ c h.1, Drive.takeCondition_released now _ c _⟩

/-- The reporting of a drive has no part in it. -/
theorem Role.Stands.of_unreported {old new : Role} (h : old.Stands) (hship : new.ship = old.ship)
    (hd : new.drive.unreported = old.drive.unreported) : new.Stands := by
  obtain ⟨hsound, htimers, hacting⟩ := h
  have hstate := congrArg Drive.state hd
  simp only [Drive.unreported] at hstate
  obtain ⟨hfailsafe, hfull, hstill, hspin, hramp, hspinUp, hstopDelay⟩ : old.drive.unreported.Sound :=
    ⟨hsound.failsafe, hsound.full, hsound.still, hsound.spin, hsound.ramp, hsound.spinUp, hsound.stopDelay⟩
  rw [← hd] at hfailsafe hfull hstill hspin hramp hspinUp hstopDelay
  exact ⟨⟨hfailsafe, hfull, hstill, hspin, hramp, hspinUp, hstopDelay⟩, hship ▸ htimers, by rw [hstate, hship]; exact hacting⟩

/-! ### The outputs of the channels -/

/-- The outputs that a station's roles give their channels (R33). -/
def State.outputOf (s : State) (r : Nat) : Option (Option Nat) := (s.roles[r]?).map (·.drive.output)

theorem outputOk_iff (s : State) (f : FanChannel) :
    OutputOk s f ↔ (f.role = none → f.output = none) ∧ ∀ r, f.role = some r → s.outputOf r = some f.output := by
  unfold OutputOk State.outputOf
  cases f.role with
  | none => simp
  | some r => simp [eq_comm]

/-- A channel keeps its output and its role, and its role its drive's output. -/
theorem OutputOk.of_same {s t : State} {f g : FanChannel} (h : OutputOk s f) (hrole : g.role = f.role) (hout : g.output = f.output)
    (hs : ∀ r, f.role = some r → t.outputOf r = s.outputOf r) : OutputOk t g := by
  obtain ⟨hnone, hsome⟩ := (outputOk_iff s f).mp h
  refine (outputOk_iff t g).mpr ⟨fun hr => ?_, fun r hr => ?_⟩
  · rw [hout, hnone (hrole ▸ hr)]
  · rw [hout, hs r (hrole ▸ hr), hsome r (hrole ▸ hr)]

namespace State

/-- The outputs of all channels are those that their roles' drives give (R25, R33). -/
def OutputsFollow (s : State) : Prop := ∀ f ∈ s.fans, OutputOk s f

theorem OutputsFollow.of_same {s t : State} (h : s.OutputsFollow) (hfans : t.fans = s.fans) (hs : ∀ r, t.outputOf r = s.outputOf r) :
    t.OutputsFollow :=
  fun f hf => (h f (hfans ▸ hf)).of_same rfl rfl fun r _ => hs r

/-- The outputs of one role's channels are those that its drive gives. -/
def OutputsAt (s : State) (r : Nat) : Prop := ∀ f ∈ s.fans, f.role = some r → s.outputOf r = some f.output

/-- Once the channels of a role have followed its drive, they have its output. -/
theorem followDrive_outputsAt (s : State) (r : Nat) (role : Role) (hr : s.roles[r]? = some role) : (s.followDrive r).OutputsAt r := by
  have hroles : (s.followDrive r).roles = s.roles := by simp
  intro f hf hrole
  rw [followDrive_fans s r role hr] at hf
  obtain ⟨g, -, rfl⟩ := List.mem_map.mp hf
  split at hrole
  · next hg => rw [if_pos hg, FanChannel.follow_output, outputOf, hroles, hr, Option.map_some]
  · next hg => exact absurd hrole hg

theorem judgeGroup_outputsAt (s : State) (r : Nat) (h : s.OutputsAt r) : (s.judgeGroup r).OutputsAt r := by
  unfold judgeGroup
  split
  · exact h
  · next role hr =>
    dsimp only
    split
    · exact h
    · exact followDrive_outputsAt _ r _ (modDrive_get_self s r _ role hr)

/-- After an event of a drive its channels have its output. -/
theorem driveEvent_outputsAt (s : State) (r : Nat) (f : RoleCfg → Drive → Drive) (role : Role) (hr : s.roles[r]? = some role) :
    (s.driveEvent r f).OutputsAt r := by
  rw [driveEvent, hr]
  exact judgeGroup_outputsAt _ r (followDrive_outputsAt _ r _ (modDrive_get_self s r _ role hr))

/-- Once the channels of a role have followed its drive, and those of the others have their roles' outputs, all do. -/
theorem followDrive_outputs (s : State) (r : Nat) (role : Role) (hr : s.roles[r]? = some role)
    (h : ∀ f ∈ s.fans, f.role ≠ some r → OutputOk s f) : (s.followDrive r).OutputsFollow := by
  have hroles : (s.followDrive r).roles = s.roles := by simp
  intro f hf
  by_cases hrole : f.role = some r
  · refine (outputOk_iff _ _).mpr ⟨fun hn => by simp [hrole] at hn, fun q hq => ?_⟩
    obtain rfl : r = q := Option.some.inj (hrole.symm.trans hq)
    exact s.followDrive_outputsAt r role hr f hf hrole
  · rw [followDrive_fans s r role hr] at hf
    obtain ⟨g, hg, rfl⟩ := List.mem_map.mp hf
    split at hrole
    · next he => exact absurd ((FanChannel.follow_role _ _ _).trans he) hrole
    · next he =>
      rw [if_neg he]
      exact (h g hg he).of_same rfl rfl fun q _ => by rw [outputOf, hroles, outputOf]

/-- One drive changes and its channels follow. -/
theorem modDrive_followDrive_outputs (s : State) (r : Nat) (f : Drive → Drive) (role : Role) (hr : s.roles[r]? = some role)
    (h : s.OutputsFollow) : ((s.modDrive r f).followDrive r).OutputsFollow := by
  refine followDrive_outputs _ r _ (modDrive_get_self s r f role hr) fun g hg hrole => (h g hg).of_same rfl rfl fun q hq => ?_
  rw [outputOf, modDrive_get_other s r q f fun he => hrole (he ▸ hq), outputOf]

theorem judgeGroup_outputs (s : State) (r : Nat) (h : s.OutputsFollow) : (s.judgeGroup r).OutputsFollow := by
  unfold judgeGroup
  split
  · exact h
  · next role hr =>
    dsimp only
    split
    · exact h
    · exact s.modDrive_followDrive_outputs r _ role hr h

theorem driveEvent_outputs (s : State) (r : Nat) (f : RoleCfg → Drive → Drive) (h : s.OutputsFollow) :
    (s.driveEvent r f).OutputsFollow := by
  unfold driveEvent
  split
  · exact h
  · next role hr => exact judgeGroup_outputs _ r (s.modDrive_followDrive_outputs r _ role hr h)

/-- A station without roles is left without roles. -/
theorem driveEvent_none (s : State) (r : Nat) (f : RoleCfg → Drive → Drive) (h : s.roles = []) : (s.driveEvent r f).roles = [] :=
  List.eq_nil_of_length_eq_zero (by rw [driveEvent_length, h]; rfl)

end State
end Sys2Proof.Machine
end

section
/-! SUPPORT. The outputs and the role machines at every event. -/

namespace Sys2Proof.Machine

/-- The invariant of the outputs and the role machines, the reporting apart. -/
def DrivesOk (s : State) : Prop :=
  s.OutputsFollow ∧ (∀ role ∈ s.roles, role.Stands) ∧ NoRoleBeforeImage s ∧ ∀ l, s.ctl.load = some l → LoadOk l

theorem outputsOk_iff (s : State) : OutputsOk s ↔ DrivesOk s ∧ Settled s := by
  constructor
  · rintro ⟨houtputs, hroles, hbefore, hload⟩
    exact ⟨⟨houtputs, fun role hr => ((roleOk_iff role).mp (hroles role hr)).1, hbefore, hload⟩,
      fun role hr => ((roleOk_iff role).mp (hroles role hr)).2⟩
  · rintro ⟨⟨houtputs, hroles, hbefore, hload⟩, hsettled⟩
    exact ⟨houtputs, fun role hr => (roleOk_iff role).mpr ⟨hroles role hr, hsettled role hr⟩, hbefore, hload⟩

namespace DrivesOk

/-- The channels and the roles change, and Station Control does not. -/
theorem of_drives {s t : State} (h : DrivesOk s) (hctl : t.ctl = s.ctl) (houtputs : t.OutputsFollow)
    (hroles : ∀ role ∈ t.roles, role.Stands) (hnone : s.roles = [] → t.roles = []) : DrivesOk t := by
  obtain ⟨-, -, hbefore, hload⟩ := h
  exact ⟨houtputs, hroles, fun hb => hnone (hbefore (hctl ▸ hb)), by rw [hctl]; exact hload⟩

/-- Neither the drives nor the channels nor Station Control have changed. -/
theorem beside {s t : State} (h : DrivesOk s) (hfans : t.fans = s.fans) (hroles : t.roles = s.roles) (hctl : t.ctl = s.ctl) :
    DrivesOk t := by
  have ⟨houtputs, hstands, _, _⟩ := h
  exact h.of_drives hctl (houtputs.of_same hfans fun r => by rw [State.outputOf, hroles, State.outputOf]) (by rw [hroles]; exact hstands)
    fun hn => hroles.trans hn

/-- Nothing changes that the drives' invariants see. -/
theorem same {s t : State} (h : DrivesOk s) (hk : s.DrivesKept t) : DrivesOk t := by
  have ⟨houtputs, hstands, _, _⟩ := h
  refine h.of_drives hk.ctl (houtputs.of_same hk.fans fun r => ?_) (fun role hr => ?_) fun hn => by simpa [hn] using hk.roles
  · have hget := congrArg (fun l : List (RoleCfg × Drive × Ship) => (l[r]?).map (·.2.1.output)) hk.roles
    simpa [State.outputOf, Function.comp_def, Role.driveSide, Drive.unreported, Drive.output] using hget
  · obtain ⟨old, hold, -, hship, hdrive⟩ := hk.role_mem role hr
    exact (hstands old hold).of_unreported hship hdrive

/-- A role record changes and then an event of its drive makes the role stand to the rules. -/
theorem driveEvent_modShip {s : State} (h : DrivesOk s) (r : Nat) (g : Ship → Ship) (f : RoleCfg → Drive → Drive)
    (hf : ∀ role, s.roles[r]? = some role → role.Stands →
      Role.Stands { role with drive := f role.cfg role.drive, ship := g role.ship }) : DrivesOk ((s.modShip r g).driveEvent r f) := by
  have ⟨houtputs, hstands, _, _⟩ := h
  refine h.of_drives (by simp) (State.driveEvent_outputs _ r f (houtputs.of_same rfl fun q => ?_)) ?_ fun hn =>
    State.driveEvent_none _ r f (by simp [hn])
  · simp only [State.outputOf, State.modShip_roles, List.getElem?_modify]
    split <;> cases s.roles[q]? <;> rfl
  · refine State.driveEvent_roles Role.conditionFree_stands _ r f (fun q role hne hq => ?_) fun x hx => ?_
    · exact hstands role (List.mem_of_getElem? (i := q) (by simpa [Ne.symm hne] using hq))
    · cases hr : s.roles[r]? with
      | none => simp [hr] at hx
      | some role =>
        obtain rfl : _ = x := by simpa [hr] using hx
        exact hf role hr (hstands role (List.mem_of_getElem? hr))

/-- An event of one drive. -/
theorem driveEvent {s : State} (h : DrivesOk s) (r : Nat) (f : RoleCfg → Drive → Drive)
    (hf : ∀ role, s.roles[r]? = some role → role.Stands → Role.Stands { role with drive := f role.cfg role.drive }) :
    DrivesOk (s.driveEvent r f) := by
  have ⟨houtputs, hstands, _, _⟩ := h
  exact h.of_drives (by simp) (s.driveEvent_outputs r f houtputs)
    (State.driveEvent_roles Role.conditionFree_stands s r f (fun q role _ hq => hstands role (List.mem_of_getElem? hq))
      fun role hr => hf role hr (hstands role (List.mem_of_getElem? hr)))
    (s.driveEvent_none r f)

/-- A role record changes, and its role goes on acting or not. -/
theorem modShip {s : State} (h : DrivesOk s) (r : Nat) (f : Ship → Ship)
    (hf : ∀ role, s.roles[r]? = some role → role.ship.Stays (f role.ship)) : DrivesOk (s.modShip r f) := by
  have ⟨houtputs, hstands, _, _⟩ := h
  refine h.of_drives rfl (houtputs.of_same rfl fun q => ?_) ?_ fun hn => by simp [hn]
  · simp only [State.outputOf, State.modShip_roles, List.getElem?_modify]
    split <;> cases s.roles[q]? <;> rfl
  · refine forall_mem_of_get r (fun q x hne hx => ?_) fun x hx => ?_
    · exact hstands x (List.mem_of_getElem? (i := q) (by simpa [Ne.symm hne] using hx))
    · cases hr : s.roles[r]? with
      | none => simp [hr] at hx
      | some role =>
        obtain rfl : _ = x := by simpa [hr] using hx
        obtain ⟨hsound, htimers, hacting⟩ := hstands role (List.mem_of_getElem? hr)
        obtain ⟨htimers', hstays⟩ := hf role hr htimers
        exact ⟨hsound, htimers', by rw [hstays]; exact hacting⟩

/-- A cause is added to the sets of all roles, or removed from them. -/
theorem setCausesAll {s : State} (h : DrivesOk s) (f : Causes → Causes) : DrivesOk (s.setCausesAll f) :=
  State.forRoles_keeps DrivesOk _ s
    (fun u r hu => hu.driveEvent r _ fun _ _ hs =>
      hs.with_drive ⟨Drive.setCauses_sound u.now _ _ hs.1, Drive.setCauses_released u.now _ _ _⟩) h

/-- The station enters FAULTED: no role acts (R166). -/
theorem enterFaulted {s : State} (h : DrivesOk s) (cause : Cause) (item : Nat) : DrivesOk (s.enterFaulted cause item) := by
  obtain ⟨houtputs, -, -, -⟩ := h
  let u := State.post { s with ctl := { s.ctl with
    state := .faulted, cause := some cause, item := item, load := none, joinWindow := .stopped } } .fault (causeCode cause) (some item)
  have hstopped : (u.forRoles State.stopActing).OutputsFollow :=
    State.forRoles_keeps State.OutputsFollow _ u (fun v r hv => v.driveEvent_outputs r _ hv) (houtputs.of_same rfl fun _ => rfl)
  obtain ⟨-, hload, hstate, -⟩ := enterFaulted_empty s cause item
  refine ⟨hstopped.of_same rfl fun r => ?_, fun role hr => ?_, fun hb => ?_, fun l hl => ?_⟩
  · rw [State.outputOf, show (s.enterFaulted cause item).roles = (u.forRoles State.stopActing).roles.map Role.faulted from rfl,
      List.getElem?_map, Option.map_map]
    rfl
  · obtain ⟨old, -, rfl⟩ := State.enterFaulted_role s cause item role hr
    obtain ⟨hsound, hreleased⟩ := old.drive.stopActing_sound
    refine ⟨hsound, by simp [Role.faulted, Ship.faulted, Ship.TimersOk], ?_⟩
    simp only [Role.faulted, Ship.faulted, hreleased, true_iff]
    cases old.cfg.kind <;> rfl
  · simp [hload, hstate] at hb
  · simp [hload] at hl

/-- LOADING begins, without a role (R160): the memory is queried. -/
theorem beginLoading {s : State} (h : s.OutputsFollow) (straps : Straps) (hroles : s.roles = []) : DrivesOk (s.beginLoading straps) := by
  have hloading : DrivesOk { s with ctl := { s.ctl with
      state := .loading, straps := straps, station := some straps.sn.toNat, offset := some straps.adr.toNat
      load := some (.start .a none s.now) } } := by
    refine ⟨h.of_same rfl fun _ => rfl, fun role hr => ?_, fun _ => hroles, fun l hl => ?_⟩
    · simp [hroles] at hr
    · exact Option.some.inj hl ▸ LoadOk.start _ _ _
  unfold State.beginLoading
  dsimp only
  split
  · exact hloading
  · exact hloading.enterFaulted _ _

end DrivesOk

/-- Channels at their power-on values have no role and are released (R25, R26). -/
theorem State.outputsFollow_of_reset {s : State} (h : s.fans = State.reset.fans) : s.OutputsFollow := by
  intro f hf
  rw [h] at hf
  rw [List.eq_of_mem_replicate (show f ∈ List.replicate 6 FanChannel.reset from hf)]
  rfl

/-- A fan channel is assigned to a role of the image (R26). -/
theorem assignedRole_lt (roles : List RoleCfg) (channel r : Nat) (h : assignedRole roles channel = some r) : r < roles.length :=
  (List.findIdx?_eq_some_iff_findIdx_eq.mp h).1

/-- A role as it is made stands to the rules (R32, R50). -/
theorem Role.fresh_stands (now own takeoverMs : Nat) (demands : List DemandCfg) (cfg : RoleCfg) :
    (Role.fresh now own takeoverMs demands cfg).Stands := by
  refine ⟨?_, ?_, ?_⟩
  · constructor <;> simp [Role.fresh, Drive.fresh]
  · cases h : cfg.kind <;> simp [Role.fresh, Ship.fresh, Ship.TimersOk, restingMachine, h]
  · cases h : cfg.kind <;> simp [Role.fresh, Ship.fresh, Drive.fresh, restingMachine, RoleMachine.acting, h]

/-- A measurement leaves the outputs (R27). -/
theorem State.measureFan_outputs (s : State) (i : Nat) (f : FanChannel) (edges : List Nat) (hf : s.fans[i]? = some f)
    (h : s.OutputsFollow) : (s.measureFan i f edges).OutputsFollow := by
  have hset (g : FanChannel) (hrole : g.role = f.role) (hout : g.output = f.output) :
      State.OutputsFollow { s with fans := s.fans.set i g } := by
    intro x hx
    rcases List.mem_or_eq_of_mem_set hx with hold | rfl
    · exact (h x hold).of_same rfl rfl fun _ _ => rfl
    · exact (h f (List.mem_of_getElem? hf)).of_same hrole hout fun _ _ => rfl
  cases hchecked : s.checked f with
  | true =>
    obtain ⟨r, -, hrole, -, -⟩ := s.role_of_checked f hchecked
    rw [s.measureFan_checked i r f edges hchecked hrole]
    refine State.judgeGroup_outputs _ r ((hset (f.judged s.now edges) rfl rfl).of_same (by simp [State.withJudged]) fun q => ?_)
    simp [State.outputOf, State.withJudged]
  | false =>
    rw [s.measureFan_unchecked i f edges hchecked]
    exact hset (f.timed s.now edges) rfl rfl

/-- Every event that acts on the drives keeps outputs, drives and role machines to the rules. -/
theorem driveInvariant_drivesOk : DriveInvariant DrivesOk where
  same h hk := h.same hk
  ship r f hf h := h.modShip r f hf
  starts {s} r level f hf h := h.driveEvent_modShip r f _ fun role hr ⟨_, htimers, _⟩ => by
    obtain ⟨htimers', hacting⟩ := hf role hr htimers
    obtain ⟨hsound, hdriven⟩ := role.drive.startActing_sound s.now role.cfg level
    exact ⟨hsound, htimers', by simpa [hacting] using hdriven⟩
  stops r f hf h := h.driveEvent_modShip r f _ fun role hr ⟨_, htimers, _⟩ => by
    obtain ⟨htimers', hacting⟩ := hf role hr htimers
    obtain ⟨hsound, hreleased⟩ := role.drive.stopActing_sound
    exact ⟨hsound, htimers', by simp [hacting, hreleased]⟩
  event r f hf h := h.driveEvent r f fun role hr hs => hs.with_drive ((hf role hr).sound hs.1)
  fan {s} i f edges hf h := by
    have ⟨houtputs, hstands, _, _⟩ := h
    refine h.of_drives (by simp) (s.measureFan_outputs i f edges hf houtputs) ?_ fun hn => ?_
    · unfold State.measureFan
      dsimp only
      repeat' split
      · exact State.judgeGroup_roles Role.conditionFree_stands _ _ (by simpa using hstands)
      · simpa using hstands
      · exact hstands
    · have hchecked : s.checked f = false := by
        unfold State.checked
        cases f.role <;> simp [hn]
      rw [s.measureFan_unchecked i f edges hchecked]
      exact hn
  calm i c m _ _ _ h := h.beside rfl rfl rfl
  alarm i c m _ _ _ hk h := (DrivesOk.same (by exact h.beside rfl rfl rfl) hk).setCausesAll _
  link isolated _ hk h := (DrivesOk.same (by exact h.beside rfl rfl rfl) hk).setCausesAll _
  latches h := h.beside rfl rfl rfl
  fault cause item h := h.enterFaulted cause item
  runs {s} _ h := by
    obtain ⟨houtputs, hstands, hbefore, hload⟩ := h
    exact ⟨houtputs.of_same rfl fun _ => rfl, hstands, fun hb => hbefore (hb.imp_right fun hr => nomatch hr), hload⟩
  reads {s} l l' result hl hok _ h := by
    obtain ⟨houtputs, hstands, hbefore, hload⟩ := h
    exact ⟨houtputs.of_same rfl fun _ => rfl, hstands, fun _ => hbefore (.inl (by simp [hl])),
      fun x hx => Option.some.inj hx ▸ hok (hload l hl)⟩
  unloads {s} l result hl h := by
    obtain ⟨houtputs, hstands, hbefore, -⟩ := h
    exact ⟨houtputs.of_same rfl fun _ => rfl, hstands, fun _ => hbefore (.inl (by simp [hl])), fun _ hx => nomatch hx⟩
  joins {s t} l slot img hl _ hk h := by
    obtain ⟨houtputs, -, hbefore, -⟩ := h
    have hroles : s.roles = [] := hbefore (.inl (by simp [hl]))
    have hreleased : ∀ f ∈ s.fans, f.output = none := by
      intro f hf
      obtain ⟨hnone, hsome⟩ := (outputOk_iff s f).mp (houtputs f hf)
      cases hr : f.role with
      | none => exact hnone hr
      | some r => simpa [State.outputOf, hroles] using hsome r hr
    refine ⟨fun f hf => ?_, fun role hr => ?_, by simp [NoRoleBeforeImage, State.joined], fun _ hx => nomatch hx⟩
    · obtain ⟨i, hi, rfl⟩ := List.mem_mapIdx.mp hf
      have hout : t.fans[i].output = none := hreleased _ (by rw [← hk.fans]; exact List.getElem_mem hi)
      refine (outputOk_iff _ _).mpr ⟨fun _ => hout, fun r hr => ?_⟩
      have hlt := assignedRole_lt img.roles i r hr
      simp [State.outputOf, State.joined, hlt, Role.fresh, Drive.fresh, Drive.output, FanChannel.configured, hout]
    · obtain ⟨cfg, -, rfl⟩ := List.mem_map.mp hr
      exact Role.fresh_stands _ _ _ _ cfg
  held delivered _ := ⟨State.outputsFollow_of_reset rfl, fun _ hr => (nomatch hr), fun _ => rfl, fun _ hl => nomatch hl⟩
  begins {s} startAt straps hstate h := by
    obtain ⟨houtputs, -, hbefore, -⟩ := h
    exact DrivesOk.beginLoading (s := { s with ctl := { s.ctl with state := .loading, startAt := startAt } })
      (houtputs.of_same rfl fun _ => rfl) straps (hbefore (.inr hstate))
  restart straps _ := by
    refine DrivesOk.beginLoading ?_ straps rfl
    exact State.outputsFollow_of_reset rfl

end Sys2Proof.Machine

open Sys2Proof Sys2Proof.Machine

/-- Settles O7: every event of a drive sets the outputs of its channels, and a STATUS that is due is queued at the end of the event. -/
theorem stepKeepsOutputs : Obligations.StepKeepsOutputs := by
  unfold Obligations.StepKeepsOutputs
  intro s t hs h
  obtain ⟨hdrives, hsettled⟩ := (outputsOk_iff s).mp hs
  obtain ⟨hdrives', hsettled'⟩ := driveInvariant_drivesOk.step s t hdrives h
  exact (outputsOk_iff t).mpr ⟨hdrives', hsettled' hsettled⟩

end

section
/-! SUPPORT. Events of a driven role without a cause: a step of the ramp, the end of a stop delay and of spin-up (R37, R39, R41). -/

namespace Sys2Proof.Machine

theorem Causes.with_groupFailed (k : Causes) (b : Bool) (h : k.groupFailed = b) : { k with groupFailed := b } = k := by
  subst h
  rfl

/-- A drive in a condition that its causes do not tell is not FAILED, and a NORMAL condition then acts on nothing (R31, R42). -/
theorem Drive.takeCondition_normal (now : Nat) (cfg : RoleCfg) (d : Drive) (h : d.causes.groupFailed = false) :
    d.takeCondition now cfg .normal = { d with condition := .normal, statusDue := true } := by
  have hsame : { d.causes with groupFailed := Condition.normal == Condition.failed } = d.causes := d.causes.with_groupFailed _ h
  unfold Drive.takeCondition Drive.setCauses
  exact if_pos hsame

/-- An empty set of causes holds no GROUP_FAILED. -/
theorem Causes.groupFailed_of_empty {k : Causes} (h : k.empty = true) : k.groupFailed = false := by
  simp [Causes.empty] at h
  exact h.1.2

/-- A role whose channels are not checked is NORMAL (R28, R31). -/
theorem RoleJudged.normal {s : State} {r : Nat} {role : Role} (h : RoleJudged s r role) (hc : role.drive.checks role.cfg = false) :
    role.drive.condition = .normal := by
  obtain ⟨hcondition, hunchecked⟩ := h
  exact hcondition.trans (groupCondition_unchecked (hunchecked hc))

namespace State

/-- The condition that a judged role's channels give after an event of its drive: as it was, or NORMAL where they are not checked. -/
theorem condition_after_event (s : State) (r : Nat) (role : Role) (f : Drive → Drive) (hr : s.roles[r]? = some role)
    (hj : RoleJudged s r role) :
    groupCondition (((s.modDrive r f).followDrive r).healths r)
      = if (f role.drive).checks role.cfg then role.drive.condition else .normal := by
  have hself := s.modDrive_get_self r f role hr
  split
  · next hd =>
    rw [healths_followDrive_checked _ r _ hself hd]
    exact hj.1.symm
  · next hd => exact groupCondition_unchecked (healths_followDrive_unchecked _ r _ hself (by simpa using hd))

/-- An event at a driven role without a cause: the drive is as the event leaves it, and where its channels are not checked any more its
condition is NORMAL and its STATUS due. -/
theorem driveEvent_uncaused (s : State) (r : Nat) (f : RoleCfg → Drive → Drive) (role : Role) (hr : s.roles[r]? = some role)
    (hj : RoleJudged s r role) (he : role.drive.causes.empty = true)
    (hf : (f role.cfg role.drive).causes = role.drive.causes ∧ (f role.cfg role.drive).condition = role.drive.condition) :
    ∃ c due, (s.driveEvent r f).roles[r]? = some { role with drive := { f role.cfg role.drive with condition := c, statusDue := due } }
      ∧ ((f role.cfg role.drive).statusDue = true → due = true)
      ∧ (role.drive.checks role.cfg = false ∨ (f role.cfg role.drive).checks role.cfg = false → c = .normal) := by
  obtain ⟨hcauses, hcondition⟩ := hf
  rw [driveEvent_get_self s r f role hr, s.condition_after_event r role (f role.cfg) hr hj]
  dsimp only
  cases hd : (f role.cfg role.drive).checks role.cfg with
  | true =>
    rw [if_pos rfl, if_pos hcondition.symm]
    exact ⟨_, _, rfl, id, fun hor => hcondition.trans (hj.normal (hor.resolve_right (by simp)))⟩
  | false =>
    rw [if_neg (show ¬false = true by simp)]
    split
    · next hsame => exact ⟨_, _, rfl, id, fun _ => hsame.symm⟩
    · rw [Drive.takeCondition_normal _ _ _ (by rw [hcauses]; exact Causes.groupFailed_of_empty he)]
      exact ⟨.normal, true, rfl, fun _ => rfl, fun _ => rfl⟩

end State

/-! ### An expiry of a judged and settled station -/

theorem JudgedOk.until {s : State} (h : JudgedOk s) (due : Nat) : JudgedOk (s.until due) := h.beside rfl rfl rfl

theorem Drive.flushed_due (now : Nat) (d : Drive) (hdue : d.statusDue = true) (hs : d.state ≠ .released) :
    d.flushed now = { d with statusDue := false, statusTimer := .running (now + 1000) } := by
  simp [Drive.flushed, hdue, hs]

/-- The end of an event changes of a drive its reporting alone (R45). -/
theorem Drive.flushed_unreported (now : Nat) (d : Drive) : (d.flushed now).unreported = d.unreported := by
  unfold Drive.flushed
  repeat' split
  all_goals rfl

namespace State

/-- An event at one role of a settled station leaves the others settled. -/
theorem driveEvent_othersSettled {s : State} (hs : Settled s) (r : Nat) (f : RoleCfg → Drive → Drive) :
    (s.driveEvent r f).OthersSettled r :=
  othersSettled_of_get r hs fun q hq => s.driveEvent_get_other r q f hq

/-- An event at one role of a settled station, with its end: the others stay as they are. -/
theorem driveEvent_finish_other {s : State} (hs : Settled s) (r q : Nat) (f : RoleCfg → Drive → Drive) (h : q ≠ r) :
    (s.driveEvent r f).finish.roles[q]? = s.roles[q]? :=
  ((s.driveEvent r f).finish_get_other r q (driveEvent_othersSettled hs r f) h).trans (s.driveEvent_get_other r q f h)

/-- After the end of an event of a drive its channels have its output. -/
theorem driveEvent_finish_output (s : State) (r : Nat) (f : RoleCfg → Drive → Drive) (role x : Role) (hr : s.roles[r]? = some role)
    (hx : (s.driveEvent r f).roles[r]? = some x) (g : FanChannel) (hg : g ∈ (s.driveEvent r f).finish.fans) (hrole : g.role = some r) :
    g.output = x.drive.output := by
  have hout := s.driveEvent_outputsAt r f role hr g (by simpa using hg) hrole
  simpa [outputOf, hx] using hout.symm

end State
end Sys2Proof.Machine

open Sys2Proof Sys2Proof.Machine

/-- Settles O35: a step leaves causes and condition, so that nothing but a condition gone NORMAL can follow it (R31, R37). -/
theorem rampSteps : Obligations.RampSteps := by
  unfold Obligations.RampSteps
  intro s r role due hr htracking hempty hj hsettled hramp
  dsimp only
  generalize hlevel : (if role.drive.ramp = .up due then min role.drive.target (role.drive.level + role.cfg.rampStep)
    else max role.drive.target (role.drive.level - role.cfg.rampStep)) = level
  obtain ⟨f, hstep, hexec⟩ : ∃ f : RoleCfg → Drive → Drive, f role.cfg role.drive = role.drive.rampStep (max s.now due) role.cfg level
      ∧ exec (.rampTimerExpiry r) s = .next ((s.until due).driveEvent r f).finish := by
    rcases hramp with hup | hdown
    · refine ⟨fun cfg => Drive.rampStep (max s.now due) cfg (min role.drive.target (role.drive.level + cfg.rampStep)), ?_, ?_⟩
      · rw [← hlevel, if_pos hup]
      · show execRampTimerExpiry r s = _
        simp [execRampTimerExpiry, hr, hup]
    · refine ⟨fun cfg => Drive.rampStep (max s.now due) cfg (max role.drive.target (role.drive.level - cfg.rampStep)), ?_, ?_⟩
      · rw [← hlevel, if_neg (by simp [hdown])]
      · show execRampTimerExpiry r s = _
        simp [execRampTimerExpiry, hr, hdown]
  obtain ⟨c, isDue, hget, -, -⟩ := (s.until due).driveEvent_uncaused r f role hr ((hj.until due).role r role hr) hempty
    (by rw [hstep]; exact ⟨rfl, rfl⟩)
  rw [hstep] at hget
  have hdrive := Drive.eq_of_unreported (Drive.flushed_unreported ((s.until due).driveEvent r f).now
    { role.drive.rampStep (max s.now due) role.cfg level with condition := c, statusDue := isDue })
  refine ⟨_, _, hexec, State.finish_get _ r _ hget, by simp [State.until], rfl, rfl, rfl, ?_, ?_, ?_, ?_, ?_, ?_, ?_, ?_, ?_⟩
  case refine_7 =>
    intro g hg hrole
    rw [(s.until due).driveEvent_finish_output r f role _ hr hget g hg hrole]
    simp [Drive.output, Drive.rampStep, htracking]
  case refine_8 => exact fun q hq => State.driveEvent_finish_other (s := s.until due) hsettled r q f hq
  case refine_9 => simp [State.until]
  all_goals
    rw [hdrive]
  · exact htracking
  all_goals rfl

end

section
/-! SUPPORT. A change of state of a driven role without a cause whose channels are not checked before or after it (R39, R41, R45). -/

namespace Sys2Proof.Machine

/-- The drive has changed its state as the event says, in a NORMAL condition, and reported it; its channels have its output. -/
theorem State.driveEvent_unchecked_reported (s : State) (r : Nat) (f : RoleCfg → Drive → Drive) (role : Role)
    (hr : s.roles[r]? = some role) (hj : RoleJudged s r role) (hsettled : Settled s) (he : role.drive.causes.empty = true)
    (hf : (f role.cfg role.drive).causes = role.drive.causes ∧ (f role.cfg role.drive).condition = role.drive.condition)
    (hdue : (f role.cfg role.drive).statusDue = true) (hdriven : (f role.cfg role.drive).state ≠ .released)
    (hunchecked : role.drive.checks role.cfg = false ∨ (f role.cfg role.drive).checks role.cfg = false) :
    ∃ role', (s.driveEvent r f).finish.roles[r]? = some role'
      ∧ role' = { role with drive := { f role.cfg role.drive with
          condition := .normal, statusDue := false, statusTimer := .running (s.now + 1000) } }
      ∧ (∀ g ∈ (s.driveEvent r f).finish.fans, g.role = some r → g.output = (f role.cfg role.drive).output)
      ∧ (s.transmits = true → s.txq.length < 8 → (∀ e ∈ s.txq, e.isFor .status role.cfg.group = false) →
          Queued (s.driveEvent r f).finish s.stamp (.status ((s.driveEvent r f).finish.statusContent role'))) := by
  obtain ⟨c, isDue, hget, hkept, hnormal⟩ := s.driveEvent_uncaused r f role hr hj he hf
  obtain rfl := hkept hdue
  obtain rfl := hnormal hunchecked
  have hfinished := State.finish_get _ r _ hget
  have hflushed := Drive.flushed_due (s.driveEvent r f).now
    { f role.cfg role.drive with condition := .normal, statusDue := true } rfl hdriven
  have hnow : (s.driveEvent r f).now = s.now := by simp
  have htxq : (s.driveEvent r f).txq = s.txq := by simp
  have hstamp : (s.driveEvent r f).stamp = s.stamp := by simp
  rw [hflushed, hnow] at hfinished
  refine ⟨_, hfinished, rfl, s.driveEvent_finish_output r f role _ hr hget, fun ht hroom hnone => ?_⟩
  rw [← hstamp]
  exact State.finish_single_queued _ r _ _ hget (State.driveEvent_othersSettled hsettled r f)
    ((transmits_of_ctl (by simp)).trans ht) rfl hdriven (by rwa [htxq]) (by rwa [htxq]) hfinished

end Sys2Proof.Machine

open Sys2Proof Sys2Proof.Machine

/-- Settles O36: in STOPPED and in SPIN_UP no channel is checked, so that the condition is NORMAL before or after the event. -/
theorem stopAndSpinUpEnd : Obligations.StopAndSpinUpEnd := by
  unfold Obligations.StopAndSpinUpEnd
  intro s r due role hr hempty hj hsettled
  have hjudged : RoleJudged (s.until due) r role := (hj.until due).role r role hr
  have hdue : role.drive.statusDue = false := hsettled role (List.mem_of_getElem? hr)
  refine ⟨fun _ hrun => ?_, fun hspin hrun => ?_⟩
  · have hexec : exec (.stopDelayExpiry r) s = .next ((s.until due).driveEvent r (fun _ => Drive.enterStopped)).finish := by
      show execStopDelayExpiry r s = _
      simp [execStopDelayExpiry, hr, hrun, onExpiry]
    obtain ⟨role', hget, rfl, houtput, hqueued⟩ := (s.until due).driveEvent_unchecked_reported r (fun _ => Drive.enterStopped) role hr
      hjudged hsettled hempty ⟨rfl, rfl⟩ rfl (by simp [Drive.enterStopped]) (.inr rfl)
    have hj' : JudgedOk ((s.until due).driveEvent r (fun _ => Drive.enterStopped)).finish :=
      (driveInvariant_judgedOk.finish (s := s) ((hj.until due).driveEvent r (fun _ => Drive.enterStopped) fun _ _ hd => hd)).1
    obtain ⟨hfans, -, -, -⟩ := (judgedOk_iff _).mp hj'
    refine ⟨_, _, hexec, hget, by simp [State.until], ?_, rfl, rfl, fun g hg hrole => ⟨houtput g hg hrole, ?_⟩, hqueued⟩
    · simp [Drive.enterStopped, hdue, State.until]
    · exact hfans g hg ((State.checked_of_role _ g r _ hrole hget).trans rfl)
  · have hexec : exec (.spinUpExpiry r) s = .next
        ((s.until due).driveEvent r (fun cfg => Drive.enterTracking (s.until due).now cfg role.drive.spinUpLevel)).finish := by
      show execSpinUpExpiry r s = _
      simp [execSpinUpExpiry, hr, hrun, onExpiry]
    obtain ⟨role', hget, rfl, houtput, hqueued⟩ := (s.until due).driveEvent_unchecked_reported r
      (fun cfg => Drive.enterTracking (s.until due).now cfg role.drive.spinUpLevel) role hr hjudged hsettled hempty ⟨rfl, rfl⟩ rfl
      (by simp [Drive.enterTracking]) (.inl (by simp [Drive.checks, hspin]))
    refine ⟨_, _, hexec, hget, by simp [State.until], ?_, rfl, rfl, fun g hg hrole => ?_, hqueued⟩
    · have hnormal : role.drive.condition = .normal := hjudged.normal (by simp [Drive.checks, hspin])
      simp [Drive.enterTracking, Ramp.toward, hdue, hnormal, State.until]
    · exact (houtput g hg hrole).trans rfl

end

section
/-! SUPPORT. A change of one role's table by a timer, and the target that follows it (R12, R14, R19, R21, R36 to R41). -/

namespace Sys2Proof.Machine

/-- What the end of a timer of a claim table leaves: the table it gives, the target of that table taken by the role's drive, the
notices it posts, and everything else as it was. -/
structure TableTimed (s t : State) (r now : Nat) (role role' : Role) (table : ClaimTable) (notices : Notices) : Prop where
  get : t.roles[r]? = some role'
  now_eq : t.now = now
  claims : role'.claims = table
  target : role'.drive.target = role'.computedTarget
  ship : role'.ship = role.ship
  cfg : role'.cfg = role.cfg
  handed : JudgedOk s → TargetHanded s t (s.txq.length < 8) r role role'
  others : ∀ q, q ≠ r → t.roles[q]? = s.roles[q]?
  noticed : s.txq.length < 8 → t.notices = notices
  ctl : t.ctl = s.ctl
  temps : t.temps = s.temps
  demand : t.demand = s.demand
  peers : t.peers = s.peers
  port : t.port = s.port

/-- A role with another table is judged as before. -/
theorem RoleJudged.withTable {s : State} {r : Nat} {role : Role} (h : RoleJudged s r role) (table : ClaimTable) (due : Nat)
    (notes : List (NoticeKind × Nat × Int)) : RoleJudged ((s.until due).withTable r table notes) r (role.withClaims table) := h

/-- The end of an event at which one role has taken a target. -/
theorem State.handTarget_finish_handed (s u : State) (r : Nat) (role : Role) (claims : ClaimTable)
    (h : u.roles[r]? = some (role.withClaims claims)) (hj : RoleJudged u r (role.withClaims claims)) (ho : u.OthersSettled r)
    (hctl : u.ctl = s.ctl) (htxq : u.txq = s.txq) (hstamp : u.stamp = s.stamp) (role' : Role)
    (h' : (u.handTarget r).finish.roles[r]? = some role') :
    TargetHanded s (u.handTarget r).finish (s.txq.length < 8) r role role' := by
  obtain ⟨hdrive, houtputs⟩ := u.handTarget_judged r _ h hj
  have hnow : (u.handTarget r).finish.now = u.now := by simp
  have hfinished := (u.handTarget r).finish_get r _ hdrive
  obtain rfl := Option.some.inj (h'.symm.trans hfinished)
  refine ⟨?_, fun hstopped hpos hne => ?_⟩
  · rw [hnow]
    exact ((role.withClaims claims).handed_taken u.now).flushed (u.handTarget r).now
  · simp only [Drive.flushed_target] at hpos hne
    obtain ⟨hchanged, hspin, hdue⟩ := (role.withClaims claims).handed_spinUp u.now hstopped hpos hne
    have ho' : (u.handTarget r).OthersSettled r := fun q x hq hx => ho q x hq (u.handTarget_get_other r q hq ▸ hx)
    exact State.driveReported_finish s (u.handTarget r) r _ _ hdrive ho' (by simpa using hctl) (by simpa using htxq)
      (by simpa using hstamp) hdue (by simp [hspin]) (houtputs hchanged) hfinished

/-- One role's table changes at a timer's end, and its target is computed anew. -/
theorem State.tableTimed (s : State) (r due : Nat) (role : Role) (table : ClaimTable) (notes : List (NoticeKind × Nat × Int))
    (hr : s.roles[r]? = some role) (hsettled : Settled s) :
    ∃ role', TableTimed s (((s.until due).withTable r table notes).handTarget r).finish r (max s.now due) role role' table
      (s.notices.pushAll (s.until due).timeBase notes) := by
  let u := (s.until due).withTable r table notes
  have hu : u.roles[r]? = some (role.withClaims table) := by simp [u, withTable, State.until, hr]
  have hother (q : Nat) (hq : q ≠ r) : (u.handTarget r).roles[q]? = s.roles[q]? :=
    (u.handTarget_get_other r q hq).trans (withTable_get_other _ r q table notes hq)
  have hlt : r < (u.handTarget r).roles.length := by
    rw [handTarget_length]
    exact (List.getElem?_eq_some_iff.mp hu).1
  obtain ⟨d, hdrive, htarget⟩ := u.handTarget_get_self r _ hu
  have hothers : (u.handTarget r).OthersSettled r := othersSettled_of_get r hsettled hother
  refine ⟨_, (u.handTarget r).finish_get r _ hdrive, ?_, rfl, ?_, rfl, rfl, fun hj => ?_, fun q hq => ?_,
    fun hroom => ?_, ?_, ?_, ?_, ?_, ?_⟩
  · simp [withTable, State.until]
  · rw [Drive.flushed_target, htarget]
    exact Role.computedTarget_congr rfl rfl
  · exact State.handTarget_finish_handed s u r role table hu ((hj.role r role hr).withTable table due notes)
      (othersSettled_of_get r hsettled fun q hq => withTable_get_other _ r q table notes hq) rfl rfl rfl _
      ((u.handTarget r).finish_get r _ hdrive)
  · exact ((u.handTarget r).finish_get_other r q hothers hq).trans (hother q hq)
  · rw [finish_single_notices _ r hlt hothers (by simpa [u, withTable, State.until] using hroom)]
    simp [u, withTable, State.until]
  all_goals simp [withTable, State.until]

/-- Is an entry that of an AWAITED required contributor (R14)? -/
def ClaimEntry.awaited (e : ClaimEntry) : Bool := e.kind == .required && e.live.isNone

/-- A table after its join grace: its AWAITED entries are marked (R14). -/
def ClaimTable.afterGrace (t : ClaimTable) : ClaimTable :=
  { t with
    grace := .stopped, graceEnded := true,
    entries := t.entries.map (fun x => if x.awaited then { x with lossReported := true } else x) }

namespace State

/-- A run of notices of one kind on one subject. -/
theorem foldl_post (kind : NoticeKind) (subject : Nat) (es : List ClaimEntry) (s : State) :
    es.foldl (fun u e => u.post kind subject (some (e.station : Int))) s
      = { s with notices := s.notices.pushAll s.timeBase (es.map (fun e => (kind, subject, (e.station : Int)))) } := by
  induction es generalizing s with
  | nil => rfl
  | cons e es ih => exact ih _

/-- The end of the join grace changes the role's table, and posts the loss of each awaited contributor. -/
theorem reportAwaited_eq (s : State) (r : Nat) (role : Role) (h : s.roles[r]? = some role) :
    s.reportAwaited r role = s.withTable r role.claims.afterGrace
      ((role.claims.entries.filter ClaimEntry.awaited).map (fun e => (.contributorLost, role.cfg.group, (e.station : Int)))) := by
  have hmark (e : ClaimEntry) : (if e.kind = .required ∧ e.live.isNone then { e with lossReported := true } else e)
      = if e.awaited then { e with lossReported := true } else e := by
    simp [ClaimEntry.awaited]
  unfold reportAwaited
  dsimp only
  rw [modClaims_eq s r role _ h]
  simp only [hmark]
  exact foldl_post _ _ _ _

end State
end Sys2Proof.Machine

open Sys2Proof Sys2Proof.Machine

/-- Settles O30: each of the three timers changes one table, and the target of that table is computed anew. -/
theorem claimTimersEnd : Obligations.ClaimTimersEnd := by
  unfold Obligations.ClaimTimersEnd
  refine ⟨fun s r n role e l hr hfind hlive hkind hsettled => ?_, fun s r due role hr hsettled => ⟨fun hgrace => ?_, fun hpeak => ?_⟩⟩
  · obtain ⟨role', h⟩ := s.tableTimed r (l.since + role.cfg.claimMs) role (role.claims.ended n) (role.lossNotice n) hr hsettled
    have hexec : exec (.claimExpiry r n) s = .next ((((s.until (l.since + role.cfg.claimMs)).withTable r (role.claims.ended n)
        (role.lossNotice n)).handTarget r).finish) := by
      show execClaimExpiry r n s = _
      rw [← (s.until (l.since + role.cfg.claimMs)).endClaim_eq r n role hr]
      cases hk : e.kind <;> simp [execClaimExpiry, hr, hfind, hk, hlive] at hkind ⊢
    refine ⟨_, role', hexec, h.get, h.now_eq, fun hk => ?_, fun hk => ?_, h.target, h.ship, h.cfg, h.handed, h.others,
      fun hroom => (h.noticed hroom).trans ?_, h.ctl, h.temps, h.demand, h.peers, h.port⟩
    · rw [h.claims]
      have hfilter : (fun x : ClaimEntry => x.station != n) = fun x => decide (x.station ≠ n) := by
        funext x; simp [bne, BEq.beq]
      simp [ClaimTable.ended, hfind, hk, ClaimTable.remove, hfilter]
    · rw [h.claims]
      simp [ClaimTable.ended, hfind, hk, hlive, ClaimTable.update]
    · unfold Role.lossNotice
      simp [hfind, hlive]
      split <;> rfl
  · obtain ⟨role', h⟩ := s.tableTimed r due role role.claims.afterGrace
      ((role.claims.entries.filter ClaimEntry.awaited).map (fun e => (.contributorLost, role.cfg.group, (e.station : Int)))) hr hsettled
    refine ⟨_, role', ?_, h.get, h.now_eq, h.claims, h.target, h.ship, h.cfg, h.handed, h.others,
      fun hroom => (h.noticed hroom).trans ?_, h.ctl, h.temps, h.demand, h.peers⟩
    · show execJoinGraceEnd r s = _
      simp [execJoinGraceEnd, hr, hgrace, onExpiry, State.reportAwaited_eq (s.until due) r role hr]
    · rw [Notices.pushAll, List.foldl_map]
      rfl
  · obtain ⟨role', h⟩ := s.tableTimed r due role { role.claims with peak := 0, peakTimer := .stopped } [] hr hsettled
    refine ⟨_, role', ?_, h.get, h.now_eq, h.claims, h.target, h.ship, h.cfg, h.handed, h.others,
      h.noticed, h.ctl, h.temps, h.demand, h.peers⟩
    show execPeakExpiry r s = _
    simp [execPeakExpiry, hr, hpeak, onExpiry, State.modClaims_eq (s.until due) r role _ hr]

end

section
/-! SUPPORT. The measurement of a fan channel (R27 to R31): the speed of its edges, its health, and its role's condition. -/

namespace Sys2Proof.Machine

/-! ### The speed of a window (R27) -/

/-- The last recorded edge is at least 100 µs after the one recorded before. -/
theorem recordedEdges_last (p : Nat) (edges : List Nat) (last : Nat) (h : (recordedEdges (some p) edges).getLast? = some last) :
    p + 100 ≤ last := by
  induction edges generalizing p last with
  | nil => simp [recordedEdges] at h
  | cons e es ih =>
    unfold recordedEdges at h
    split at h
    · exact ih p last h
    · next hfar =>
      rw [List.getLast?_cons, Option.some.injEq] at h
      cases hl : (recordedEdges (some e) es).getLast? with
      | none => simp [hl] at h; omega
      | some x =>
        have := ih e x hl
        simp [hl] at h
        omega

/-- With two recorded edges the first is before the last, and the speed is the whole part of a quotient, at most 25,000. -/
theorem tachSpeed_of_recorded (pulses : Nat) (edges : List Nat) (first last : Nat) (hfirst : (recordedEdges none edges).head? = some first)
    (hlast : (recordedEdges none edges).getLast? = some last) (htwo : 2 ≤ (recordedEdges none edges).length) :
    first < last ∧ tachSpeed pulses edges
      = min 25000 (60000000 * ((recordedEdges none edges).length - 1) / ((last - first) * pulses)) := by
  refine ⟨?_, ?_⟩
  · cases edges with
    | nil => simp [recordedEdges] at hfirst
    | cons e es =>
      simp only [recordedEdges, List.head?_cons, Option.some.injEq] at hfirst hlast htwo
      subst hfirst
      cases hl : (recordedEdges (some e) es).getLast? with
      | none => simp [List.getLast?_eq_none_iff.mp hl] at htwo
      | some x =>
        have := recordedEdges_last e es x hl
        simp [List.getLast?_cons, hl] at hlast
        omega
  · have hhead : (recordedEdges none edges).headD 0 = first := by simp [List.headD_eq_head?_getD, hfirst]
    have hend : (recordedEdges none edges).getLastD 0 = last := by simp [List.getLastD_eq_getLast?, hlast]
    unfold tachSpeed
    dsimp only
    rw [if_neg (by omega), hhead, hend]

/-! ### The health of a checked channel (R29, R30) -/

theorem nextRun_below (now : Nat) (below : Bool) (run : Option Run) : (nextRun now below run).below = below := by
  unfold nextRun
  split
  · split
    · assumption
    · rfl
  · rfl

/-! ### A condition taken -/

theorem Drive.takeCondition_taken (now : Nat) (cfg : RoleCfg) (c : Condition) (d : Drive) :
    CausesTaken now cfg d (d.takeCondition now cfg c) :=
  Drive.setCauses_taken now cfg { d.causes with groupFailed := c == Condition.failed } { d with condition := c, statusDue := true }

/-- A drive whose condition, causes and reporting alone are others takes no causes. -/
theorem CausesTaken.refl (now : Nat) (cfg : RoleCfg) (d : Drive) : CausesTaken now cfg d d :=
  ⟨fun _ => rfl, fun hne => absurd rfl hne, fun hne => absurd rfl hne⟩

/-- The status timer and the mark of a STATUS do not count at causes taken. -/
theorem CausesTaken.with_status {now : Nat} {cfg : RoleCfg} {old new : Drive} (h : CausesTaken now cfg old new) (timer : Timer)
    (due : Bool) : CausesTaken now cfg old { new with statusTimer := timer, statusDue := due } := by
  let restamp (d : Drive) : Drive := { d with statusTimer := timer, statusDue := due }
  obtain ⟨hheld, hcaused, hfreed⟩ := h
  exact ⟨fun hsame => congrArg restamp (hheld hsame), fun hne hr hf he => congrArg restamp (hcaused hne hr hf he),
    fun hne hs he => congrArg restamp (hfreed hne hs he)⟩

theorem CausesTaken.flushed {now : Nat} {cfg : RoleCfg} {old new : Drive} (h : CausesTaken now cfg old new) (t : Nat) :
    CausesTaken now cfg old (new.flushed t) := by
  rw [Drive.eq_of_unreported (new.flushed_unreported t)]
  exact h.with_status _ _

/-- A STATUS that is due stays due at a change of causes. -/
theorem Drive.setCauses_statusDue (now : Nat) (cfg : RoleCfg) (causes : Causes) (d : Drive) (h : d.statusDue = true) :
    (d.setCauses now cfg causes).statusDue = true := by
  unfold Drive.setCauses
  dsimp only
  split
  · exact h
  · split
    · split
      · exact h
      · rfl
    · split
      · exact h
      · rfl
    · split
      · exact h
      · rfl
    · split
      · rfl
      · exact h
    · exact h

theorem Drive.takeCondition_statusDue (now : Nat) (cfg : RoleCfg) (c : Condition) (d : Drive) :
    (d.takeCondition now cfg c).statusDue = true := Drive.setCauses_statusDue _ _ _ _ rfl

/-- A drive whose channels give a condition (R31): a new one is taken. -/
def Drive.judged (now : Nat) (cfg : RoleCfg) (c : Condition) (d : Drive) : Drive :=
  if c = d.condition then d else d.takeCondition now cfg c

namespace State

/-- The group condition of a role that checks its channels, computed anew: the drive takes it where it is another one, the channels keep
their healths and all else but their outputs. -/
theorem judgeGroup_checked (s : State) (r : Nat) (role : Role) (hr : s.roles[r]? = some role)
    (hc : role.drive.checks role.cfg = true) (hl : role.cfg.checkLevel ≤ 100) :
    (s.judgeGroup r).healths r = s.healths r
      ∧ (s.judgeGroup r).roles[r]? = some { role with drive := role.drive.judged s.now role.cfg (groupCondition (s.healths r)) }
      ∧ ∀ (i : Nat) (f : FanChannel), s.fans[i]? = some f → ∃ out, (s.judgeGroup r).fans[i]? = some { f with output := out } := by
  unfold Drive.judged
  by_cases he : groupCondition (s.healths r) = role.drive.condition
  · have hsame : s.judgeGroup r = s := by simp [judgeGroup, hr, he]
    rw [hsame, if_pos he]
    exact ⟨rfl, hr, fun i f hf => ⟨f.output, hf⟩⟩
  · let d := role.drive.takeCondition s.now role.cfg (groupCondition (s.healths r))
    let u := s.modDrive r (Drive.takeCondition s.now role.cfg (groupCondition (s.healths r)))
    have hu : u.roles[r]? = some { role with drive := d } := modDrive_get_self _ _ _ _ hr
    have hgroup : s.judgeGroup r = u.followDrive r := by simp [judgeGroup, hr, he, u]
    have hd : d.checks role.cfg = true := Drive.takeCondition_checks _ _ _ _ hc hl
    rw [hgroup, if_neg he]
    refine ⟨healths_followDrive_checked u r _ hu hd, by simpa using hu, fun i f hf => ?_⟩
    rw [followDrive_fans u r _ hu, List.getElem?_map, show u.fans[i]? = some f from hf, Option.map_some]
    split
    · rw [FanChannel.follow_checked _ _ _ hd]
      exact ⟨_, rfl⟩
    · exact ⟨f.output, rfl⟩

/-- Where the channels of a role give another condition, they have its drive's output after it has been taken. -/
theorem judgeGroup_changed_outputsAt (s : State) (r : Nat) (role : Role) (hr : s.roles[r]? = some role)
    (h : groupCondition (s.healths r) ≠ role.drive.condition) : (s.judgeGroup r).OutputsAt r := by
  have hgroup : s.judgeGroup r
      = (s.modDrive r (Drive.takeCondition s.now role.cfg (groupCondition (s.healths r)))).followDrive r := by
    simp [judgeGroup, hr, h]
  rw [hgroup]
  exact followDrive_outputsAt _ r _ (modDrive_get_self s r _ role hr)

end State
end Sys2Proof.Machine
end

section
/-! SUPPORT. A measurement and the end of its event (R27 to R31, R42 to R45). -/

namespace Sys2Proof.Machine

/-- The run that a measurement extends or begins, and the health that follows from it (R29). -/
theorem FanChannel.judged_run (now : Nat) (edges : List Nat) (f : FanChannel) :
    let below := decide (tachSpeed f.cfg.pulses edges < f.cfg.minSpeed)
    ∃ since, (f.judged now edges).run = some ⟨below, since⟩
      ∧ (∀ run, f.run = some run → run.below = below → since = run.since)
      ∧ ((∀ run, f.run = some run → run.below ≠ below) → since = now)
      ∧ (f.judged now edges).health = nextFanHealth now below ⟨below, since⟩ f.health := by
  intro below
  have hrun : nextRun now below f.run = ⟨below, (nextRun now below f.run).since⟩ :=
    congrArg (Run.mk · (nextRun now below f.run).since) (nextRun_below now below f.run)
  refine ⟨(nextRun now below f.run).since, congrArg some hrun, fun run hr hb => ?_, fun hne => ?_, ?_⟩
  · simp [nextRun, hr, hb]
  · cases hr : f.run with
    | none => rfl
    | some run => simp [nextRun, hne run hr]
  · exact congrArg (nextFanHealth now below · f.health) hrun

/-- The mark of a fault that has been reported (R30). -/
theorem FanChannel.judged_faultReported (now : Nat) (edges : List Nat) (f : FanChannel) :
    (f.judged now edges).faultReported
      = ((f.judged now edges).health = .failed || ((f.judged now edges).health != .ok && f.faultReported)) := by
  have hmark : (f.judged now edges).faultReported = match (f.judged now edges).health with
      | .failed => true
      | .ok => false
      | .unchecked | .slow => f.faultReported := rfl
  rw [hmark]
  cases (f.judged now edges).health <;> simp

/-- A drive after its channels have given a condition, at the end of the event (R31, R42 to R45). -/
theorem Drive.judged_rule (now : Nat) (cfg : RoleCfg) (c : Condition) (d : Drive) (htells : d.Tells) (hs : d.statusDue = false) :
    let new := (d.judged now cfg c).flushed now
    new.condition = c ∧ new.causes = { d.causes with groupFailed := decide (new.condition = .failed) }
      ∧ CausesTaken now cfg d new ∧ (new.condition = d.condition → new = d) := by
  unfold Drive.judged
  split
  · next he =>
    rw [d.flushed_of_settled now hs]
    refine ⟨he.symm, (d.causes.with_groupFailed _ ?_).symm, .refl now cfg d, fun _ => rfl⟩
    exact Bool.eq_iff_iff.mpr (htells.trans decide_eq_true_iff.symm)
  · next he =>
    have hflushed := Drive.eq_of_unreported ((d.takeCondition now cfg c).flushed_unreported now)
    have hcausesKept := congrArg Drive.causes hflushed
    have hcondition := (Drive.flushed_condition now (d.takeCondition now cfg c)).trans (d.takeCondition_condition now cfg c)
    refine ⟨hcondition, ?_, (d.takeCondition_taken now cfg c).flushed now, fun hkept => absurd (hcondition.symm.trans hkept) he⟩
    rw [hcondition]
    refine hcausesKept.trans ((d.takeCondition_causes now cfg c).trans ?_)
    cases c <;> rfl

namespace State

@[simp] theorem withJudged_kept (s : State) (i : Nat) (f : FanChannel) (edges : List Nat) :
    (s.withJudged i f edges).fans = s.fans.set i (f.judged s.now edges) ∧ (s.withJudged i f edges).roles = s.roles
      ∧ (s.withJudged i f edges).now = s.now ∧ (s.withJudged i f edges).ctl = s.ctl ∧ (s.withJudged i f edges).txq = s.txq
      ∧ (s.withJudged i f edges).stamp = s.stamp := by
  simp [withJudged]

/-- FAN_FAULT or FAN_RECOVERED of a measurement (R30). -/
theorem withJudged_notices (s : State) (i : Nat) (f : FanChannel) (edges : List Nat) :
    (s.withJudged i f edges).notices =
      if (f.judged s.now edges).health = .failed ∧ f.faultReported = false then
        s.notices.push s.timeBase .fanFault i (some (tachSpeed f.cfg.pulses edges : Int))
      else if (f.judged s.now edges).health = .ok ∧ f.faultReported = true then
        s.notices.push s.timeBase .fanRecovered i (some (tachSpeed f.cfg.pulses edges : Int))
      else s.notices := by
  unfold withJudged postFan
  rw [apply_ite State.notices, apply_ite State.notices]
  rfl

/-- A measurement of a checked channel, with the end of its event: what becomes of the channel, of its role, and of the notices. -/
structure JudgedEnd (s t : State) (i r : Nat) (f : FanChannel) (edges : List Nat) (role role' : Role) : Prop where
  channel : ∃ out, t.fans[i]? = some { f.judged s.now edges with output := out }
  get : t.roles[r]? = some role'
  after : role' = { role with drive := (role.drive.judged s.now role.cfg (groupCondition (t.healths r))).flushed s.now }
  reported : role'.drive.condition ≠ role.drive.condition → DriveReported s t (s.txq.length < 8) r role'
  others : ∀ q, q ≠ r → t.roles[q]? = s.roles[q]?
  notices : s.txq.length < 8 → t.notices = (s.withJudged i f edges).notices

theorem measureFan_judgedEnd (s : State) (i r : Nat) (f : FanChannel) (edges : List Nat) (role : Role) (hf : s.fans[i]? = some f)
    (hsettled : Settled s) (hrole : f.role = some r) (hr : s.roles[r]? = some role) (hc : role.drive.checks role.cfg = true)
    (hl : role.cfg.checkLevel ≤ 100) : ∃ role', JudgedEnd s (s.measureFan i f edges).finish i r f edges role role' := by
  let w := s.withJudged i f edges
  have hw : w.roles = s.roles ∧ w.now = s.now ∧ w.fans = s.fans.set i (f.judged s.now edges) := by simp [w]
  obtain ⟨hwroles, hwnow, hwfans⟩ := hw
  have hwr : w.roles[r]? = some role := hwroles ▸ hr
  obtain ⟨hhealths, hget, hfans⟩ := w.judgeGroup_checked r role hwr hc hl
  have hchannel := hfans i (f.judged s.now edges)
    (by rw [hwfans, List.getElem?_set_self (List.getElem?_eq_some_iff.mp hf).1])
  have hmeasured : s.measureFan i f edges = w.judgeGroup r :=
    s.measureFan_checked i r f edges ((s.checked_of_role f r role hrole hr).trans hc) hrole
  rw [hmeasured]
  let g := w.judgeGroup r
  have hgnow : g.now = s.now := by simp [g, hwnow]
  have hothers : g.OthersSettled r :=
    othersSettled_of_get r hsettled fun q hq => (w.judgeGroup_get_other r q hq).trans (by rw [hwroles])
  have hlt : r < g.roles.length := (List.getElem?_eq_some_iff.mp hget).1
  have hfinished := g.finish_get r _ hget
  have hsame : g.finish.healths r = w.healths r := by simpa [healths] using hhealths
  have hgtxq : g.txq = s.txq := by simp [g, w]
  refine ⟨_, by simpa using hchannel, hfinished, ?_, fun hne => ?_, fun q hq => ?_, fun hroom => ?_⟩
  · rw [hsame, hwnow, hgnow]
  · have hchanged : groupCondition (w.healths r) ≠ role.drive.condition := fun he => hne (by simp [Drive.judged, he])
    have htaken : role.drive.judged w.now role.cfg (groupCondition (w.healths r))
        = role.drive.takeCondition w.now role.cfg (groupCondition (w.healths r)) := if_neg hchanged
    have hdriven : (role.drive.judged w.now role.cfg (groupCondition (w.healths r))).state ≠ .released := by
      intro hs
      have := Drive.checks_released role.cfg _ hs
      rw [htaken, Drive.takeCondition_checks _ _ _ _ hc hl] at this
      exact nomatch this
    refine driveReported_finish s g r _ _ hget hothers (by simp [g, w]) hgtxq (by simp [g, w]) ?_ hdriven (fun x hx hxr => ?_) hfinished
    · rw [htaken]
      exact Drive.takeCondition_statusDue _ _ _ _
    · have hout := w.judgeGroup_changed_outputsAt r role hwr hchanged x hx hxr
      simpa [outputOf, hget] using hout.symm
  · exact (g.finish_get_other r q hothers hq).trans ((w.judgeGroup_get_other r q hq).trans (by rw [hwroles]))
  · rw [g.finish_single_notices r hlt hothers (by rw [hgtxq]; exact hroom)]
    simp [g, w]

end State
end Sys2Proof.Machine

open Sys2Proof Sys2Proof.Machine

/-- Settles O34: a measurement is of one channel, and the condition that the channels of its role then give acts on one drive. -/
theorem tachMeasured : Obligations.TachMeasured := by
  unfold Obligations.TachMeasured
  refine ⟨fun s i due f edges hf hrun hj hsettled => ?_, fun p e es => ?_, fun pulses edges => ⟨fun hfew => ?_, ?_⟩⟩
  · have hexec : exec (.tachMeasurement i edges) s = .next ((s.until due).measureFan i f edges).finish := by
      show execTachMeasurement i edges s = _
      simp [execTachMeasurement, hf, hrun, onExpiry]
    have hlt : i < s.fans.length := (List.getElem?_eq_some_iff.mp hf).1
    cases hchecked : s.checked f with
    | false =>
      have htimed : ((s.until due).measureFan i f edges).finish
          = { s.until due with fans := s.fans.set i (f.timed (max s.now due) edges) } := by
        rw [(s.until due).measureFan_unchecked i f edges hchecked]
        exact State.finish_settled _ hsettled
      rw [htimed] at hexec
      refine ⟨_, f.timed (max s.now due) edges, hexec, by simp [hlt], rfl, rfl, rfl, rfl, rfl, fun _ => rfl, fun hc => (nomatch hc),
        fun _ _ _ _ hc => (nomatch hc), fun _ _ => rfl, rfl, rfl, rfl, rfl, rfl⟩
    | true =>
      obtain ⟨r, role, hrole, hr, hchecks⟩ := s.role_of_checked f hchecked
      obtain ⟨-, htells, hlevel⟩ := ((judgedOk_iff s).mp hj).2.1 r role hr
      obtain ⟨role', h⟩ := (s.until due).measureFan_judgedEnd i r f edges role hf hsettled hrole hr hchecks hlevel
      obtain ⟨out, hchannel⟩ := h.channel
      obtain ⟨since, hjudgedRun, hextends, hbegins, hhealth⟩ := f.judged_run (max s.now due) edges
      refine ⟨_, _, hexec, hchannel, by simp [State.until], rfl, rfl, rfl, rfl, fun hc => (nomatch hc),
        fun _ => ⟨since, hjudgedRun, hextends, hbegins, ?_, ?_, fun hroom => ?_⟩, fun q x hq hx _ => ?_, fun q hq => ?_, ?_⟩
      · refine hhealth.trans ?_
        generalize decide (tachSpeed f.cfg.pulses edges < f.cfg.minSpeed) = below
        cases f.health with
        | unchecked => cases below <;> rfl
        | ok => cases below <;> rfl
        | slow => cases below <;> simp [nextFanHealth, Nat.add_comm]
        | failed => cases below <;> simp [nextFanHealth, Nat.add_comm]
      · exact f.judged_faultReported (max s.now due) edges
      · exact (h.notices hroom).trans (State.withJudged_notices (s.until due) i f edges)
      · obtain rfl : r = q := Option.some.inj (hrole.symm.trans hq)
        obtain rfl : role = x := Option.some.inj (hr.symm.trans hx)
        obtain ⟨hcondition, hcauses, htaken, hsame⟩ := role.drive.judged_rule (max s.now due) role.cfg
          (groupCondition (((s.until due).measureFan i f edges).finish.healths r)) htells
          (hsettled role (List.mem_of_getElem? hr))
        refine ⟨role', h.get, ?_⟩
        obtain ⟨-, -, hafter, hreported, -, -⟩ := h
        subst hafter
        refine ⟨rfl, rfl, rfl, hcondition, hcauses, htaken, fun hkept => ?_, hreported⟩
        exact congrArg (fun d => { role with drive := d }) (hsame hkept)
      · exact h.others q fun he => hq (he ▸ hrole)
      · simp [State.until]
  · refine ⟨⟨rfl, rfl⟩, rfl, fun hnear => ?_, fun hfar => ?_⟩
    · simp [recordedEdges, hnear]
    · simp [recordedEdges, Nat.not_lt.mpr hfar]
  · simp [tachSpeed, hfew]
  · intro first last hfirst hlast htwo hpulses
    obtain ⟨hbefore, hspeed⟩ := tachSpeed_of_recorded pulses edges first last hfirst hlast htwo
    have hpos : 0 < (last - first) * pulses := Nat.mul_pos (Nat.sub_pos_of_lt hbefore) hpulses
    exact ⟨hbefore, _, Nat.div_mul_le_self _ _, Nat.lt_mul_of_div_lt (Nat.lt_succ_self _) hpos, hspeed⟩

end

section
/-! SUPPORT. One channel's part of a round (R79 to R85): its notices, and the cause that its entry into CRITICAL gives to every role. -/

namespace Sys2Proof.Machine

/-! ### Notices -/

/-- Notices of one subject, posted one after another at one instant. -/
def Notices.pushEach (q : Notices) (time subject : Nat) (xs : List (NoticeKind × Option Int)) : Notices :=
  xs.foldl (fun n x => n.push time x.1 subject x.2) q

theorem Notices.pushEach_append (q : Notices) (time subject : Nat) (xs ys : List (NoticeKind × Option Int)) :
    q.pushEach time subject (xs ++ ys) = (q.pushEach time subject xs).pushEach time subject ys :=
  List.foldl_append

/-- The health notice of a round (R80). -/
def TempChannel.healthNotices (before after : TempChannel) : List (NoticeKind × Option Int) :=
  if before.health = .valid then
    match after.health with
    | .valid => []
    | .openCircuit => [(.channelFault, some 1)]
    | .shorted => [(.channelFault, some 2)]
  else if after.health = .valid then [(.channelRecovered, after.reading)] else []

/-- The watch notice of a round (R83). -/
def TempChannel.watchNotices (before after : TempChannel) : List (NoticeKind × Option Int) :=
  if before.watch = .below ∧ after.watch = .above then
    match before.cfg.mode with
    | .quiet => []
    | .rise => if before.latch then [] else [(.limitRise, after.reading)]
    | .riseFall => [(.limitRise, after.reading)]
  else if before.watch = .above ∧ after.watch = .below ∧ before.cfg.mode = .riseFall then [(.limitFall, after.reading)] else []

namespace State

theorem postHealth_notices (s : State) (i : Nat) (before after : TempChannel) :
    (s.postHealth i before after).notices = s.notices.pushEach s.timeBase i (before.healthNotices after) := by
  unfold postHealth TempChannel.healthNotices
  by_cases hb : before.health = .valid
  · cases ha : after.health <;> simp [hb, healthCode, post, Notices.pushEach]
  · by_cases ha : after.health = .valid
    · simp [hb, ha, post, Notices.pushEach]
    · simp [hb, ha, Notices.pushEach]

theorem postWatch_notices (s : State) (i : Nat) (before after : TempChannel) :
    (s.postWatch i before after).notices = s.notices.pushEach s.timeBase i (before.watchNotices after) := by
  unfold postWatch TempChannel.watchNotices
  cases hb : before.watch with
  | below =>
    cases ha : after.watch with
    | below => simp [Notices.pushEach]
    | above =>
      cases before.cfg.mode with
      | quiet => simp [Notices.pushEach]
      | rise => cases before.latch <;> simp [post, Notices.pushEach]
      | riseFall => simp [post, Notices.pushEach]
  | above =>
    cases ha : after.watch with
    | above => simp [Notices.pushEach]
    | below => cases before.cfg.mode <;> simp [post, Notices.pushEach]

/-- The state after a channel has taken its measurement and told of its health and its watch, before an entry into CRITICAL. -/
def roundTold (s : State) (i : Nat) (c after : TempChannel) : State :=
  ((s.modTemp i (fun _ => after)).postHealth i c after).postWatch i c after

theorem roundTold_notices (s : State) (i : Nat) (c after : TempChannel) :
    (s.roundTold i c after).notices = s.notices.pushEach s.timeBase i (c.healthNotices after ++ c.watchNotices after) := by
  have htime : ((s.modTemp i (fun _ => after)).postHealth i c after).timeBase = s.timeBase := by simp [timeBase]
  rw [Notices.pushEach_append, roundTold, postWatch_notices, postHealth_notices, htime]
  rfl

@[simp] theorem roundTold_frame (s : State) (i : Nat) (c after : TempChannel) :
    (s.roundTold i c after).now = s.now ∧ (s.roundTold i c after).ctl = s.ctl ∧ (s.roundTold i c after).demand = s.demand
      ∧ (s.roundTold i c after).peers = s.peers ∧ (s.roundTold i c after).throttle = s.throttle
      ∧ (s.roundTold i c after).badCount = s.badCount ∧ (s.roundTold i c after).roles = s.roles
      ∧ (s.roundTold i c after).fans = s.fans ∧ (s.roundTold i c after).txq = s.txq ∧ (s.roundTold i c after).line = s.line
      ∧ (s.roundTold i c after).stamp = s.stamp ∧ (s.roundTold i c after).shutdown = s.shutdown := by
  simp [roundTold]

/-! ### A cause at every role -/

/-- A change of causes at a judged role whose channels can be checked at a full level: the condition stays as it is. -/
theorem driveEvent_setCauses_judged (s : State) (r : Nat) (role : Role) (f : Causes → Causes) (hr : s.roles[r]? = some role)
    (hj : RoleJudged s r role) (hl : role.cfg.checkLevel ≤ 100) :
    (s.driveEvent r (fun cfg d => d.setCauses s.now cfg (f d.causes))).roles[r]?
      = some { role with drive := role.drive.setCauses s.now role.cfg (f role.drive.causes) } := by
  rw [driveEvent_get_self s r _ role hr, s.condition_after_event r role (fun d => d.setCauses s.now role.cfg (f d.causes)) hr hj]
  dsimp only
  refine congrArg (fun d => some { role with drive := d }) (if_pos ?_)
  rw [Drive.setCauses_condition]
  split
  · rfl
  · next hd =>
    refine (hj.normal (Bool.eq_false_iff.mpr fun hc => hd ?_)).symm
    exact Drive.setCauses_checks s.now role.cfg _ role.drive hc hl

/-- What every role has after a change of all sets of causes, at a judged role: its drive takes it, and its channels have its output. -/
theorem setCausesAll_judged (s : State) (r : Nat) (role : Role) (f : Causes → Causes) (hr : s.roles[r]? = some role)
    (hj : RoleJudged s r role) (hl : role.cfg.checkLevel ≤ 100) :
    (s.setCausesAll f).roles[r]? = some { role with drive := role.drive.setCauses s.now role.cfg (f role.drive.causes) }
      ∧ ∀ g ∈ (s.setCausesAll f).fans, g.role = some r →
          g.output = (role.drive.setCauses s.now role.cfg (f role.drive.causes)).output := by
  let act : State → Nat → State := fun u q => u.driveEvent q (fun cfg d => d.setCauses u.now cfg (f d.causes))
  have hother (v : State) (q : Nat) (hq : q ≠ r) : (act v q).roles[r]? = v.roles[r]? ∧ (act v q).fansOf r = v.fansOf r :=
    ⟨v.driveEvent_get_other q r _ hq.symm, v.driveEvent_fansOf_other r q _ hq⟩
  obtain ⟨before, after, he, hb, ha, -⟩ := forRoles_split act s r (List.getElem?_eq_some_iff.mp hr).1
  obtain ⟨hur, huf, hun⟩ : (before.foldl act s).roles[r]? = some role ∧ (before.foldl act s).fansOf r = s.fansOf r
      ∧ (before.foldl act s).now = s.now :=
    foldl_keeps_beside (fun u => u.roles[r]? = some role ∧ u.fansOf r = s.fansOf r ∧ u.now = s.now) act r
      (fun v q hq ⟨hvr, hvf, hvn⟩ => ⟨(hother v q hq).1.trans hvr, (hother v q hq).2.trans hvf, by simpa [act] using hvn⟩)
      before hb s ⟨hr, rfl, rfl⟩
  generalize before.foldl act s = u at he hur huf hun
  have huj : RoleJudged u r role := by
    unfold RoleJudged
    rw [healths_eq, huf, ← healths_eq]
    exact hj
  have hself : (act u r).roles[r]? = some { role with drive := role.drive.setCauses s.now role.cfg (f role.drive.causes) } := by
    rw [← hun]
    exact u.driveEvent_setCauses_judged r role f hur huj hl
  have hout := u.driveEvent_outputsAt r (fun cfg d => d.setCauses u.now cfg (f d.causes)) role hur
  obtain ⟨hroles, hfans⟩ : (s.setCausesAll f).roles[r]? = (act u r).roles[r]? ∧ (s.setCausesAll f).fansOf r = (act u r).fansOf r := by
    rw [show s.setCausesAll f = _ from he]
    exact foldl_keeps_beside (fun v => v.roles[r]? = (act u r).roles[r]? ∧ v.fansOf r = (act u r).fansOf r) act r
      (fun v q hq ⟨hvr, hvf⟩ => ⟨(hother v q hq).1.trans hvr, (hother v q hq).2.trans hvf⟩) after ha _ ⟨rfl, rfl⟩
  refine ⟨hroles.trans hself, fun g hg hrole => ?_⟩
  have hmem : g ∈ (act u r).fansOf r := hfans ▸ List.mem_filter.mpr ⟨hg, by simpa using hrole⟩
  have hg' := hout g (List.mem_filter.mp hmem).1 hrole
  rw [outputOf, hself] at hg'
  exact (Option.some.inj hg').symm

/-! ### The entry into CRITICAL (R85) -/

/-- CRITICAL posted, SHUTDOWN asserted, and the cause added to every role. -/
def criticalCaused (s : State) (i : Nat) (reading : Option Int) : State :=
  setCausesAll { s.post .critical i reading with shutdown := true } (fun k => { k with critical := true })

/-- No frame coalesces with an ALERT (R143). -/
theorem any_coalesces_alert (s : State) (kind : AlertKind) (subject : Nat) (v : Int) :
    s.txq.any (coalesces (.alert kind subject v)) = false :=
  List.any_eq_false.mpr fun _ _ => by simp [coalesces]

/-- With room for its ALERT, an entry into CRITICAL changes after the causes the queue and the channel's timer alone. -/
theorem enterCritical_kept (s : State) (i : Nat) (reading : Option Int) (hroom : s.transmits = true → s.txq.length < 8) :
    (s.enterCritical i reading).roles = (s.criticalCaused i reading).roles
      ∧ (s.enterCritical i reading).fans = (s.criticalCaused i reading).fans
      ∧ (s.enterCritical i reading).notices = s.notices.push s.timeBase .critical i reading
      ∧ (s.transmits = true → Queued (s.enterCritical i reading) s.stamp (.alert .critical i (reading.getD 0))) := by
  have hsends : (s.criticalCaused i reading).transmits = s.transmits := transmits_of_ctl (by simp [criticalCaused])
  have hqueue : (s.criticalCaused i reading).txq = s.txq ∧ (s.criticalCaused i reading).stamp = s.stamp
      ∧ (s.criticalCaused i reading).notices = s.notices.push s.timeBase .critical i reading := by simp [criticalCaused, post]
  obtain ⟨htxq, hstamp, hnotices⟩ := hqueue
  have hunfolded : s.enterCritical i reading = if (s.criticalCaused i reading).transmits then
      ((s.criticalCaused i reading).modTemp i (fun c => { c with repeatTimer := .running ((s.criticalCaused i reading).now + 5000) })).offer
        (.alert .critical i (reading.getD 0))
      else s.criticalCaused i reading := rfl
  rw [hunfolded]
  split
  · next ht =>
    generalize hv : (s.criticalCaused i reading).modTemp i
      (fun c => { c with repeatTimer := .running ((s.criticalCaused i reading).now + 5000) }) = v
    have hkept : v.roles = (s.criticalCaused i reading).roles ∧ v.fans = (s.criticalCaused i reading).fans
        ∧ v.notices = (s.criticalCaused i reading).notices ∧ v.txq = s.txq ∧ v.stamp = s.stamp
        ∧ v.ctl = (s.criticalCaused i reading).ctl := by
      rw [← hv]
      exact ⟨rfl, rfl, rfl, htxq, hstamp, rfl⟩
    obtain ⟨hvroles, hvfans, hvnotices, hvtxq, hvstamp, hvctl⟩ := hkept
    have hlength : v.txq.length < 8 := hvtxq ▸ hroom (hsends ▸ ht)
    have hofferFans : (v.offer (.alert .critical i (reading.getD 0))).fans = v.fans := by simp
    obtain ⟨hroles, hposted, -, -⟩ := v.offer_with_room (.alert .critical i (reading.getD 0)) hlength
    refine ⟨hroles.trans hvroles, hofferFans.trans hvfans, hposted.trans (hvnotices.trans hnotices), fun _ => ?_⟩
    rw [offer_room v _ ((transmits_of_ctl hvctl).trans ht) (v.any_coalesces_alert _ _ _) hlength, ← hvstamp]
    exact enter_queued v _
  · next ht => exact ⟨rfl, rfl, hnotices, fun hs => absurd (hsends.trans hs) ht⟩

/-- An entry into CRITICAL asserts SHUTDOWN (R119). -/
theorem enterCritical_shutdown (s : State) (i : Nat) (reading : Option Int) : (s.enterCritical i reading).shutdown = true := by
  unfold enterCritical
  dsimp only
  split <;> simp

theorem takeChannel_entering (s : State) (ms : List Measurement) (i : Nat) (c : TempChannel) (hc : s.temps[i]? = some c)
    (hused : c.used = true) (h : c.critical = false ∧ (c.round (ms.getD i .openCircuit)).critical = true) :
    s.takeChannel ms i = (s.roundTold i c (c.round (ms.getD i .openCircuit))).enterCritical i
      (c.round (ms.getD i .openCircuit)).reading := by
  unfold takeChannel
  rw [hc]
  dsimp only
  rw [if_pos hused, if_pos h.symm]
  rfl

theorem takeChannel_calm (s : State) (ms : List Measurement) (i : Nat) (c : TempChannel) (hc : s.temps[i]? = some c)
    (hused : c.used = true) (h : ¬(c.critical = false ∧ (c.round (ms.getD i .openCircuit)).critical = true)) :
    s.takeChannel ms i = s.roundTold i c (c.round (ms.getD i .openCircuit)) := by
  unfold takeChannel
  rw [hc]
  dsimp only
  rw [if_pos hused, if_neg fun h' => h h'.symm]
  rfl

end State

/-- A new cause at a driven role that was not in FAILSAFE: the drive enters FAILSAFE, and its STATUS is due (R43). -/
theorem Drive.setCauses_enters (now : Nat) (cfg : RoleCfg) (causes : Causes) (d : Drive) (hc : causes ≠ d.causes)
    (he : causes.empty = false) (hr : d.state ≠ .released) (hf : d.state ≠ .failsafe) :
    (d.setCauses now cfg causes).statusDue = true := by
  unfold Drive.setCauses
  rw [if_neg hc]
  cases hs : d.state with
  | released => exact absurd hs hr
  | failsafe => exact absurd hs hf
  | tracking => simp [he, Drive.enterFailsafe]
  | stopped => simp [he, Drive.enterFailsafe]
  | spinUp => simp [he, Drive.enterFailsafe]

end Sys2Proof.Machine

open Sys2Proof Sys2Proof.Machine

/-- Settles O22: the notices are posted before the causes change, and the causes change before the ALERT is offered. -/
theorem channelNotices : Obligations.ChannelNotices := by
  unfold Obligations.ChannelNotices
  intro s ms i c hc hused hroom
  generalize ha : c.round (ms.getD i .openCircuit) = a
  let u := s.roundTold i c a
  have hnotices : u.notices = s.notices.pushEach s.timeBase i (c.healthNotices a ++ c.watchNotices a) := s.roundTold_notices i c a
  by_cases henters : c.critical = false ∧ a.critical = true
  · have htaken : s.takeChannel ms i = u.enterCritical i a.reading := by
      have := s.takeChannel_entering ms i c hc hused (by rwa [ha])
      rwa [ha] at this
    have hu : u.txq = s.txq ∧ u.ctl = s.ctl ∧ u.stamp = s.stamp ∧ u.roles = s.roles ∧ u.fans = s.fans ∧ u.now = s.now := by simp [u]
    obtain ⟨htxq, hctl, hstamp, hroles, hfans, hnow⟩ := hu
    have hsends : u.transmits = s.transmits := transmits_of_ctl hctl
    have htime : u.timeBase = s.timeBase := by simp [State.timeBase, hctl, hnow]
    obtain ⟨hcausedRoles, hcausedFans, hposted, halert⟩ := u.enterCritical_kept i a.reading (by rwa [hsends, htxq])
    dsimp only
    rw [htaken]
    refine ⟨?_, ?_, fun _ => ?_, fun _ hj r role hr => ?_, fun _ ht => ?_, fun hcalm => absurd henters hcalm, ?_⟩
    · rw [if_pos henters, hposted, htime, hnotices]
      exact (Notices.pushEach_append _ _ _ _ [(.critical, a.reading)]).symm
    · exact iff_of_true (u.enterCritical_shutdown i a.reading) (.inr henters)
    · rw [hcausedRoles]
      refine State.setCausesAll_roles (Q := fun role => role.drive.causes.critical = true) (fun role now c h => ?_) _ _ fun role _ now => ?_
      · simpa using h
      · simp
    · obtain ⟨-, htold, -, -⟩ := (judgedOk_iff s).mp hj
      obtain ⟨-, -, hlevel⟩ := htold r role hr
      let v : State := { u.post .critical i a.reading with shutdown := true }
      have hjv : RoleJudged v r role := by
        have hrole := hj.role r role hr
        unfold RoleJudged State.healths at hrole ⊢
        rwa [show v.fans = s.fans from hfans]
      have hrv : v.roles[r]? = some role := by rw [show v.roles = s.roles from hroles]; exact hr
      obtain ⟨hget, hout⟩ := v.setCausesAll_judged r role (fun k => { k with critical := true }) hrv hjv hlevel
      rw [show v.now = s.now from hnow] at hget hout
      refine ⟨_, (congrArg (·[r]?) hcausedRoles).trans hget, rfl, rfl, rfl, ?_, ?_, ?_, fun hdriven f hf hrole => ?_,
        fun hnew hdriven hfree => ?_⟩
      · exact Drive.setCauses_causes _ _ _ _
      · exact Drive.setCauses_condition _ _ _ _
      · exact Drive.setCauses_taken _ _ _ _
      · rw [hcausedFans] at hf
        rw [hout f hf hrole]
        exact Drive.output_driven _ (mt (Drive.setCauses_released _ _ _ _).mp hdriven)
      · refine Drive.setCauses_enters _ _ _ _ (fun he => ?_) (by simp [Causes.empty]) hdriven hfree
        rw [← he] at hnew
        exact nomatch hnew
    · rw [← hstamp]
      exact halert (hsends.trans ht)
    · simp [u]
  · have htaken : s.takeChannel ms i = u := by
      have := s.takeChannel_calm ms i c hc hused (by rwa [ha])
      rwa [ha] at this
    dsimp only
    rw [htaken, if_neg henters]
    refine ⟨?_, ?_, fun h => absurd h henters, fun h => absurd h henters, fun h => absurd h henters, fun _ => ?_, ?_⟩
    · rw [hnotices, List.append_nil]
      rfl
    · simp [u, henters]
    · simp [u]
    · simp [u]

end

section
/-! SUPPORT. Frames that the Drivership Unit offers at the expiry of one of its timers, and the end of that event (R45, R52, R58, R60, R147). -/

namespace Sys2Proof.Machine

/-- An offer makes no STATUS due: a discard is told to a role record alone (R147). -/
theorem settled_offer {s : State} (hs : Settled s) (p : Payload) : Settled (s.offer p) := by
  have hdue : (s.offer p).roles.map (·.drive.statusDue) = s.roles.map (·.drive.statusDue) := State.offer_map _ (fun _ _ => rfl) s p
  have hall (u : State) : Settled u ↔ ∀ b ∈ u.roles.map (·.drive.statusDue), b = false := by simp [Settled]
  rwa [hall, hdue, ← hall]

namespace State

/-- A role record changes and a frame is offered: at a settled station the event ends with that. -/
theorem modShip_offer_finish (s : State) (r : Nat) (f : Ship → Ship) (p : Payload) (hs : Settled s) :
    ((s.modShip r f).offer p).finish = (s.modShip r f).offer p :=
  finish_settled _ (settled_offer (settled_modShip s r f hs) p)

/-- A role queues a TAKEOVER after a change of its record (R52). -/
theorem modShip_queueTakeover (s : State) (r : Nat) (f : Ship → Ship) (role : Role) (h : s.roles[r]? = some role) :
    (s.modShip r f).queueTakeover r = (s.modShip r f).offer (.takeover role.cfg.group (nextEpoch (f role.ship).known)) := by
  simp [queueTakeover, h]

/-- Out of isolation a role queues a HANDBACK after a change of its record, and its attempt count rises (R58). -/
theorem modShip_queueHandback (s : State) (r : Nat) (f : Ship → Ship) (role : Role) (h : s.roles[r]? = some role)
    (hi : s.peers.isolated = false) :
    (s.modShip r f).queueHandback r = (s.modShip r (fun sh => { f sh with attempts := (f sh).attempts + 1 })).offer
      (.handback role.cfg.group (((f role.ship).other.map (·.2)).getD 0)) := by
  simp [queueHandback, h, hi, modShip_modShip]

/-- While the station is ISOLATED a role queues no HANDBACK (R69). -/
theorem queueHandback_isolated (s : State) (r : Nat) (hi : s.peers.isolated = true) : s.queueHandback r = s := by
  unfold queueHandback
  split
  · rfl
  · rw [if_pos hi]

/-- A withdrawal and a change of a role record do not meet. -/
theorem modShip_withdraw (s : State) (r : Nat) (f : Ship → Ship) (k : FrameKind) (g : Nat) :
    (s.modShip r f).withdraw k g = (s.withdraw k g).modShip r f := rfl

/-- A takeover is forced after a change of the role's record (R60). -/
theorem modShip_forceTakeover (s : State) (r : Nat) (f : Ship → Ship) (mark : Forcing) (role : Role) (h : s.roles[r]? = some role) :
    (s.modShip r f).forceTakeover r mark
      = (s.modShip r (fun sh => { f sh with machine := .reclaim, forcing := mark, hold := .stopped, wait := .stopped })).offer
          (.takeover role.cfg.group (nextEpoch (f role.ship).known)) := by
  rw [forceTakeover, modShip_modShip, modShip_queueTakeover _ _ _ _ h]

end State
end Sys2Proof.Machine

open Sys2Proof Sys2Proof.Machine

/-- Settles O38: each expiry is a change of one role record, and after it, where the rules call for one, the offer of a TAKEOVER
with which the event ends. -/
theorem silenceTimersRunOut : Obligations.SilenceTimersRunOut := by
  unfold Obligations.SilenceTimersRunOut
  refine ⟨fun s r due role hr hrun hs => ?_, fun s r due role hr hrun hs => ?_⟩
  · have hexec : exec (.silenceTimerExpiry r) s = execSilenceTimerExpiry r s := rfl
    refine ⟨fun hrunning => ?_, fun hjoining => ?_⟩
    · have hclaim := State.modShip_queueTakeover (s.until due) r
        (fun sh => { sh with machine := .claiming, silence := .stopped, pendingExpiry := false }) role hr
      simp only [hexec, execSilenceTimerExpiry, hr, hrun, onExpiry, State.until_ctl, hrunning, State.claimGroup, hclaim]
      exact congrArg _ (State.modShip_offer_finish (s.until due) r _ _ hs)
    · simp only [hexec, execSilenceTimerExpiry, hr, hrun, onExpiry, State.until_ctl, hjoining]
      rfl
  · have hexec : exec (.otherSilenceExpiry r) s = execOtherSilenceExpiry r s := rfl
    have hforce := State.modShip_forceTakeover ((s.until due).withdraw .handback role.cfg.group) r
      (fun sh => { sh with otherSilence := .stopped }) .silence role hr
    have hends := State.modShip_offer_finish ((s.until due).withdraw .handback role.cfg.group) r (fun sh =>
      { sh with otherSilence := .stopped, machine := .reclaim, forcing := .silence, hold := .stopped, wait := .stopped })
      (.takeover role.cfg.group (nextEpoch role.ship.known)) hs
    refine ⟨fun hlisten => ?_, fun hforced => ?_, fun hreclaim hmarked => ?_⟩
    · simp only [hexec, execOtherSilenceExpiry, hr, hrun, onExpiry, hlisten, State.modShip_modShip]
      rfl
    · rcases hforced with hdisplaced | ⟨hreclaim, hclear⟩
      · simp only [hexec, execOtherSilenceExpiry, hr, hrun, onExpiry, hdisplaced, State.modShip_withdraw, hforce]
        exact congrArg _ hends
      · simp only [hexec, execOtherSilenceExpiry, hr, hrun, onExpiry, hreclaim, hclear, if_true, State.modShip_withdraw, hforce]
        exact congrArg _ hends
    · simp only [hexec, execOtherSilenceExpiry, hr, hrun, onExpiry, hreclaim, hmarked, if_false]
      rfl

/-- Settles O39: each expiry is a change of one role record and the offer of a HANDBACK or a TAKEOVER with which the event ends. -/
theorem reclaimAsks : Obligations.ReclaimAsks := by
  unfold Obligations.ReclaimAsks
  intro s r due n e role hr hother hs
  refine ⟨fun hrun => ?_, fun hrun => ?_⟩
  · have hexec : exec (.displacedHoldExpiry r) s = execDisplacedHoldExpiry r s := rfl
    refine ⟨fun hconnected => ?_, fun hisolated => ?_⟩
    · have hask := State.modShip_queueHandback (s.until due) r
        (fun sh => { sh with machine := .reclaim, attempts := 0, hold := .stopped }) role hr hconnected
      simp only [hexec, execDisplacedHoldExpiry, hr, hrun, onExpiry, hask, hother]
      exact congrArg _ (State.modShip_offer_finish (s.until due) r _ _ hs)
    · have hnone (f : Ship → Ship) : ((s.until due).modShip r f).queueHandback r = (s.until due).modShip r f :=
        State.queueHandback_isolated _ r hisolated
      simp only [hexec, execDisplacedHoldExpiry, hr, hrun, onExpiry, hnone]
      exact congrArg _ (State.finish_settled _ (settled_modShip (s.until due) r _ hs))
  · have hexec : exec (.handbackWaitExpiry r) s = execHandbackWaitExpiry r s := rfl
    refine ⟨fun hforced => ?_, fun hclear hfew hconnected => ?_, fun hclear hmany => ?_⟩
    · have htake := State.modShip_queueTakeover (s.until due) r (fun sh => { sh with wait := .stopped }) role hr
      simp only [hexec, execHandbackWaitExpiry, hr, hrun, onExpiry, if_pos hforced, htake]
      exact congrArg _ (State.modShip_offer_finish (s.until due) r _ _ hs)
    · have hask := State.modShip_queueHandback (s.until due) r (fun sh => { sh with wait := .stopped }) role hr hconnected
      simp only [hexec, execHandbackWaitExpiry, hr, hrun, onExpiry, hclear, ne_eq, not_true_eq_false, if_false, if_pos hfew, hask, hother]
      exact congrArg _ (State.modShip_offer_finish (s.until due) r _ _ hs)
    · have hforce := State.modShip_forceTakeover (s.until due) r (fun sh => { sh with wait := .stopped }) .attempts role hr
      simp only [hexec, execHandbackWaitExpiry, hr, hrun, onExpiry, hclear, ne_eq, not_true_eq_false, if_false,
        if_neg (Nat.not_lt.mpr hmany), hforce]
      exact congrArg _ (State.modShip_offer_finish (s.until due) r _ _ hs)

end

section
/-! SUPPORT. A role that starts acting, and one that stops, with the end of the event (R33 to R35, R45): role records, drives, channels,
notices and the STATUS. -/

namespace Sys2Proof.Machine

/-! ### Drives -/

@[simp] theorem Drive.startActing_condition (now : Nat) (cfg : RoleCfg) (level : Nat) (d : Drive) :
    (d.startActing now cfg level).condition = d.condition := by
  unfold Drive.startActing; split <;> rfl

@[simp] theorem Drive.startActing_statusDue (now : Nat) (cfg : RoleCfg) (level : Nat) (d : Drive) :
    (d.startActing now cfg level).statusDue = true := by
  unfold Drive.startActing; split <;> rfl

/-- A drive that starts acting is in TRACKING without a cause and in FAILSAFE with one (R34, R43). -/
theorem Drive.startActing_state (now : Nat) (cfg : RoleCfg) (level : Nat) (d : Drive) :
    (d.startActing now cfg level).state = if d.causes.empty then .tracking else .failsafe := by
  unfold Drive.startActing; split <;> rfl

/-- It starts from the given level, and from 100 in FAILSAFE (R34, R43). -/
theorem Drive.startActing_level (now : Nat) (cfg : RoleCfg) (level : Nat) (d : Drive) :
    (d.startActing now cfg level).level = if d.causes.empty then level else 100 := by
  unfold Drive.startActing; split <;> rfl

namespace State

/-! ### A role that stops acting -/

/-- The end of acting calls for no other condition: the channels of the role follow its drive, and nothing more happens (R28, R35). -/
theorem stopActing_eq (s : State) (r : Nat) (role : Role) (h : s.roles[r]? = some role) :
    s.stopActing r = (s.modDrive r Drive.stopActing).followDrive r := by
  let u := s.modDrive r Drive.stopActing
  have hu : u.roles[r]? = some { role with drive := role.drive.stopActing } := modDrive_get_self s r _ role h
  have hnormal : groupCondition ((u.followDrive r).healths r) = role.drive.stopActing.condition :=
    groupCondition_unchecked (healths_followDrive_unchecked u r _ hu rfl)
  have hroles : (u.followDrive r).roles[r]? = some { role with drive := role.drive.stopActing } := by simpa using hu
  show s.driveEvent r (fun _ => Drive.stopActing) = u.followDrive r
  simp only [driveEvent, h]
  show (u.followDrive r).judgeGroup r = u.followDrive r
  simp only [judgeGroup, hroles, hnormal, if_true]

/-- The channels of a role that has stopped acting are released and UNCHECKED (R28, R33, R35). -/
theorem stopActing_fans (s : State) (r : Nat) (role : Role) (h : s.roles[r]? = some role) :
    ∀ f ∈ (s.stopActing r).fans, f.role = some r → f.output = none ∧ f.health = .unchecked := by
  intro f hf hrole
  rw [stopActing_eq s r role h, followDrive_fans _ r _ (modDrive_get_self s r _ role h)] at hf
  obtain ⟨g, -, rfl⟩ := List.mem_map.mp hf
  split at hrole
  · next hg =>
    rw [if_pos hg]
    exact ⟨FanChannel.follow_output .., (FanChannel.follow_unchecked _ _ _ rfl).1⟩
  · next hg => exact absurd hrole hg

/-- A role that stops acting has no STATUS due. -/
theorem settled_stopActing {s : State} (hs : Settled s) (r : Nat) : Settled (s.stopActing r) := by
  refine forall_mem_of_get r (fun q x hne hx => ?_) fun x hx => ?_
  · exact hs x (List.mem_of_getElem? (s.stopActing_get_other r q hne ▸ hx))
  · cases h : s.roles[r]? with
    | none =>
      rw [List.getElem?_eq_none (by rw [stopActing_length]; simpa using h)] at hx
      exact nomatch hx
    | some role =>
      obtain rfl := Option.some.inj ((s.stopActing_get r role h).symm.trans hx)
      rfl

/-! ### A role that starts acting -/

/-- A judged role that starts acting from RELEASED: no channel was checked, so that its condition stays NORMAL (R28, R31, R34). -/
theorem startActing_get (s : State) (r level : Nat) (role : Role) (h : s.roles[r]? = some role) (hj : RoleJudged s r role)
    (hreleased : role.drive.state = .released) :
    (s.startActing r level).roles[r]? = some { role with drive := role.drive.startActing s.now role.cfg level } := by
  have hnormal : role.drive.condition = .normal := hj.normal (role.drive.checks_released role.cfg hreleased)
  have hcondition := s.condition_after_event r role (Drive.startActing s.now role.cfg level) h hj
  rw [hnormal, ite_self] at hcondition
  unfold startActing
  rw [driveEvent_get_self s r _ role h]
  simp only [hcondition, Drive.startActing_condition, hnormal, if_true]

/-- From one state to another nothing changes but the Peer Unit and the notices. -/
def PeersOnly (s t : State) : Prop := t = { s with peers := t.peers, notices := t.notices }

theorem PeersOnly.trans {s t u : State} (h : s.PeersOnly t) (h' : t.PeersOnly u) : s.PeersOnly u := by
  unfold PeersOnly at *
  rw [h', h]

theorem PeersOnly.kept {s t : State} (h : s.PeersOnly t) :
    t.roles = s.roles ∧ t.fans = s.fans ∧ t.txq = s.txq ∧ t.stamp = s.stamp ∧ t.line = s.line ∧ t.now = s.now ∧ t.ctl = s.ctl
      ∧ t.timing = s.timing ∧ t.temps = s.temps ∧ t.demand = s.demand ∧ t.badCount = s.badCount := by
  rw [h]
  exact ⟨rfl, rfl, rfl, rfl, rfl, rfl, rfl, rfl, rfl, rfl, rfl⟩

/-- What a role's start of acting and the end of its event leave: the role record and the drive, the outputs, the other roles, the
notices, and the STATUS where the queue has room (R33, R34, R45). -/
structure ActingStarted (s t : State) (r level : Nat) (role : Role) (ship : Ship) (notices : Notices) : Prop where
  get : t.roles[r]? = some { role with ship := ship, drive := (role.drive.startActing s.now role.cfg level).flushed s.now }
  outputs : ∀ f ∈ t.fans, f.role = some r → f.output = some (if role.drive.causes.empty then level else 100)
  others : ∀ q, q ≠ r → t.roles[q]? = s.roles[q]?
  posted : s.txq.length < 8 → t.notices = notices
  queued : s.transmits = true → s.txq.length < 8 → (∀ x ∈ s.txq, x.isFor .status role.cfg.group = false) →
    ∀ role', t.roles[r]? = some role' → Queued t s.stamp (.status (t.statusContent role'))

/-- A role's record changes, and it starts acting from RELEASED; what the Peer Unit does and what is posted beside has no part in it. -/
theorem actingStarted (s w : State) (r level : Nat) (role : Role) (f : Ship → Ship) (h : s.roles[r]? = some role)
    (hj : RoleJudged s r role) (hs : Settled s) (hreleased : role.drive.state = .released)
    (hw : PeersOnly ((s.modShip r f).startActing r level) w) :
    ActingStarted s w.finish r level role (f role.ship) w.notices := by
  obtain ⟨hroles, hfans, htxq, hstamp, -, hnow, hctl, -⟩ := hw.kept
  have hself : w.roles[r]? = some { role with ship := f role.ship, drive := role.drive.startActing s.now role.cfg level } := by
    rw [hroles]
    exact (s.modShip r f).startActing_get r level _ (s.modShip_get r f role h) hj hreleased
  have hother (q : Nat) (hq : q ≠ r) : w.roles[q]? = s.roles[q]? := by
    rw [hroles]
    exact ((s.modShip r f).driveEvent_get_other r q _ hq).trans (by simp [Ne.symm hq])
  have hsettled : w.OthersSettled r := othersSettled_of_get r hs hother
  have hdriven := (role.drive.startActing_sound s.now role.cfg level).2
  simp only [startActing_frame, modShip_txq, modShip_ctl, modShip_now, modShip_stamp] at htxq hctl hnow hstamp
  have hget := w.finish_get r _ hself
  rw [hnow] at hget
  refine ⟨hget, fun x hx hrole => ?_, fun q hq => (w.finish_get_other r q hsettled hq).trans (hother q hq), fun hroom => ?_,
    fun ht hroom hnone role' hr' => ?_⟩
  · have hout := (s.modShip r f).driveEvent_outputsAt r (fun cfg => Drive.startActing s.now cfg level) _ (s.modShip_get r f role h) x
      (hfans ▸ by simpa using hx) hrole
    have hevent : ((s.modShip r f).driveEvent r (fun cfg => Drive.startActing s.now cfg level)).roles[r]? = _ := hroles ▸ hself
    rw [outputOf, hevent, Option.map_some, Drive.output_driven _ hdriven, Drive.startActing_level] at hout
    exact (Option.some.inj hout).symm
  · exact finish_single_notices w r (List.getElem?_eq_some_iff.mp hself).1 hsettled (by rwa [htxq])
  · rw [← hstamp]
    exact w.finish_single_queued r _ role' hself hsettled ((transmits_of_ctl hctl).trans ht) (Drive.startActing_statusDue ..) hdriven
      (by rwa [htxq]) (by rwa [htxq]) hr'

/-! ### A queue with no frame on the wire -/

theorem coalesce_onWire (p : Payload) (stamp : Nat) (e : QEntry) : (coalesce p stamp e).onWire = e.onWire := by
  unfold coalesce
  repeat' split
  all_goals rfl

/-- On a line that is not IDLE an offered frame waits (R124). -/
theorem offer_waiting (s : State) (p : Payload) (hl : s.line.state ≠ .idle) (hw : ∀ x ∈ s.txq, x.onWire = false) :
    ∀ x ∈ (s.offer p).txq, x.onWire = false := by
  have henter (u : State) (hu : u.line = s.line) (huw : ∀ x ∈ u.txq, x.onWire = false) : ∀ x ∈ (u.enter p).txq, x.onWire = false := by
    intro x hx
    have htxq : (u.enter p).txq = insertEntry ⟨p, u.stamp, 0, false, none⟩ u.txq := by simp [enter, startHead, hu, hl]
    rw [htxq] at hx
    rcases (insertEntry_mem _ _ _).mp hx with rfl | hx
    · rfl
    · exact huw x hx
  unfold offer
  repeat' split
  · exact hw
  · intro x hx
    obtain ⟨e, he, rfl⟩ := List.mem_map.mp hx
    exact (coalesce_onWire p s.stamp e).trans (hw e he)
  · exact henter s rfl hw
  · simp only [discard_frame]
    exact henter _ rfl fun x hx => hw x (List.mem_of_mem_erase hx)
  · simpa using hw

/-- At the end of an event too (R45, R124). -/
theorem finish_waiting (s : State) (hl : s.line.state ≠ .idle) (hw : ∀ x ∈ s.txq, x.onWire = false) :
    ∀ x ∈ s.finish.txq, x.onWire = false := by
  refine (forRoles_keeps (fun u => u.line.state ≠ .idle ∧ ∀ x ∈ u.txq, x.onWire = false) flushRole s (fun u r hu => ?_) ⟨hl, hw⟩).2
  obtain ⟨hul, huw⟩ := hu
  refine ⟨by rwa [flushRole_line u r hul], ?_⟩
  unfold flushRole
  repeat' split
  · exact huw
  · exact huw
  · exact offer_waiting _ _ hul huw
  · exact huw

/-- The role of a group stands for that group. -/
theorem group_of_roleIndex {s : State} {g r : Nat} {role : Role} (hi : s.roleIndex g = some r) (hr : s.roles[r]? = some role) :
    role.cfg.group = g := by
  obtain ⟨hlt, hgroup, -⟩ := List.findIdx?_eq_some_iff_getElem.mp hi
  obtain rfl : s.roles[r] = role := by simpa [List.getElem?_eq_getElem hlt] using hr
  simpa using hgroup

end State
end Sys2Proof.Machine
end

section
/-! A TAKEOVER or a YIELD of the station has been transmitted (R60, R63, R65, R128, R148). -/

open Sys2Proof Sys2Proof.Machine

namespace Sys2Proof.Machine

/-- The own frame on the wire stands in the queue, and one that is no STATUS has no successor (R144). -/
theorem QueueOk.ownFrame {s : State} (h : QueueOk s) {q : QEntry} (hq : s.ownFrame = some q) :
    q ∈ s.txq ∧ q.onWire = true ∧ (payloadKind q.payload ≠ .status → q.successor = none) := by
  have hmem := List.mem_of_find?_eq_some hq
  refine ⟨hmem, List.find?_some (p := fun x : QEntry => x.onWire) hq, fun hkind => ?_⟩
  obtain ⟨-, -, -, -, -, -, -, -, hentries, -⟩ := h
  obtain ⟨-, -, hsuccessor⟩ := hentries q hmem
  cases hs : q.successor with
  | none => rfl
  | some next =>
    obtain ⟨-, hstatus, -⟩ := hsuccessor next.1 next.2 hs
    simp only [QEntry.isFor, Bool.and_eq_true, beq_iff_eq] at hstatus
    exact absurd hstatus.1 hkind

/-- Without the own frame that is on the wire the queue has room. -/
theorem QueueOk.room {s : State} (h : QueueOk s) {q : QEntry} (hq : s.ownFrame = some q) :
    (s.txq.filter (fun x => !x.onWire)).length < 8 := by
  obtain ⟨hmem, hwire, -⟩ := h.ownFrame hq
  have hlt : (s.txq.filter (fun x => !x.onWire)).length < s.txq.length :=
    List.length_filter_lt_length_iff_exists.mpr ⟨q, hmem, by simp [hwire]⟩
  have hle : s.txq.length ≤ 8 := h.1
  omega

/-- The station after its frame has left the queue and the line (R128, R148). -/
def State.unloaded (s : State) (q : QEntry) : State := State.setLine { s with txq := dequeue s.txq q } .notIdle

theorem exec_frameTransmitted (s : State) (q : QEntry) (hq : s.ownFrame = some q) :
    exec .frameTransmitted s = .next ((s.unloaded q).reportTransmitted q.payload).finish := by
  show execFrameTransmitted s = _
  simp [execFrameTransmitted, hq, State.unloaded]

/-- The record of a role whose TAKEOVER has been transmitted (R60, R63). -/
def Ship.takesOver (e : Epoch) (sh : Ship) : Ship :=
  if sh.machine = .claiming then { sh with machine := .act, epoch := some e, known := some e, silence := .stopped }
  else { sh with
    machine := .own, epoch := some e, known := some e, forcing := .clear, attempts := 0
    otherSilence := .stopped, wait := .stopped, other := none }

/-- A claiming standby, and a primary that forces a takeover, act from 100 (R60, R63). -/
theorem State.takeoverTransmitted_eq (s : State) (g r : Nat) (e : Epoch) (role : Role) (hi : s.roleIndex g = some r)
    (hr : s.roles[r]? = some role) (hm : role.ship.machine = .claiming ∨ role.ship.machine = .reclaim) :
    s.takeoverTransmitted g e
      = ((s.modShip r (Ship.takesOver e)).startActing r 100).post .takeover role.cfg.group (some (e.toNat : Int)) := by
  have hship (f : Ship → Ship) (hf : f role.ship = role.ship.takesOver e) : s.modShip r f = s.modShip r (Ship.takesOver e) := by
    unfold modShip modRole
    rw [modify_congr_get]
    intro x hx
    obtain rfl := Option.some.inj (hr.symm.trans hx)
    rw [hf]
  rw [group_of_roleIndex hi hr]
  rcases hm with hm | hm
  · rw [← hship (fun sh => { sh.takeEpoch e with machine := .act, silence := .stopped }) (by simp [Ship.takesOver, Ship.takeEpoch, hm])]
    simp only [takeoverTransmitted, hi, hr, hm]
  · rw [← hship (fun sh => { sh.takeEpoch e with
        machine := .own, forcing := .clear, attempts := 0, otherSilence := .stopped, wait := .stopped, other := none })
      (by simp [Ship.takesOver, Ship.takeEpoch, hm])]
    simp only [takeoverTransmitted, hi, hr, hm]

/-- A standby that acts and has sent its YIELD is in WATCH and RELEASED (R61, R65). -/
theorem State.yieldTransmitted_eq (s : State) (g r : Nat) (e : Epoch) (role : Role) (hi : s.roleIndex g = some r)
    (hr : s.roles[r]? = some role) (hm : role.ship.machine = .act) :
    s.yieldTransmitted g e
      = ((s.modShip r (fun sh => { sh with
          known := noteEpoch e sh.known, machine := .watch, silence := s.startFreezable s.takeoverMs })).stopActing r).post
          .handbackDone g (some (e.toNat : Int)) := by
  simp only [yieldTransmitted, hi, hr, hm, enterWatch, modShip_modShip]
  rfl

end Sys2Proof.Machine

/-- Settles O40: after a TAKEOVER the role has started acting (`State.actingStarted`), after a YIELD it has stopped, and no STATUS is due. -/
theorem drivershipTransmitted : Obligations.DrivershipTransmitted := by
  intro s q g r e role hq hqueue hi hr hj hs
  have hexec := exec_frameTransmitted s q hq
  obtain ⟨-, -, hsuccessor⟩ := hqueue.ownFrame hq
  let u := s.unloaded q
  refine ⟨fun hp hreleased hm => ?_, fun a l hp hm => ?_⟩
  · have htxq : u.txq = s.txq.filter (fun x => !x.onWire) := by
      show dequeue s.txq q = _
      simp [dequeue, hsuccessor (by simp [hp, payloadKind])]
    have hroom : u.txq.length < 8 := htxq ▸ hqueue.room hq
    have hsub : ∀ x ∈ u.txq, x ∈ s.txq ∧ x.onWire = false := by
      intro x hx
      simpa [htxq] using hx
    rw [hp, show State.reportTransmitted u (.takeover g e) = u.takeoverTransmitted g e from rfl,
      u.takeoverTransmitted_eq g r e role hi hr hm] at hexec
    generalize hw : ((u.modShip r (Ship.takesOver e)).startActing r 100).post .takeover role.cfg.group (some (e.toNat : Int)) = w at hexec
    have hrun := u.actingStarted w r 100 role (Ship.takesOver e) hr ((hj.beside rfl rfl rfl).role r role hr) hs hreleased (hw ▸ rfl)
    have hframe : w.finish.ctl = s.ctl ∧ w.finish.temps = s.temps ∧ w.finish.demand = s.demand ∧ w.finish.peers = s.peers := by
      rw [← hw]
      simp [u, State.unloaded]
    have hline : w.line = { s.line with state := .notIdle } := by
      rw [← hw]
      simp [u, State.unloaded]
    have hbusy : w.line.state ≠ .idle := by simp [hline]
    refine ⟨w.finish, _, hexec, hrun.get, fun hclaiming => ?_, fun hreclaim => ?_, ?_, ?_, ?_, rfl, fun f hf hrole => ?_, ?_,
      fun ht hnone => ?_, ?_, (w.finish_line hbusy).trans hline, hrun.others, hframe⟩
    · simp [Ship.takesOver, hclaiming]
    · simp [Ship.takesOver, hreclaim]
    · simp [Drive.startActing_state]
    · simp [Drive.startActing_level]
    · simp
    · simpa using hrun.outputs f hf hrole
    · rw [hrun.posted hroom, ← hw, State.group_of_roleIndex hi hr]
      simp [u, State.unloaded, State.timeBase]
    · exact hrun.queued ht hroom (fun x hx => hnone x (hsub x hx).1) _ hrun.get
    · refine w.finish_waiting hbusy fun x hx => (hsub x ?_).2
      rw [← hw] at hx
      simpa using hx
  · rw [hp, show State.reportTransmitted u (.yield g e a l) = u.yieldTransmitted g e from rfl,
      u.yieldTransmitted_eq g r e role hi hr hm] at hexec
    generalize hv : u.modShip r (fun sh => { sh with
      known := noteEpoch e sh.known, machine := .watch, silence := u.startFreezable u.takeoverMs }) = v at hexec
    have hvr : v.roles[r]? = some { role with ship := { role.ship with
        known := noteEpoch e role.ship.known, machine := .watch, silence := u.startFreezable u.takeoverMs } } :=
      hv ▸ u.modShip_get r _ role hr
    have hvs : Settled v := hv ▸ settled_modShip u r _ hs
    have hends : Settled ((v.stopActing r).post .handbackDone g (some (e.toNat : Int))) :=
      settled_of_roles (s := v.stopActing r) rfl (State.settled_stopActing hvs r)
    rw [State.finish_settled _ hends] at hexec
    refine ⟨_, _, hexec, v.stopActing_get r _ hvr, rfl, rfl, rfl, rfl, rfl, rfl, rfl, v.stopActing_fans r _ hvr, ?_, ?_, ?_,
      fun p hne => ?_, ?_⟩
    · simp [← hv, u, State.unloaded, State.timeBase]
    · simp [← hv, u, State.unloaded]
    · simp [← hv, u, State.unloaded]
    · exact (v.stopActing_get_other r p hne).trans (by simp [← hv, u, State.unloaded, Ne.symm hne])
    · simp [← hv, u, State.unloaded]

end

section
/-! SUPPORT. A drivership frame from the receiver to the end of the event (R51, R128, R138, R140, R154), and what neither the Peer Unit
nor the end of the event changes of a role. -/

namespace Sys2Proof.Machine

/-! ### From the receiver to the end of the event -/

/-- A valid frame of a peer in JOINING or RUNNING is delivered to all blocks, and the event ends (R128, R140). -/
theorem exec_frameCommand (s : State) (n : Nat) (p : Payload) (h : TakesFrame s n p) :
    exec (frameCommand n p) s = .next ((s.setLine .notIdle).deliverAll n p).finish := by
  obtain ⟨hreceiving, htransmits, hstation, hwf, hown⟩ := h
  have hreceive : exec (frameCommand n p) s = .next (s.receive n p) := by cases p <;> rfl
  have hdeliver : (s.setLine .notIdle).deliver n p = (s.setLine .notIdle).deliverAll n p := by
    unfold State.transmits at htransmits
    unfold State.deliver
    rw [State.setLine_ctl]
    cases hs : s.ctl.state <;> simp [hs] at htransmits
    · exact if_neg hown
    · exact if_neg hown
  rw [hreceive, State.receive, if_pos hreceiving, if_pos (by rw [hstation, hwf]; rfl), hdeliver]

/-- The Drivership Unit is the block beside the Peer Unit that takes its frames (R51, R140). -/
theorem othersTake_driver (s : State) (n g : Nat) (e : Epoch) (p : Payload) (hp : frameEpoch p = some (g, e)) :
    s.othersTake n p = s.driveshipTakes n p := by
  cases p <;> first | rfl | simp [frameEpoch] at hp

/-- A drivership frame meets the Peer Unit and the Drivership Unit in the one order or the other, and the event ends; of a known peer
out of isolation the Peer Unit takes it first (R154; log entry 5). -/
theorem exec_driverFrame (s : State) (n g : Nat) (e : Epoch) (p : Payload) (h : TakesFrame s n p) (hp : frameEpoch p = some (g, e)) :
    ∃ k w, exec (frameCommand n p) s = .next w.finish ∧
      (w = (State.peerTakes { s.setLine .notIdle with choices := k } n p).driveshipTakes n p
        ∨ (w = (State.driveshipTakes { s.setLine .notIdle with choices := k } n p).peerTakes n p
          ∧ (s.peers.isolated = false → s.peers.roster.any (fun x => x.station == n) = false))) := by
  rw [exec_frameCommand s n p h, State.deliverAll]
  simp only [othersTake_driver _ n g e p hp]
  split
  · next horder =>
    split
    · exact ⟨_, _, rfl, .inl rfl⟩
    · refine ⟨_, _, rfl, .inr ⟨rfl, fun hi => ?_⟩⟩
      cases p <;> simp_all [State.orderMatters, payloadKind, frameEpoch]
  · exact ⟨s.choices, _, rfl, .inl rfl⟩

/-! ### What is left of a role -/

/-- What neither the Peer Unit nor the end of an event changes of a role: configuration, claim table, epochs, and its acting state if it
acts. -/
structure Standing where
  cfg    : RoleCfg
  claims : ClaimTable
  epoch  : Option Epoch
  known  : Option Epoch
  acts   : Option RoleMachine

def Role.standing (role : Role) : Standing :=
  ⟨role.cfg, role.claims, role.ship.epoch, role.ship.known,
    if role.ship.machine.acting then some role.ship.machine else none⟩

/-- A discard told to a role leaves its standing: a standby that goes back to WATCH did not act (R68). -/
theorem Role.standing_discarded (role : Role) (kind : FrameKind) (silence wait : Timer) :
    Role.standing { role with ship := role.ship.discarded kind silence wait } = role.standing := by
  unfold Ship.discarded
  split
  · next hm => simp [standing, hm, RoleMachine.acting]
  · rfl
  · split <;> rfl
  · rfl

namespace State

/-- An offer leaves what a discard told to a role leaves (R147). -/
theorem offer_map_told {α : Type} (g : Role → α)
    (hg : ∀ (role : Role) kind silence wait, g { role with ship := role.ship.discarded kind silence wait } = g role)
    (s : State) (p : Payload) : (s.offer p).roles.map g = s.roles.map g := by
  have htold (u : State) (v : Payload) : (u.reportDiscard v).roles.map g = u.roles.map g := by
    unfold reportDiscard
    split
    · split
      · exact map_modify_of_same g _ _ _ fun role => hg role _ _ _
      · rfl
    all_goals rfl
  unfold offer discard
  repeat' split
  all_goals simp [htold]

theorem queueHandback_standing (s : State) (r : Nat) :
    (s.queueHandback r).roles.map Role.standing = s.roles.map Role.standing := by
  unfold queueHandback
  repeat' split
  · rfl
  · rfl
  · rw [offer_map_told _ Role.standing_discarded]
    exact map_modify_of_same _ _ _ _ fun _ => rfl

theorem rejoin_standing (s : State) (n : Nat) : (s.rejoin n).roles.map Role.standing = s.roles.map Role.standing := by
  have hcauses (u : State) (f : Causes → Causes) : (u.setCausesAll f).roles.map Role.standing = u.roles.map Role.standing :=
    forRoles_same (fun u => u.roles.map Role.standing) _ u fun v r => driveEvent_map Role.standing (fun _ _ => rfl) v r _
  have hrole (u : State) (r : Nat) : (u.roleRejoined r).roles.map Role.standing = u.roles.map Role.standing := by
    unfold roleRejoined
    dsimp only
    repeat' split
    · rfl
    · rw [queueHandback_standing]
      exact map_modify_of_same _ _ _ _ fun _ => rfl
    · exact map_modify_of_same _ _ _ _ fun _ => rfl
  exact (forRoles_same (fun u => u.roles.map Role.standing) _ _ hrole).trans (hcauses _ _)

theorem peerTakes_standing (s : State) (n : Nat) (p : Payload) :
    (s.peerTakes n p).roles.map Role.standing = s.roles.map Role.standing := by
  have hlink (u : State) : (u.linkTakes n).roles.map Role.standing = u.roles.map Role.standing := by
    unfold linkTakes
    repeat' split
    · exact rejoin_standing u n
    · rfl
    · rfl
  simp [peerTakes, hlink]

theorem finish_standing (s : State) : s.finish.roles.map Role.standing = s.roles.map Role.standing := by
  rw [finish_roles, List.map_map]
  rfl

/-- A role of one state in another of the same standings. -/
theorem get_of_standing {s t : State} (h : t.roles.map Role.standing = s.roles.map Role.standing) {r : Nat} {role : Role}
    (hr : s.roles[r]? = some role) : ∃ role', t.roles[r]? = some role' ∧ role'.standing = role.standing := by
  have hget := congrArg (·[r]?) h
  simp only [List.getElem?_map, hr, Option.map_some] at hget
  exact Option.map_eq_some_iff.mp hget

/-- The role of a group has the same number where the standings are the same. -/
theorem roleIndex_of_standing {s t : State} (h : t.roles.map Role.standing = s.roles.map Role.standing) (g : Nat) :
    t.roleIndex g = s.roleIndex g := by
  have hindex (u : State) : u.roleIndex g = (u.roles.map Role.standing).findIdx? (fun x => x.cfg.group == g) := by
    simp [roleIndex, List.findIdx?_map, Function.comp_def, Role.standing]
  rw [hindex, hindex, h]

end State

/-- What a drivership frame leaves of a role's standing is what the Drivership Unit leaves of it (R51, R154). -/
theorem driverFrame_standing {s : State} {n g r : Nat} {e : Epoch} {role : Role} {p : Payload} (h : TakesFrame s n p)
    (hp : frameEpoch p = some (g, e)) (hi : s.roleIndex g = some r) (hr : s.roles[r]? = some role) (Q : Standing → Prop)
    (hQ : ∀ (u : State) (x : Role), u.ctl = s.ctl → u.roleIndex g = some r → u.roles[r]? = some x → x.standing = role.standing →
      ∃ y, (u.driveshipTakes n p).roles[r]? = some y ∧ Q y.standing) :
    ∃ t role', exec (frameCommand n p) s = .next t ∧ t.roles[r]? = some role' ∧ Q role'.standing := by
  obtain ⟨k, w, hexec, hw⟩ := exec_driverFrame s n g e p h hp
  suffices hwr : ∃ y, w.roles[r]? = some y ∧ Q y.standing by
    obtain ⟨y, hy, hQy⟩ := hwr
    obtain ⟨role', hr', hstanding⟩ := State.get_of_standing w.finish_standing hy
    exact ⟨_, role', hexec, hr', hstanding ▸ hQy⟩
  let u : State := { s.setLine .notIdle with choices := k }
  rcases hw with rfl | ⟨rfl, -⟩
  · have hkept := u.peerTakes_standing n p
    obtain ⟨x, hx, hstanding⟩ := State.get_of_standing hkept hr
    exact hQ _ x (by simp) ((State.roleIndex_of_standing hkept g).trans hi) hx hstanding
  · obtain ⟨y, hy, hQy⟩ := hQ u role rfl hi hr rfl
    obtain ⟨z, hz, hstanding⟩ := State.get_of_standing (State.peerTakes_standing _ n p) hy
    exact ⟨z, hz, hstanding ▸ hQy⟩

end Sys2Proof.Machine
end

section
/-! SUPPORT. The highest-known epoch (R51, R52): what the rules of a role's state leave of it. -/

namespace Sys2Proof.Machine

/-! ### Epochs -/

theorem newer_iff (a b : Epoch) :
    newer a b = true ↔ 1 ≤ (a.toNat + 65536 - b.toNat) % 65536 ∧ (a.toNat + 65536 - b.toNat) % 65536 ≤ 32767 := by
  have hdiff : (a - b).toNat = (a.toNat + 65536 - b.toNat) % 65536 := by
    rw [BitVec.toNat_sub]
    congr 1
    have := b.isLt
    omega
  simp [newer, hdiff]

theorem nextEpoch_toNat (k : Epoch) : (nextEpoch (some k)).toNat = (k.toNat + 1) % 65536 := by
  simp [nextEpoch, BitVec.toNat_add]

/-- The epoch after one is newer than it. -/
theorem newer_nextEpoch (k : Epoch) : newer (nextEpoch (some k)) k = true := by
  rw [newer_iff, nextEpoch_toNat]
  have := k.isLt
  omega

/-- No epoch is newer than itself. -/
theorem newer_self (e : Epoch) : newer e e = false := by
  rw [Bool.eq_false_iff, ne_eq, newer_iff]
  have := e.isLt
  omega

/-- An epoch that is known already is noted without effect. -/
theorem noteEpoch_self (e : Epoch) : noteEpoch e (some e) = some e := by simp [noteEpoch, newerThanKnown, newer_self]

/-- An epoch newer than the highest known one becomes it. -/
theorem noteEpoch_newer (e : Epoch) (known : Option Epoch) (h : newerThanKnown e known = true) : noteEpoch e known = some e := by
  simp [noteEpoch, h]

theorem noteEpoch_eq (e : Epoch) (known : Option Epoch) :
    noteEpoch e known = match known with
      | none => some e
      | some k => if newer e k then some e else some k := by
  cases known <;> rfl

/-! ### The rules of a role's state -/

/-- The highest-known epoch of a role. -/
def Role.known (role : Role) : Option Epoch := role.ship.known

@[simp] theorem map_known_modify (roles : List Role) (r : Nat) (f : Role → Role) (h : ∀ role, (f role).ship.known = role.ship.known) :
    (roles.modify r f).map Role.known = roles.map Role.known :=
  map_modify_of_same _ f roles r h

namespace State

@[simp] theorem offer_known (s : State) (p : Payload) : (s.offer p).roles.map Role.known = s.roles.map Role.known :=
  offer_map_told _ (fun role kind silence wait => by
    show (role.ship.discarded kind silence wait).known = role.ship.known
    unfold Ship.discarded
    repeat' split
    all_goals rfl) s p

@[simp] theorem queueHandback_known (s : State) (r : Nat) : (s.queueHandback r).roles.map Role.known = s.roles.map Role.known := by
  unfold queueHandback
  repeat' split
  all_goals simp

@[simp] theorem stopActing_known (s : State) (r : Nat) : (s.stopActing r).roles.map Role.known = s.roles.map Role.known :=
  driveEvent_map Role.known (fun _ _ => rfl) s r _

@[simp] theorem takeConflict_known (s : State) (r : Nat) (role : Role) (n : Nat) (e : Epoch) (k : RoleKind) :
    (s.takeConflict r role n e k).roles.map Role.known = s.roles.map Role.known := by
  have hlose (u : State) : (u.loseConflict r role n e).roles.map Role.known = u.roles.map Role.known := by
    unfold loseConflict
    split <;> simp [enterWatch]
  have hwin (u : State) : (u.queueStatus r).roles.map Role.known = u.roles.map Role.known := by simp [queueStatus]
  unfold takeConflict
  dsimp only
  repeat' split
  all_goals simp [hlose, hwin]

@[simp] theorem hearOther_known (s : State) (r : Nat) (role : Role) (n : Nat) (e : Epoch) :
    (s.hearOther r role n e).roles.map Role.known = s.roles.map Role.known := by
  unfold hearOther
  dsimp only
  repeat' split
  all_goals simp

@[simp] theorem answerHandback_known (s : State) (role : Role) (n : Nat) (e : Epoch) :
    (s.answerHandback role n e).roles.map Role.known = s.roles.map Role.known := by
  unfold answerHandback
  dsimp only
  split <;> simp

/-- An accepted YIELD makes its epoch the role's own and the highest known one (R52, R59). -/
theorem acceptYield_known (s : State) (r : Nat) (role x : Role) (e : Epoch) (level : Nat) (hr : s.roles[r]? = some x) :
    ((s.acceptYield r role e level).roles.map Role.known)[r]? = some (some e) := by
  unfold acceptYield
  dsimp only
  rw [post_roles, startActing, driveEvent_map Role.known (fun _ _ => rfl)]
  simp [hr, Ship.takeEpoch, Role.known]

/-- Does a role accept a frame as the YIELD that hands its group back (R59)? -/
def accepts (s : State) (role : Role) (e : Epoch) (p : Payload) : Prop :=
  role.ship.machine = .reclaim ∧ ∃ g a l, p = .yield g e a l ∧ s.ctl.station = some a ∧ newerThanKnown e role.ship.known = true

/-- The rules of a role's state leave the highest-known epoch, but where a YIELD is accepted. -/
theorem roleFrame_known (s : State) (r : Nat) (role : Role) (n : Nat) (e : Epoch) (p : Payload) (h : ¬s.accepts role e p)
    (hp : ∃ g, frameEpoch p = some (g, e)) : (s.roleFrame r role n e p).roles.map Role.known = s.roles.map Role.known := by
  unfold roleFrame
  split
  case h_11 hm hk =>
    split
    · next g e' a l =>
      obtain ⟨g', hg⟩ := hp
      simp only [frameEpoch, Option.some.injEq, Prod.mk.injEq] at hg
      rw [if_neg fun hacc => h ⟨hm, g, a, l, by rw [hg.2], hacc⟩]
    · rfl
  all_goals
    repeat' split
    all_goals simp [enterWatch]

end State
end Sys2Proof.Machine
end

section
/-! The Drivership Unit takes a frame in two steps (R51), and the highest-known epoch after it. -/

open Sys2Proof Sys2Proof.Machine

namespace Sys2Proof.Machine

/-- The epoch of a frame is noted in a role record (R51). -/
def Ship.noted (e : Epoch) (sh : Ship) : Ship := { sh with known := noteEpoch e sh.known }

namespace State

/-- The two steps at the role of the frame's group (R51). -/
theorem driveshipTakes_eq (s : State) (n g r : Nat) (e : Epoch) (role : Role) (p : Payload) (hp : frameEpoch p = some (g, e))
    (hi : s.roleIndex g = some r) (hr : s.roles[r]? = some role) :
    s.driveshipTakes n p = ((s.roleFrame r role n e p).modShip r (Ship.noted e)).checkTakeover r := by
  simp only [driveshipTakes, hp, hi, hr]
  rfl

/-- A role that has no TAKEOVER of its own in the queue has none to check (R60, R63). -/
theorem checkTakeover_unclaimed (s : State) (r : Nat) (role : Role) (hr : s.roles[r]? = some role)
    (hm : role.ship.machine ≠ .claiming ∧ role.ship.machine ≠ .reclaim) : s.checkTakeover r = s := by
  obtain ⟨hclaiming, hreclaim⟩ := hm
  simp only [checkTakeover, hr]
  split
  · split
    · next h => exact absurd h hclaiming
    · next h => exact absurd h hreclaim
    all_goals rfl
  · rfl

@[simp] theorem checkTakeover_known (s : State) (r : Nat) : (s.checkTakeover r).roles.map Role.known = s.roles.map Role.known := by
  unfold checkTakeover
  repeat' split
  all_goals simp [enterWatch]

/-- A YIELD that a primary in RECLAIM accepts (R59). -/
theorem roleFrame_accepts (s : State) (r g : Nat) (role : Role) (n : Nat) (e : Epoch) (a l : Nat)
    (hm : role.ship.machine = .reclaim) (ha : s.ctl.station = some a) (hnewer : newerThanKnown e role.ship.known = true) :
    s.roleFrame r role n e (.yield g e a l) = s.acceptYield r role e l := by
  simp only [roleFrame, hm, payloadKind]
  exact if_pos ⟨ha, hnewer⟩

/-- The highest-known epoch of the role of a frame's group, after the frame (R51, R52). -/
theorem driveshipTakes_known (s : State) (n g r : Nat) (e : Epoch) (role : Role) (p : Payload) (hp : frameEpoch p = some (g, e))
    (hi : s.roleIndex g = some r) (hr : s.roles[r]? = some role) :
    ((s.driveshipTakes n p).roles.map Role.known)[r]? = some (noteEpoch e role.ship.known) := by
  have hnoted (u : State) : ((u.modShip r (Ship.noted e)).roles.map Role.known)[r]? = ((u.roles.map Role.known)[r]?).map (noteEpoch e) := by
    cases h : u.roles[r]? <;> simp [h, Role.known, Ship.noted]
  rw [s.driveshipTakes_eq n g r e role p hp hi hr, checkTakeover_known, hnoted]
  by_cases hacc : s.accepts role e p
  · obtain ⟨hm, g', a, l, rfl, ha, hnewer⟩ := hacc
    rw [s.roleFrame_accepts r g' role n e a l hm ha hnewer, s.acceptYield_known r role role e l hr, Option.map_some, noteEpoch_self,
      noteEpoch_newer _ _ hnewer]
  · rw [s.roleFrame_known r role n e p hacc ⟨g, hp⟩, List.getElem?_map, hr]
    rfl

end State
end Sys2Proof.Machine

/-- Settles O37: the comparison is arithmetic modulo 65,536, and of a role's standing (`driverFrame_standing`) a frame changes the
highest-known epoch as the Drivership Unit notes it. -/
theorem epochsKnown : Obligations.EpochsKnown := by
  refine ⟨⟨newer_iff, rfl, nextEpoch_toNat, newer_nextEpoch, fun _ => rfl, fun _ _ => rfl⟩,
    fun s n g r e role p h hkind hi hr => ?_⟩
  have hp : frameEpoch p = some (g, e) := by
    rcases hkind with ⟨c, rfl, rfl, rfl⟩ | rfl | rfl | ⟨a, l, rfl⟩ <;> rfl
  obtain ⟨t, role', hexec, hr', hknown, hcfg, hclaims⟩ := driverFrame_standing h hp hi hr
    (fun st => st.known = noteEpoch e role.ship.known ∧ st.cfg = role.cfg ∧ st.claims = role.claims)
    fun u x _ hi' hx hstanding => by
      obtain ⟨hcfg, hclaims, -, hknown, -⟩ := Standing.mk.inj hstanding
      have hsides := congrArg (·[r]?) (u.driveshipTakes_claimSides n p)
      simp only [List.getElem?_map, hx, Option.map_some] at hsides
      obtain ⟨y, hy, hside⟩ := Option.map_eq_some_iff.mp hsides
      obtain ⟨hycfg, hyclaims, -⟩ := (Role.claimSide_eq_iff y x).mp hside
      have hnoted := u.driveshipTakes_known n g r e x p hp hi' hx
      rw [List.getElem?_map, hy, Option.map_some, hknown] at hnoted
      exact ⟨y, hy, Option.some.inj hnoted, hycfg.trans hcfg, hyclaims.trans hclaims⟩
  exact ⟨t, role', hexec, hr', hknown.trans (noteEpoch_eq e _), hcfg, hclaims⟩

end

section
/-! The conflict rule (R66, R67): what a STATUS or a TAKEOVER of another station does to a role that acts. -/

open Sys2Proof Sys2Proof.Machine

namespace Sys2Proof.Machine

/-- A frame that another acting station sends of a group: a STATUS or a TAKEOVER (R66). -/
def Reports (p : Payload) (g : Nat) (e : Epoch) : Prop := (∃ c, p = .status c ∧ c.group = g ∧ c.epoch = e) ∨ p = .takeover g e

theorem Reports.frameEpoch {p : Payload} {g : Nat} {e : Epoch} (h : Reports p g e) : frameEpoch p = some (g, e) := by
  rcases h with ⟨c, rfl, rfl, rfl⟩ | rfl <;> rfl

theorem Reports.kind {p : Payload} {g : Nat} {e : Epoch} (h : Reports p g e) : payloadKind p = .status ∨ payloadKind p = .takeover := by
  rcases h with ⟨c, rfl, rfl, rfl⟩ | rfl
  · exact .inl rfl
  · exact .inr rfl

/-- The role record of a role that has lost a conflict (R56, R61, R67). -/
def State.lostShip (s : State) (role : Role) (n : Nat) (e : Epoch) : Ship :=
  match role.cfg.kind with
  | .primary =>
    { role.ship with
      machine := .displaced, other := some (n, e), hold := .running (s.now + 5000), otherSilence := s.startFreezable s.takeoverMs }
  | .standby => { role.ship with machine := .watch, silence := s.startFreezable s.takeoverMs }

/-- A role that has lost a conflict is DISPLACED or in WATCH. -/
theorem State.lostShip_machine (s : State) (role : Role) (n : Nat) (e : Epoch) :
    (s.lostShip role n e).machine = .displaced ∨ (s.lostShip role n e).machine = .watch := by
  unfold lostShip
  cases role.cfg.kind
  · exact .inl rfl
  · exact .inr rfl

/-- A role after a conflict: a STATUS is due where it has won, and it has stopped acting where it has lost (R67). -/
def State.afterConflict (s : State) (role : Role) (n : Nat) (e : Epoch) (wins : Bool) : Role :=
  if wins then { role with drive := { role.drive with statusDue := true } }
  else { role with drive := role.drive.stopActing, ship := s.lostShip role n e }

namespace State

theorem loseConflict_get (s : State) (r : Nat) (role : Role) (n : Nat) (e : Epoch) (hr : s.roles[r]? = some role) :
    (s.loseConflict r role n e).roles[r]? = some { role with drive := role.drive.stopActing, ship := s.lostShip role n e } := by
  unfold loseConflict lostShip
  cases role.cfg.kind
  · exact stopActing_get _ r _ (s.modShip_get r _ role hr)
  · exact stopActing_get ((s.enterWatch r).withdraw .yield role.cfg.group) r _ (s.modShip_get r
      (fun sh => { sh with machine := .watch, silence := s.startFreezable s.takeoverMs }) role hr)

theorem takeConflict_get (s : State) (r : Nat) (role : Role) (n : Nat) (e : Epoch) (k : RoleKind) (hr : s.roles[r]? = some role) :
    (s.takeConflict r role n e k).roles[r]? = some (s.afterConflict role n e
      (conflictWins (role.ship.epoch.getD 0) role.cfg.kind (s.ctl.station.getD 0) e k n)) := by
  have hdecided (u : State) (wins : Bool) (hu : u.roles[r]? = some role) (hship : u.lostShip role n e = s.lostShip role n e) :
      (if wins then u.queueStatus r else u.loseConflict r role n e).roles[r]? = some (s.afterConflict role n e wins) := by
    cases wins with
    | true => exact u.modDrive_get_self r (fun d => { d with statusDue := true }) role hu
    | false =>
      rw [afterConflict, if_neg (by simp), if_neg (by simp), ← hship]
      exact u.loseConflict_get r role n e hu
  refine hdecided _ _ ?_ ?_
  · split <;> exact hr
  · split <;> rfl

/-- A STATUS or a TAKEOVER at a role that acts is a conflict, and its epoch is noted (R51, R66). -/
theorem driveshipTakes_conflict (s : State) (n g r : Nat) (e : Epoch) (role : Role) (p : Payload) (hp : Reports p g e)
    (hi : s.roleIndex g = some r) (hr : s.roles[r]? = some role) (hm : role.ship.machine.acting = true) :
    s.driveshipTakes n p = (s.takeConflict r role n e (role.cfg.otherRole n p)).modShip r (Ship.noted e) := by
  have hframe : s.roleFrame r role n e p = s.takeConflict r role n e (role.cfg.otherRole n p) := by
    cases hmachine : role.ship.machine <;> simp [hmachine, RoleMachine.acting] at hm <;>
      rcases hp.kind with hk | hk <;> simp only [roleFrame, hmachine, hk]
  rw [s.driveshipTakes_eq n g r e role p hp.frameEpoch hi hr, hframe]
  refine checkTakeover_unclaimed _ r _ (modShip_get _ r _ _ (s.takeConflict_get r role n e _ hr)) ?_
  unfold afterConflict
  split
  · cases hmachine : role.ship.machine <;> simp [hmachine, RoleMachine.acting, Ship.noted] at hm ⊢
  · rcases s.lostShip_machine role n e with hlost | hlost <;> simp [Ship.noted, hlost]

end State

/-! ### Who wins (R66) -/

/-- Of two epochs one at most is the newer. -/
theorem newer_asymm (a b : Epoch) (h : newer a b = true) : newer b a = false := by
  rw [newer_iff] at h
  rw [Bool.eq_false_iff, ne_eq, newer_iff]
  have := a.isLt
  have := b.isLt
  omega

/-- The acting state of a role by its standing. -/
theorem Role.standing_acts (role : Role) :
    (∀ m, role.standing.acts = some m → role.ship.machine = m ∧ role.ship.machine.acting = true)
      ∧ (role.standing.acts = none → role.ship.machine.acting = false) := by
  unfold Role.standing
  cases h : role.ship.machine.acting <;> simp

/-- A role after a conflict acts as it did where it has won, and does not act where it has lost. -/
theorem State.afterConflict_acts (s : State) (role : Role) (n : Nat) (e : Epoch) (wins : Bool)
    (hm : role.ship.machine.acting = true) :
    (Role.standing { s.afterConflict role n e wins with ship := (s.afterConflict role n e wins).ship.noted e }).acts
      = if wins then some role.ship.machine else none := by
  cases wins with
  | true => simp [Role.standing, State.afterConflict, Ship.noted, hm]
  | false =>
    rcases s.lostShip_machine role n e with hlost | hlost <;>
      simp [Role.standing, State.afterConflict, Ship.noted, hlost, RoleMachine.acting]

end Sys2Proof.Machine

/-- Settles O42: after the frame the role acts as before exactly where `conflictWins` says so, which is the rule's chain of cases. -/
theorem conflictRule : Obligations.ConflictRule := by
  intro s n g r own e mine role p h hkind hi hr hacting hepoch hown other
  have hp : Reports p g e := hkind
  have hother : other = role.cfg.otherRole n p := by rcases hp with ⟨c, rfl, -, -⟩ | rfl <;> rfl
  obtain ⟨t, role', hexec, hr', hacts⟩ := driverFrame_standing h hp.frameEpoch hi hr
    (fun st => st.acts = if conflictWins mine role.cfg.kind own e (role.cfg.otherRole n p) n then some role.ship.machine else none)
    fun u x hctl hi' hx hstanding => by
      obtain ⟨hcfg, -, hxepoch, -, hacts⟩ := Standing.mk.inj hstanding
      rw [if_pos hacting] at hacts
      obtain ⟨hxm, hxacting⟩ := x.standing_acts.1 _ hacts
      have hget := State.modShip_get _ r (Ship.noted e) _ (u.takeConflict_get r x n e (x.cfg.otherRole n p) hx)
      rw [← u.driveshipTakes_conflict n g r e x p hp hi' hx hxacting] at hget
      refine ⟨_, hget, ?_⟩
      rw [u.afterConflict_acts x n e _ hxacting, hxm, hcfg, hxepoch, hepoch, hctl, hown]
      rfl
  refine ⟨t, role', hexec, hr', ?_⟩
  rw [← hother] at hacts
  clear_value other
  have hwins (hw : conflictWins mine role.cfg.kind own e other n = true) :
      role'.ship.machine = role.ship.machine ∧ role'.ship.machine.acting = true :=
    role'.standing_acts.1 _ (by rw [hacts, if_pos hw])
  have hloses (hw : conflictWins mine role.cfg.kind own e other n = false) : role'.ship.machine.acting = false :=
    role'.standing_acts.2 (by rw [hacts, if_neg (by simp [hw])])
  refine ⟨fun hnewer => hloses ?_, fun holder => hwins ?_, fun hnewer holder => ⟨fun ho hk => hloses ?_, fun ho hk => hwins ?_,
    fun ho => ⟨fun hlt => hwins ?_, fun hlt => hloses ?_⟩⟩⟩
  · simp [conflictWins, hnewer]
  · simp [conflictWins, newer_asymm _ _ holder, holder]
  · simp [conflictWins, hnewer, holder, ho, hk]
  · simp [conflictWins, hnewer, holder, ho, hk]
  · simp [conflictWins, hnewer, holder, ho, hlt]
  · simp [conflictWins, hnewer, holder, ho, hlt.le]

end

section
/-! SUPPORT. A drivership frame of a station that is not ISOLATED (R51, R140, R150, R152): the Peer Unit leaves the roles, the channels and
the transmit queue alone. -/

namespace Sys2Proof.Machine

namespace State

/-- Out of isolation the Peer Unit changes at a drivership frame its own lists and the notices alone, and posts for a new peer alone. -/
theorem peerTakes_connected (s : State) (n g : Nat) (e : Epoch) (p : Payload) (hp : frameEpoch p = some (g, e))
    (hi : s.peers.isolated = false) :
    s.PeersOnly (s.peerTakes n p) ∧ (s.peerTakes n p).peers.isolated = false
      ∧ (s.peers.roster.any (fun x => x.station == n) = true → (s.peerTakes n p).notices = s.notices) := by
  have hroster (k : FrameKind) : s.PeersOnly (s.rosterTakes n k)
      ∧ (s.peers.roster.any (fun x => x.station == n) = true → (s.rosterTakes n k).notices = s.notices) := by
    unfold rosterTakes
    split
    · exact ⟨rfl, fun _ => rfl⟩
    · next hn => exact ⟨rfl, fun h => absurd h hn⟩
  have hlink (u : State) (hu : u.peers.isolated = false) :
      u.PeersOnly (u.linkTakes n) ∧ (u.linkTakes n).peers.isolated = false ∧ (u.linkTakes n).notices = u.notices := by
    unfold linkTakes
    rw [hu]
    split
    · exact ⟨rfl, hu, rfl⟩
    · exact ⟨rfl, hu, rfl⟩
  have hcontent (u : State) (hu : u.peers.isolated = false) :
      u.PeersOnly (u.peerContent n p) ∧ (u.peerContent n p).peers.isolated = false ∧ (u.peerContent n p).notices = u.notices := by
    cases p with
    | demand items => exact nomatch hp
    | alert k i v => exact nomatch hp
    | status c =>
      unfold peerContent takeView
      dsimp only
      repeat' split
      all_goals exact ⟨rfl, hu, rfl⟩
    | takeover g' e' => exact ⟨rfl, hu, rfl⟩
    | handback g' e' => exact ⟨rfl, hu, rfl⟩
    | yield g' e' a l => exact ⟨rfl, hu, rfl⟩
  obtain ⟨hrosterOnly, hrosterTold⟩ := hroster (payloadKind p)
  obtain ⟨hlinkOnly, hlinkIsolated, hlinkTold⟩ := hlink _ ((rosterTakes_isolated s n (payloadKind p)).trans hi)
  obtain ⟨hcontentOnly, hcontentIsolated, hcontentTold⟩ := hcontent _ hlinkIsolated
  exact ⟨(hrosterOnly.trans hlinkOnly).trans hcontentOnly, hcontentIsolated,
    fun hn => (hcontentTold.trans hlinkTold).trans (hrosterTold hn)⟩

end State

/-- What a drivership frame out of isolation leads to: the state in which the Drivership Unit takes it, and the one at whose end of the
event the STATUS are queued; the Peer Unit has acted before the one or before the other (R140, R154). -/
structure DriverRun (s : State) (n : Nat) (p : Payload) (u w : State) : Prop where
  exec : exec (frameCommand n p) s = .next w.finish
  before : State.PeersOnly { s.setLine .notIdle with choices := u.choices } u
  after : State.PeersOnly (u.driveshipTakes n p) w
  connected : u.peers.isolated = false
  /-- A known peer's frame is told of by the Drivership Unit alone. -/
  told : s.peers.roster.any (fun x => x.station == n) = true → u.notices = s.notices ∧ w.notices = (u.driveshipTakes n p).notices

theorem driverRun (s : State) (n g : Nat) (e : Epoch) (p : Payload) (h : TakesFrame s n p) (hp : frameEpoch p = some (g, e))
    (hi : s.peers.isolated = false) : ∃ u w, DriverRun s n p u w := by
  obtain ⟨k, w, hexec, hw⟩ := exec_driverFrame s n g e p h hp
  let v : State := { s.setLine .notIdle with choices := k }
  rcases hw with rfl | ⟨rfl, hnew⟩
  · obtain ⟨honly, hconnected, htold⟩ := v.peerTakes_connected n g e p hp hi
    have hchoices : (v.peerTakes n p).choices = k := by simp [v]
    exact ⟨v.peerTakes n p, _, hexec, by rw [hchoices]; exact honly, rfl, hconnected, fun hn => ⟨htold hn, rfl⟩⟩
  · obtain ⟨honly, -, -⟩ := (v.driveshipTakes n p).peerTakes_connected n g e p hp (by simpa [v] using hi)
    exact ⟨v, _, hexec, rfl, honly, hi, fun hn => absurd ((hnew hi).symm.trans hn) (by simp)⟩

namespace DriverRun

variable {s u w : State} {n : Nat} {p : Payload}

/-- The Drivership Unit finds the station as it was, its line NOT_IDLE. -/
theorem found (h : DriverRun s n p u w) :
    u.roles = s.roles ∧ u.fans = s.fans ∧ u.txq = s.txq ∧ u.stamp = s.stamp ∧ u.line.state = .notIdle ∧ u.now = s.now ∧ u.ctl = s.ctl
      ∧ u.timing = s.timing ∧ u.temps = s.temps ∧ u.demand = s.demand ∧ u.badCount = s.badCount := by
  obtain ⟨hroles, hfans, htxq, hstamp, hline, hnow, hctl, htiming, htemps, hdemand, hbad⟩ := h.before.kept
  exact ⟨hroles, hfans, htxq, hstamp, by rw [hline]; rfl, hnow, hctl, htiming, htemps, hdemand, hbad⟩

theorem get (h : DriverRun s n p u w) {r : Nat} {role : Role} (hr : s.roles[r]? = some role) : u.roles[r]? = some role := by
  rw [h.found.1, hr]

theorem index (h : DriverRun s n p u w) {g r : Nat} (hi : s.roleIndex g = some r) : u.roleIndex g = some r := by
  rw [State.roleIndex, h.found.1]
  exact hi

theorem settled (h : DriverRun s n p u w) (hs : Settled s) : Settled u := settled_of_roles h.found.1 hs

/-- Timers that isolation freezes run (R69). -/
theorem starts (h : DriverRun s n p u w) (ms : Nat) : u.startFreezable ms = .running (s.now + ms) := by
  obtain ⟨-, -, -, -, -, hnow, -⟩ := h.found
  simp [State.startFreezable, h.connected, hnow]

theorem takeoverMs (h : DriverRun s n p u w) : u.takeoverMs = s.takeoverMs := by
  obtain ⟨-, -, -, -, -, -, -, htiming, -⟩ := h.found
  rw [State.takeoverMs, htiming, State.takeoverMs]

theorem timeBase (h : DriverRun s n p u w) : u.timeBase = s.timeBase := by
  obtain ⟨-, -, -, -, -, hnow, hctl, -⟩ := h.found
  exact timeBase_congr hctl hnow

theorem transmits (h : DriverRun s n p u w) (ht : TakesFrame s n p) : u.transmits = true := by
  obtain ⟨-, -, -, -, -, -, hctl, -⟩ := h.found
  obtain ⟨-, hs, -⟩ := ht
  exact (transmits_of_ctl hctl).trans hs

/-- The blocks that no drivership frame acts on. -/
theorem beside (h : DriverRun s n p u w) :
    w.finish.ctl = s.ctl ∧ w.finish.temps = s.temps ∧ w.finish.demand = s.demand ∧ w.finish.badCount = s.badCount := by
  obtain ⟨-, -, -, -, -, -, hctl, -, htemps, hdemand, hbad⟩ := h.found
  obtain ⟨-, -, -, -, -, -, hctl', -, htemps', hdemand', hbad'⟩ := h.after.kept
  simp [hctl', htemps', hdemand', hbad', hctl, htemps, hdemand, hbad]

/-- Where the Drivership Unit leaves no STATUS due, the event ends with what it leaves. -/
theorem ends (h : DriverRun s n p u w) (hs : Settled (u.driveshipTakes n p)) :
    w.finish.roles = (u.driveshipTakes n p).roles ∧ w.finish.fans = (u.driveshipTakes n p).fans
      ∧ w.finish.txq = (u.driveshipTakes n p).txq ∧ w.finish.notices = w.notices := by
  obtain ⟨hroles, hfans, htxq, -⟩ := h.after.kept
  rw [w.finish_settled (settled_of_roles hroles hs)]
  exact ⟨hroles, hfans, htxq, rfl⟩

end DriverRun
end Sys2Proof.Machine
end

section
/-! What a lost and a won conflict do to the drive, the queue and the notices (R35, R45, R46, R56, R67). -/

open Sys2Proof Sys2Proof.Machine

namespace Sys2Proof.Machine

namespace State

/-- The station after a conflict has been reported, if it is (R67). -/
def conflictTold (s : State) (role : Role) (n : Nat) (e : Epoch) (k : RoleKind) : State :=
  if conflictReported (role.ship.epoch.getD 0) role.cfg.kind e k then s.post .driverConflict role.cfg.group (some (n : Int)) else s

theorem takeConflict_eq (s : State) (r : Nat) (role : Role) (n : Nat) (e : Epoch) (k : RoleKind) :
    s.takeConflict r role n e k =
      if conflictWins (role.ship.epoch.getD 0) role.cfg.kind (s.ctl.station.getD 0) e k n
      then (s.conflictTold role n e k).queueStatus r else (s.conflictTold role n e k).loseConflict r role n e := rfl

/-- Reporting a conflict changes the notices alone. -/
theorem conflictTold_only (s : State) (role : Role) (n : Nat) (e : Epoch) (k : RoleKind) : s.PeersOnly (s.conflictTold role n e k) := by
  unfold conflictTold
  split <;> rfl

/-- A lost conflict at the queue: a standby's waiting YIELD is withdrawn (R67). -/
theorem loseConflict_txq (s : State) (r : Nat) (role : Role) (n : Nat) (e : Epoch) :
    (s.loseConflict r role n e).txq = match role.cfg.kind with
      | .primary => s.txq
      | .standby => s.txq.filter (fun x => x.onWire || !x.isFor .yield role.cfg.group) := by
  unfold loseConflict
  cases role.cfg.kind <;> simp [enterWatch]

/-- A lost conflict at the notices: a primary posts DISPLACED (R56). -/
theorem loseConflict_notices (s : State) (r : Nat) (role : Role) (n : Nat) (e : Epoch) :
    (s.loseConflict r role n e).notices = match role.cfg.kind with
      | .primary => s.notices.push s.timeBase .displaced role.cfg.group (some (n : Int))
      | .standby => s.notices := by
  unfold loseConflict
  cases role.cfg.kind <;> simp [enterWatch, State.timeBase]

/-- The channels of a role that has lost are released and UNCHECKED (R35). -/
theorem loseConflict_fans (s : State) (r : Nat) (role : Role) (n : Nat) (e : Epoch) (hr : s.roles[r]? = some role) :
    ∀ f ∈ (s.loseConflict r role n e).fans, f.role = some r → f.output = none ∧ f.health = .unchecked := by
  unfold loseConflict
  cases role.cfg.kind
  · exact stopActing_fans _ r _ (s.modShip_get r _ role hr)
  · exact stopActing_fans ((s.enterWatch r).withdraw .yield role.cfg.group) r _ (s.modShip_get r
      (fun sh => { sh with machine := .watch, silence := s.startFreezable s.takeoverMs }) role hr)

theorem settled_loseConflict {s : State} (hs : Settled s) (r : Nat) (role : Role) (n : Nat) (e : Epoch) :
    Settled (s.loseConflict r role n e) := by
  unfold loseConflict
  cases role.cfg.kind
  · exact settled_stopActing (settled_modShip s r _ hs) r
  · have hwatch : Settled (s.enterWatch r) := settled_modShip s r _ hs
    exact settled_stopActing (s := (s.enterWatch r).withdraw .yield role.cfg.group) (settled_of_roles (s := s.enterWatch r) rfl hwatch) r

/-- A conflict leaves the other roles. -/
theorem takeConflict_get_other (s : State) (r q : Nat) (role : Role) (n : Nat) (e : Epoch) (k : RoleKind) (hq : q ≠ r) :
    (s.takeConflict r role n e k).roles[q]? = s.roles[q]? := by
  have hroles := (s.conflictTold_only role n e k).kept.1
  rw [takeConflict_eq, ← hroles]
  split
  · exact modDrive_get_other _ r q _ hq
  · unfold loseConflict
    cases role.cfg.kind
    · exact (stopActing_get_other _ r q hq).trans (by simp [Ne.symm hq])
    · exact (stopActing_get_other _ r q hq).trans (by simp [enterWatch, Ne.symm hq])

/-- The one STATUS that is due at a driven role takes the place of the waiting ones of its group (R45, R144). -/
theorem finish_single_replaces (s : State) (r : Nat) (role role' : Role) (h : s.roles[r]? = some role) (ho : s.OthersSettled r)
    (ht : s.transmits = true) (hdue : role.drive.statusDue = true) (hdriven : role.drive.state ≠ .released)
    (h' : s.finish.roles[r]? = some role') :
    ∀ x ∈ s.txq, x.isFor .status role.cfg.group = true → x.onWire = false →
      { x with payload := .status (s.finish.statusContent role') } ∈ s.finish.txq := by
  obtain rfl : { role with drive := role.drive.flushed s.now } = role' := Option.some.inj ((finish_get s r role h).symm.trans h')
  have hcontent : s.finish.statusContent { role with drive := role.drive.flushed s.now } = s.statusContent role := by
    simp [statusContent, speedsOf]
  intro x hx hfor hwaits
  have hcoalesces : coalesces (.status (s.statusContent role)) x = true := by rw [coalesces_status]; exact hfor
  rw [hcontent, finish_single s r (List.getElem?_eq_some_iff.mp h).1 ho, flushRole_eq s r role h, if_pos ⟨hdue, hdriven⟩,
    offer_coalesce (s.modDrive r (Drive.flushed s.now)) _ ht (List.any_eq_true.mpr ⟨x, hx, hcoalesces⟩)]
  exact List.mem_map.mpr ⟨x, hx, by simp [coalesce, hcoalesces, hwaits]⟩

end State

namespace DriverRun

variable {s u w : State} {n g r : Nat} {e : Epoch} {p : Payload} {role : Role}

/-- The other roles after a conflict. -/
theorem conflict_others (run : DriverRun s n p u w) (hs : Settled s) (hp : Reports p g e) (hi : s.roleIndex g = some r)
    (hr : s.roles[r]? = some role) (hm : role.ship.machine.acting = true) :
    w.OthersSettled r ∧ ∀ q, q ≠ r → w.finish.roles[q]? = s.roles[q]? := by
  have hothers (q : Nat) (hq : q ≠ r) : w.roles[q]? = s.roles[q]? := by
    rw [run.after.kept.1, u.driveshipTakes_conflict n g r e role p hp (run.index hi) (run.get hr) hm, ← run.found.1,
      ← u.takeConflict_get_other r q role n e (role.cfg.otherRole n p) hq]
    simp [Ne.symm hq]
  have hsettled : w.OthersSettled r := State.othersSettled_of_get r hs hothers
  exact ⟨hsettled, fun q hq => (w.finish_get_other r q hsettled hq).trans (hothers q hq)⟩

/-- What is posted at a conflict before a lost one's DISPLACED (R67). -/
theorem conflict_posted (run : DriverRun s n p u w) (role : Role) (k : RoleKind) (hu : u.notices = s.notices) :
    (u.conflictTold role n e k).notices =
      if conflictReported (role.ship.epoch.getD 0) role.cfg.kind e k
      then s.notices.push s.timeBase .driverConflict role.cfg.group (some (n : Int)) else s.notices := by
  unfold State.conflictTold
  split
  · simp [hu, run.timeBase]
  · exact hu

/-- A won conflict: the role acts on with a STATUS due, and the event leaves the queue and the channels to that STATUS (R45, R67). -/
theorem conflict_won (run : DriverRun s n p u w) (hp : Reports p g e) (hi : s.roleIndex g = some r) (hr : s.roles[r]? = some role)
    (hm : role.ship.machine.acting = true)
    (hwins : conflictWins (role.ship.epoch.getD 0) role.cfg.kind (s.ctl.station.getD 0) e (role.cfg.otherRole n p) n = true) :
    w.roles[r]? = some { role with drive := { role.drive with statusDue := true }, ship := role.ship.noted e }
      ∧ w.txq = s.txq ∧ w.fans = s.fans ∧ w.stamp = s.stamp ∧ w.now = s.now ∧ w.ctl = s.ctl
      ∧ (u.driveshipTakes n p).notices = (u.conflictTold role n e (role.cfg.otherRole n p)).notices := by
  obtain ⟨hroles, hfans, htxq, hstamp, -, hnow, hctl, -⟩ := run.after.kept
  obtain ⟨-, hfans₀, htxq₀, hstamp₀, -, hnow₀, hctl₀, -⟩ := run.found
  obtain ⟨-, hfans₁, htxq₁, hstamp₁, -, hnow₁, hctl₁, -⟩ := (u.conflictTold_only role n e (role.cfg.otherRole n p)).kept
  rw [← hctl₀] at hwins
  have htaken := u.driveshipTakes_conflict n g r e role p hp (run.index hi) (run.get hr) hm
  have hget := u.takeConflict_get r role n e (role.cfg.otherRole n p) (run.get hr)
  rw [hwins] at hget
  rw [hroles, hfans, htxq, hstamp, hnow, hctl, htaken, State.modShip_get _ r _ _ hget, u.takeConflict_eq, if_pos hwins]
  refine ⟨rfl, ?_⟩
  simp [hfans₁, htxq₁, hstamp₁, hnow₁, hctl₁, hfans₀, htxq₀, hstamp₀, hnow₀, hctl₀, State.queueStatus]

/-- A lost conflict: no STATUS is due, and the event ends with what the lost role leaves (R67). -/
theorem conflict_lost (run : DriverRun s n p u w) (hs : Settled s) (hp : Reports p g e) (hi : s.roleIndex g = some r)
    (hr : s.roles[r]? = some role) (hm : role.ship.machine.acting = true)
    (hloses : conflictWins (role.ship.epoch.getD 0) role.cfg.kind (s.ctl.station.getD 0) e (role.cfg.otherRole n p) n = false) :
    let lost := (u.conflictTold role n e (role.cfg.otherRole n p)).loseConflict r role n e
    w.finish.roles[r]? = some { role with drive := role.drive.stopActing, ship := (u.lostShip role n e).noted e }
      ∧ w.finish.txq = lost.txq ∧ w.finish.fans = lost.fans ∧ w.finish.notices = w.notices
      ∧ (u.driveshipTakes n p).notices = lost.notices := by
  intro lost
  have hctl : u.ctl = s.ctl := run.found.2.2.2.2.2.2.1
  have htold := (u.conflictTold_only role n e (role.cfg.otherRole n p)).kept.1
  have htaken := u.driveshipTakes_conflict n g r e role p hp (run.index hi) (run.get hr) hm
  have hget := u.takeConflict_get r role n e (role.cfg.otherRole n p) (run.get hr)
  rw [hctl, hloses] at hget
  rw [u.takeConflict_eq, hctl, hloses, if_neg Bool.false_ne_true] at htaken hget
  have hsettled : Settled (u.driveshipTakes n p) := by
    rw [htaken]
    exact settled_modShip _ r _ (State.settled_loseConflict (settled_of_roles htold (run.settled hs)) r role n e)
  obtain ⟨hroles, hfans, htxq, hnotices⟩ := run.ends hsettled
  rw [hroles, hfans, htxq, htaken, State.modShip_get _ r _ _ hget]
  exact ⟨rfl, by simp [lost], by simp [lost], hnotices, by simp [lost]⟩

end DriverRun
end Sys2Proof.Machine

/-- Settles O43: a won conflict leaves the one STATUS it makes due (`DriverRun.conflict_won`), a lost one leaves the stopped role and no
STATUS (`DriverRun.conflict_lost`). -/
theorem conflictEffects : Obligations.ConflictEffects := by
  intro s n g r own e mine p role h hkind hconnected hpeer hroom hs hi hr hacting hepoch hown other wins reported conflict
  have hp : Reports p g e := hkind
  have hother : other = role.cfg.otherRole n p := by rcases hp with ⟨c, rfl, -, -⟩ | rfl <;> rfl
  obtain ⟨u, w, run⟩ := driverRun s n g e p h hp.frameEpoch hconnected
  obtain ⟨hbefore, hafter⟩ := run.told hpeer
  have hwins : conflictWins (role.ship.epoch.getD 0) role.cfg.kind (s.ctl.station.getD 0) e (role.cfg.otherRole n p) n = wins := by
    rw [← hother, hepoch, hown]
    rfl
  have hgroup : role.cfg.group = g := State.group_of_roleIndex hi hr
  have hposted : (u.conflictTold role n e (role.cfg.otherRole n p)).notices = conflict := by
    rw [run.conflict_posted role _ hbefore, ← hother, hepoch, hgroup]
    exact if_congr (by simp [conflictReported, reported]) rfl rfl
  clear_value other wins conflict
  obtain ⟨hsettled, hothers⟩ := run.conflict_others hs hp hi hr hacting
  cases hw : wins with
  | true =>
    obtain ⟨hget, htxq, hfans, hstamp, hnow, hctl, hnotices⟩ := run.conflict_won hp hi hr hacting (hwins.trans hw)
    have hlt := (List.getElem?_eq_some_iff.mp hget).1
    have ht : w.transmits = true := (transmits_of_ctl hctl).trans h.2.1
    have hget' := w.finish_get r _ hget
    refine ⟨w.finish, _, run.exec, hget', rfl,
      fun _ => ⟨rfl, by simp, by simp, fun hdriven => ⟨?_, fun hnone => ?_, fun x hx hfor hwaits => ?_⟩, ?_, by simp [hfans]⟩,
      nofun, nofun, nofun, hothers, run.beside⟩
    · rw [← hnow]
      exact congrArg Drive.statusTimer (Drive.flushed_due w.now { role.drive with statusDue := true } rfl hdriven)
    · rw [← hstamp]
      exact w.finish_single_queued r _ _ hget hsettled ht rfl hdriven (by rwa [htxq]) (by rwa [htxq, hgroup]) hget'
    · exact w.finish_single_replaces r _ _ hget hsettled ht rfl hdriven hget' x (by rwa [htxq]) (by rwa [hgroup]) hwaits
    · rw [w.finish_single_notices r hlt hsettled (by rwa [htxq]), hafter, hnotices, hposted]
  | false =>
    obtain ⟨hget, htxq, hfans, hnotices, htaken⟩ := run.conflict_lost hs hp hi hr hacting (hwins.trans hw)
    obtain ⟨htoldRoles, -, htoldTxq, -, -, htoldNow, htoldCtl, -⟩ := (u.conflictTold_only role n e (role.cfg.otherRole n p)).kept
    obtain ⟨-, -, htxq₀, -, -, hnow₀, hctl₀, -⟩ := run.found
    have hreleased := State.loseConflict_fans (u.conflictTold role n e (role.cfg.otherRole n p)) r role n e
      (by rw [htoldRoles]; exact run.get hr)
    have hbase : (u.conflictTold role n e (role.cfg.otherRole n p)).timeBase = s.timeBase :=
      (timeBase_congr htoldCtl htoldNow).trans run.timeBase
    rw [State.loseConflict_txq, htoldTxq, htxq₀, hgroup] at htxq
    rw [State.loseConflict_notices, hposted, hgroup, hbase, ← hafter, ← hnotices] at htaken
    refine ⟨w.finish, _, run.exec, hget, rfl, nofun, fun _ hk => ⟨?_, ?_, ?_⟩, fun _ hk => ⟨?_, ?_, ?_⟩,
      fun _ => ⟨rfl, rfl, rfl, fun f hf => hreleased f (hfans ▸ hf)⟩, hothers, run.beside⟩
    · simp [State.lostShip, hk, Ship.noted, run.starts, run.takeoverMs, hnow₀]
    · simpa [hk] using htaken
    · simpa [hk] using htxq
    · simp [State.lostShip, hk, Ship.noted, run.starts, run.takeoverMs]
    · simpa [hk] using htaken
    · simpa [hk] using htxq

end

section
/-! The handback exchange (R59, R64): a HANDBACK at a standby that acts, and the YIELD that a primary in RECLAIM accepts. -/

open Sys2Proof Sys2Proof.Machine

namespace Sys2Proof.Machine

/-! ### The frames of a group in the queue -/

/-- While a frame is received none of the station's own is on the wire (R126). -/
theorem TakesFrame.waiting {s : State} {n : Nat} {p : Payload} (h : TakesFrame s n p) : ∀ x ∈ s.txq, x.onWire = false := by
  obtain ⟨hreceiving, -⟩ := h
  simp only [State.receiving, State.ownOnWire, Bool.and_eq_true, Bool.not_eq_true', List.any_eq_false, Bool.not_eq_true] at hreceiving
  exact hreceiving.2

/-- Whether an entry stands for a group is a matter of its payload. -/
theorem QEntry.isFor_congr {x y : QEntry} (h : x.payload = y.payload) (k : FrameKind) (g : Nat) : x.isFor k g = y.isFor k g := by
  rw [QEntry.isFor, h, QEntry.isFor]

/-- A role without a partner hears every station (R53, R61, R63, R64). -/
theorem RoleCfg.hearsPartner_iff (cfg : RoleCfg) (n : Nat) : cfg.hearsPartner n = true ↔ cfg.partner = none ∨ cfg.partner = some n := by
  unfold hearsPartner
  cases cfg.partner with
  | none => simp
  | some m => simp

/-- The record of a primary that has its group back (R59). -/
def Ship.regains (e : Epoch) (sh : Ship) : Ship :=
  { sh with
    machine := .own, epoch := some e, known := some e, wait := .stopped, otherSilence := .stopped
    attempts := 0, forcing := .clear, other := none }

namespace State

/-- No frame of a kind for a group is in the queue where none waits and none is on the wire. -/
theorem no_frame_iff (s : State) (k : FrameKind) (g : Nat) :
    (∀ x ∈ s.txq, x.isFor k g = false) ↔ s.waits k g = false ∧ s.onWireFor k g = false := by
  simp only [waits, onWireFor, List.any_eq_false, Bool.and_eq_true, Bool.not_eq_true', not_and, Bool.not_eq_true]
  constructor
  · exact fun h => ⟨fun x hx _ => h x hx, fun x hx _ => h x hx⟩
  · rintro ⟨hwaits, hwire⟩ x hx
    cases hx' : x.onWire with
    | false => exact hwaits x hx hx'
    | true => exact hwire x hx hx'

/-- A withdrawn frame does not wait (R145). -/
theorem withdraw_removes (s : State) (k : FrameKind) (g : Nat) :
    ∀ x ∈ (s.withdraw k g).txq, x.onWire = false → x.isFor k g = false := by
  intro x hx hwaits
  simpa [hwaits] using (List.mem_filter.mp hx).2

/-- An offered frame enters the queue as no frame of another kind. -/
theorem offer_frames (s : State) (p : Payload) (hroom : s.txq.length < 8) (k : FrameKind) (g : Nat) (hk : payloadKind p ≠ k)
    (h : ∀ x ∈ s.txq, x.isFor k g = false) : ∀ x ∈ (s.offer p).txq, x.isFor k g = false := by
  intro x hx
  rcases offer_payload_mem s p hroom x hx with hp | ⟨y, hy, hp⟩
  · simp [QEntry.isFor, hp, hk]
  · exact (QEntry.isFor_congr hp.symm k g).trans (h y hy)

/-- Nor does the one STATUS that is due at the end of an event. -/
theorem finish_single_frames (s : State) (r : Nat) (hr : r < s.roles.length) (ho : s.OthersSettled r) (hroom : s.txq.length < 8)
    (k : FrameKind) (g : Nat) (hk : .status ≠ k) (h : ∀ x ∈ s.txq, x.isFor k g = false) :
    ∀ x ∈ s.finish.txq, x.isFor k g = false := by
  rw [finish_single s r hr ho, flushRole_eq s r _ (List.getElem?_eq_getElem hr)]
  split
  · exact offer_frames (s.modDrive r (Drive.flushed s.now)) _ hroom k g hk h
  · exact h

/-- A role record that a change leaves as it is. -/
theorem modShip_of_same (s : State) (r : Nat) (f : Ship → Ship) (role : Role) (hr : s.roles[r]? = some role)
    (hf : f role.ship = role.ship) :
    s.modShip r f = s := by
  unfold modShip modRole
  rw [modify_congr_get s.roles r (fun x => { x with ship := f x.ship }) id, List.modify_id]
  intro x hx
  obtain rfl := Option.some.inj (hr.symm.trans hx)
  rw [hf]
  rfl

/-! ### A HANDBACK at a standby that acts (R64) -/

theorem answerHandback_eq (s : State) (role : Role) (n : Nat) (e : Epoch) :
    s.answerHandback role n e =
      if (role.cfg.partner = none ∨ role.cfg.partner = some n) ∧ role.ship.epoch = some e
          ∧ ∀ x ∈ s.txq, x.isFor .yield role.cfg.group = false
      then s.offer (.yield role.cfg.group (e + 1) n role.drive.level) else s := by
  unfold answerHandback
  simp only [RoleCfg.hearsPartner_iff, no_frame_iff]

/-- An answer leaves the roles and the channels (R64). -/
theorem answerHandback_keeps (s : State) (role : Role) (n : Nat) (e : Epoch) (hroom : s.txq.length < 8) :
    (s.answerHandback role n e).roles = s.roles ∧ (s.answerHandback role n e).fans = s.fans := by
  rw [answerHandback_eq]
  split
  · exact ⟨(s.offer_with_room _ hroom).1, by simp⟩
  · exact ⟨rfl, rfl⟩

/-- A frame that is not coalesced is in the queue where there is room (R143, R144). -/
theorem offer_queued (s : State) (p : Payload) (ht : s.transmits = true) (hroom : s.txq.length < 8)
    (hc : ∀ x ∈ s.txq, coalesces p x = false) : Queued (s.offer p) s.stamp p := by
  rw [offer_room s p ht (List.any_eq_false.mpr fun x hx => by simp [hc x hx]) hroom]
  exact s.enter_queued p

theorem driveshipTakes_handback (s : State) (n g r : Nat) (e : Epoch) (role : Role) (hi : s.roleIndex g = some r)
    (hr : s.roles[r]? = some role) (hm : role.ship.machine = .act) (hroom : s.txq.length < 8) :
    s.driveshipTakes n (.handback g e) = (s.answerHandback role n e).modShip r (Ship.noted e) := by
  have hframe : s.roleFrame r role n e (.handback g e) = s.answerHandback role n e := by
    simp only [roleFrame, hm, payloadKind]
  rw [s.driveshipTakes_eq n g r e role _ rfl hi hr, hframe]
  refine checkTakeover_unclaimed _ r _ (modShip_get _ r _ role ?_) ?_
  · rw [(s.answerHandback_keeps role n e hroom).1, hr]
  · simp [Ship.noted, hm]

/-! ### A YIELD that a primary accepts (R59) -/

/-- Its waiting HANDBACK and TAKEOVER are withdrawn, and the primary acts at the frame's level. -/
theorem driveshipTakes_yield (s : State) (n g r : Nat) (e : Epoch) (a l : Nat) (role : Role) (hi : s.roleIndex g = some r)
    (hr : s.roles[r]? = some role) (hj : RoleJudged s r role) (hm : role.ship.machine = .reclaim) (hreleased : role.drive.state = .released)
    (ha : s.ctl.station = some a) (hnewer : newerThanKnown e role.ship.known = true) :
    s.driveshipTakes n (.yield g e a l) =
      ((((s.withdraw .handback g).withdraw .takeover g).modShip r (Ship.regains e)).startActing r l).post
        .handbackDone g (some (e.toNat : Int)) := by
  have haccepted : (s.acceptYield r role e l).roles[r]? =
      some { role with ship := role.ship.regains e, drive := role.drive.startActing s.now role.cfg l } :=
    startActing_get _ r l _
      (modShip_get ((s.withdraw .handback role.cfg.group).withdraw .takeover role.cfg.group) r (Ship.regains e) role hr) hj hreleased
  have hnoted : (s.acceptYield r role e l).modShip r (Ship.noted e) = s.acceptYield r role e l :=
    modShip_of_same _ r _ _ haccepted (by simp [Ship.noted, Ship.regains, noteEpoch_self])
  rw [s.driveshipTakes_eq n g r e role _ rfl hi hr, s.roleFrame_accepts r g role n e a l hm ha hnewer, hnoted,
    checkTakeover_unclaimed _ r _ haccepted (by simp [Ship.regains]), ← group_of_roleIndex hi hr]
  rfl

end State
end Sys2Proof.Machine

/-- Settles O44: a HANDBACK at ACT is answered under the conditions of `State.answerHandback_eq` and leaves no STATUS due; an accepted YIELD
starts the role's acting (`State.actingStarted`) on the queue without its HANDBACK and TAKEOVER. -/
theorem handbackExchange : Obligations.HandbackExchange := by
  intro s n g r e role hconnected hroom hs hi hr
  constructor
  · intro h hact answers heard
    obtain ⟨u, w, run⟩ := driverRun s n g e _ h rfl hconnected
    obtain ⟨-, hfans₀, htxq₀, hstamp₀, -⟩ := run.found
    have hroom₀ : u.txq.length < 8 := by rwa [htxq₀]
    obtain ⟨hroles, hfans⟩ := u.answerHandback_keeps role n e hroom₀
    have htaken := u.driveshipTakes_handback n g r e role (run.index hi) (run.get hr) hact hroom₀
    have hsettled : Settled (u.driveshipTakes n (.handback g e)) := by
      rw [htaken]
      exact settled_modShip _ r _ (settled_of_roles hroles (run.settled hs))
    obtain ⟨hroles', hfans', htxq', -⟩ := run.ends hsettled
    rw [htaken] at hroles' hfans' htxq'
    rw [State.modShip_txq, State.answerHandback_eq, State.group_of_roleIndex hi hr, htxq₀] at htxq'
    refine ⟨w.finish, run.exec, ?_, ?_, fun hanswers => ?_, fun hsilent => ?_⟩
    · rw [hroles']
      exact State.modShip_get _ r _ role (by rw [hroles, run.get hr])
    · rw [hfans', State.modShip_fans, hfans, hfans₀]
    · rw [if_pos hanswers] at htxq'
      have hqueued := u.offer_queued (.yield g (e + 1) n role.drive.level) (run.transmits h) hroom₀ fun _ _ => rfl
      rwa [Queued, ← htxq', hstamp₀] at hqueued
    · rw [htxq', if_neg hsilent, htxq₀]
  · intro a l h hreclaim hreleased hj ha hnewer
    obtain ⟨u, w, run⟩ := driverRun s n g e _ h rfl hconnected
    obtain ⟨hroles₀, hfans₀, htxq₀, -, -, hnow₀, hctl₀, -⟩ := run.found
    have hju : RoleJudged u r role := (hj.beside hfans₀ hroles₀ hctl₀).role r role (run.get hr)
    have htaken := u.driveshipTakes_yield n g r e a l role (run.index hi) (run.get hr) hju hreclaim hreleased (by rw [hctl₀, ha]) hnewer
    let v := (u.withdraw .handback g).withdraw .takeover g
    have honly : State.PeersOnly ((v.modShip r (Ship.regains e)).startActing r l) w :=
      State.PeersOnly.trans (by rw [htaken]; rfl) run.after
    have started := v.actingStarted w r l role (Ship.regains e) (run.get hr) hju (run.settled hs) hreleased honly
    have hlt : r < w.roles.length := by simpa [State.finish_roles] using (List.getElem?_eq_some_iff.mp started.get).1
    have hqueue : ∀ x ∈ v.txq, x ∈ s.txq ∧ x.isFor .handback g = false ∧ x.isFor .takeover g = false := by
      intro x hx
      obtain ⟨hx', -⟩ := List.mem_filter.mp hx
      have hmem : x ∈ s.txq := htxq₀ ▸ (List.mem_filter.mp hx').1
      have hwaits := h.waiting x hmem
      exact ⟨hmem, u.withdraw_removes .handback g x hx' hwaits, State.withdraw_removes _ .takeover g x hx hwaits⟩
    have hroom' : v.txq.length < 8 := by
      refine lt_of_le_of_lt ?_ hroom
      rw [← htxq₀]
      exact (List.length_filter_le ..).trans (List.length_filter_le ..)
    have hw : w.txq = v.txq := by simp [honly.kept.2.2.1]
    have hothers : w.OthersSettled r := State.othersSettled_of_get r (run.settled hs) fun q hq => by
      rw [honly.kept.1]
      exact (State.driveEvent_get_other _ r q _ hq).trans (by simp [v, Ne.symm hq])
    have hgroup : role.cfg.group = g := State.group_of_roleIndex hi hr
    refine ⟨w.finish, _, run.exec, started.get, rfl, ?_, ?_, ?_, fun f hf hrole => ?_, fun x hx _ => ?_, fun hpeer => ?_⟩
    · simp [Drive.startActing_state]
    · simp [Drive.startActing_level]
    · simp
    · simpa [Drive.startActing_level] using started.outputs f hf hrole
    · rw [hgroup]
      exact ⟨w.finish_single_frames r hlt hothers (hw ▸ hroom') .handback g nofun (fun y hy => (hqueue y (hw ▸ hy)).2.1) x hx,
        w.finish_single_frames r hlt hothers (hw ▸ hroom') .takeover g nofun (fun y hy => (hqueue y (hw ▸ hy)).2.2) x hx⟩
    · obtain ⟨hbefore, hafter⟩ := run.told hpeer
      rw [started.posted hroom', hafter, htaken, hgroup, ← run.timeBase, ← hbefore]
      simp [State.timeBase]

end

section
/-! SUPPORT. What the Drivership Unit leaves at a frame of a role (R51, R53, R55, R56, R59 to R64), role machine by role machine. -/

namespace Sys2Proof.Machine

/-- A role of whose configuration, claims and drive nothing has changed has no STATUS due that it had not. -/
theorem settled_of_bodies {s t : State} (h : t.roles.map Role.body = s.roles.map Role.body) (hs : Settled s) : Settled t := by
  intro x hx
  have hbody : x.body ∈ s.roles.map Role.body := h ▸ List.mem_map_of_mem hx
  obtain ⟨y, hy, hxy⟩ := List.mem_map.mp hbody
  obtain ⟨-, -, hdrive⟩ : y.cfg = x.cfg ∧ y.claims = x.claims ∧ y.drive = x.drive := by simpa [Role.body] using hxy
  exact hdrive ▸ hs y hy

/-- The drivership frames of a group with an epoch (R51). -/
theorem driverEpoch {p : Payload} {g : Nat} {e : Epoch} (hp : Reports p g e ∨ p = .handback g e ∨ ∃ a l, p = .yield g e a l) :
    frameEpoch p = some (g, e) := by
  rcases hp with hp | rfl | ⟨a, l, rfl⟩
  · exact hp.frameEpoch
  · rfl
  · rfl

/-- A standby hears its partner in any drivership frame but a YIELD (R61, R63). -/
def RoleCfg.hears (cfg : RoleCfg) (n : Nat) (p : Payload) : Bool := cfg.hearsPartner n && payloadKind p != .yield

namespace State

/-! ### What changes role records alone -/

/-- From one state to another no role changes but in its role record, and no channel does. -/
def RecordsOnly (s t : State) : Prop := t.roles.map Role.body = s.roles.map Role.body ∧ t.fans = s.fans

theorem RecordsOnly.trans {s t u : State} (h : s.RecordsOnly t) (h' : t.RecordsOnly u) : s.RecordsOnly u :=
  ⟨h'.1.trans h.1, h'.2.trans h.2⟩

theorem recordsOnly_modShip (s : State) (r : Nat) (f : Ship → Ship) : s.RecordsOnly (s.modShip r f) :=
  ⟨map_modify_of_same _ _ _ _ fun _ => rfl, rfl⟩

theorem recordsOnly_offer (s : State) (p : Payload) : s.RecordsOnly (s.offer p) :=
  ⟨offer_map Role.body (fun _ _ => rfl) s p, by simp⟩

theorem recordsOnly_queueHandback (s : State) (r : Nat) : s.RecordsOnly (s.queueHandback r) := by
  unfold queueHandback
  repeat' split
  · exact ⟨rfl, rfl⟩
  · exact ⟨rfl, rfl⟩
  · exact (recordsOnly_modShip ..).trans (recordsOnly_offer ..)

theorem recordsOnly_withdraw (s : State) (k : FrameKind) (g : Nat) : s.RecordsOnly (s.withdraw k g) := ⟨rfl, rfl⟩

/-- A standby goes back to WATCH with its TAKEOVER withdrawn (R63). -/
theorem recordsOnly_claimEnds (s : State) (r g : Nat) : s.RecordsOnly ((s.enterWatch r).withdraw .takeover g) :=
  (recordsOnly_modShip ..).trans (recordsOnly_withdraw ..)

theorem recordsOnly_hearOther (s : State) (r : Nat) (role : Role) (n : Nat) (e : Epoch) : s.RecordsOnly (s.hearOther r role n e) := by
  unfold hearOther
  dsimp only
  split
  · exact ⟨rfl, rfl⟩
  · split
    · exact (((recordsOnly_modShip ..).trans (recordsOnly_withdraw ..)).trans (recordsOnly_modShip ..)).trans
        (recordsOnly_queueHandback ..)
    · exact recordsOnly_modShip ..

theorem recordsOnly_checkTakeover (s : State) (r : Nat) : s.RecordsOnly (s.checkTakeover r) := by
  unfold checkTakeover
  split
  · exact ⟨rfl, rfl⟩
  · split
    · split
      · split
        · exact ⟨rfl, rfl⟩
        · exact recordsOnly_claimEnds ..
      · split
        · exact ⟨rfl, rfl⟩
        · exact ⟨rfl, rfl⟩
      all_goals exact ⟨rfl, rfl⟩
    · exact ⟨rfl, rfl⟩

theorem recordsOnly_answerHandback (s : State) (role : Role) (n : Nat) (e : Epoch) : s.RecordsOnly (s.answerHandback role n e) := by
  rw [answerHandback_eq]
  split
  · exact recordsOnly_offer ..
  · exact ⟨rfl, rfl⟩

/-! ### The rules of the role's state, state by state (R51) -/

section Rules

variable (s : State) (r g n : Nat) (e : Epoch) (role : Role) {p : Payload}

/-- A primary in OWN acts on no HANDBACK and no YIELD (R55). -/
theorem roleFrame_own (hm : role.ship.machine = .own) (hp : p = .handback g e ∨ ∃ a l, p = .yield g e a l) :
    s.roleFrame r role n e p = s := by
  rcases hp with rfl | ⟨a, l, rfl⟩
  all_goals simp only [roleFrame, hm, payloadKind]

/-- A standby in ACT acts on no YIELD (R64). -/
theorem roleFrame_act (a l : Nat) (hm : role.ship.machine = .act) : s.roleFrame r role n e (.yield g e a l) = s := by
  simp only [roleFrame, hm, payloadKind]

/-- A frame from the partner, but a YIELD, restarts the silence timer of a standby in WATCH (R61). -/
theorem roleFrame_watch (hm : role.ship.machine = .watch) (hp : frameEpoch p = some (g, e)) :
    s.roleFrame r role n e p = if role.cfg.hears n p = true
      then s.modShip r (fun sh => { sh with silence := s.startFreezable s.takeoverMs, pendingExpiry := false }) else s := by
  cases p <;> simp [roleFrame, hm, payloadKind, frameEpoch, RoleCfg.hears] at hp ⊢

/-- It takes a standby in CLAIMING back to WATCH (R63). -/
theorem roleFrame_claiming (hm : role.ship.machine = .claiming) (hp : frameEpoch p = some (g, e)) :
    s.roleFrame r role n e p = if role.cfg.hears n p = true
      then (s.enterWatch r).withdraw .takeover role.cfg.group else s := by
  cases p <;> simp [roleFrame, hm, payloadKind, frameEpoch, RoleCfg.hears] at hp ⊢

/-- A primary in LISTEN marks a frame that shows an acting standby (R53). -/
theorem roleFrame_listen (hm : role.ship.machine = .listen) (hp : frameEpoch p = some (g, e)) :
    s.roleFrame r role n e p = if role.cfg.showsStandby n p = true
      then s.modShip r (fun sh => { sh with
        joinMark := true, other := some (n, e), otherSilence := s.startFreezable s.takeoverMs }) else s := by
  cases p <;> simp [roleFrame, hm, payloadKind, frameEpoch, RoleCfg.showsStandby] at hp ⊢

/-- A primary in DISPLACED or RECLAIM hears of the acting other by a STATUS or a TAKEOVER (R56). -/
theorem roleFrame_reports (hm : role.ship.machine = .displaced ∨ role.ship.machine = .reclaim) (hp : Reports p g e) :
    s.roleFrame r role n e p = s.hearOther r role n e := by
  rcases hm with hm | hm <;> rcases hp.kind with hk | hk <;> simp only [roleFrame, hm, hk]

/-- A primary in DISPLACED acts on no HANDBACK and no YIELD. -/
theorem roleFrame_displaced (hm : role.ship.machine = .displaced) (hp : p = .handback g e ∨ ∃ a l, p = .yield g e a l) :
    s.roleFrame r role n e p = s := by
  rcases hp with rfl | ⟨a, l, rfl⟩
  all_goals simp only [roleFrame, hm, payloadKind]

/-- A primary in RECLAIM acts on no HANDBACK, and on no YIELD that it does not accept (R59). -/
theorem roleFrame_reclaim (hm : role.ship.machine = .reclaim) (hp : p = .handback g e ∨ ∃ a l, p = .yield g e a l)
    (hrefused : ¬s.accepts role e p) : s.roleFrame r role n e p = s := by
  rcases hp with rfl | ⟨a, l, rfl⟩
  · simp only [roleFrame, hm, payloadKind]
  · simp only [roleFrame, hm, payloadKind]
    exact if_neg fun ⟨ha, hnewer⟩ => hrefused ⟨hm, g, a, l, rfl, ha, hnewer⟩

/-- A frame that is no conflict and no accepted YIELD changes role records alone (R66, R59). -/
theorem roleFrame_recordsOnly (hp : Reports p g e ∨ p = .handback g e ∨ ∃ a l, p = .yield g e a l)
    (hconflict : ¬((role.ship.machine = .own ∨ role.ship.machine = .act) ∧ Reports p g e)) (hrefused : ¬s.accepts role e p) :
    s.RecordsOnly (s.roleFrame r role n e p) := by
  have hepoch := driverEpoch hp
  cases hm : role.ship.machine with
  | listen =>
    rw [s.roleFrame_listen r g n e role hm hepoch]
    split
    · exact recordsOnly_modShip ..
    · exact ⟨rfl, rfl⟩
  | own =>
    rcases hp with hp | hp
    · exact absurd ⟨.inl hm, hp⟩ hconflict
    · rw [s.roleFrame_own r g n e role hm hp]
      exact ⟨rfl, rfl⟩
  | displaced =>
    rcases hp with hp | hp
    · rw [s.roleFrame_reports r g n e role (.inl hm) hp]
      exact recordsOnly_hearOther ..
    · rw [s.roleFrame_displaced r g n e role hm hp]
      exact ⟨rfl, rfl⟩
  | reclaim =>
    rcases hp with hp | hp
    · rw [s.roleFrame_reports r g n e role (.inr hm) hp]
      exact recordsOnly_hearOther ..
    · rw [s.roleFrame_reclaim r g n e role hm hp hrefused]
      exact ⟨rfl, rfl⟩
  | watch =>
    rw [s.roleFrame_watch r g n e role hm hepoch]
    split
    · exact recordsOnly_modShip ..
    · exact ⟨rfl, rfl⟩
  | claiming =>
    rw [s.roleFrame_claiming r g n e role hm hepoch]
    split
    · exact recordsOnly_claimEnds ..
    · exact ⟨rfl, rfl⟩
  | act =>
    rcases hp with hp | rfl | ⟨a, l, rfl⟩
    · exact absurd ⟨.inr hm, hp⟩ hconflict
    · simp only [roleFrame, hm, payloadKind]
      exact recordsOnly_answerHandback ..
    · rw [s.roleFrame_act r g n e role a l hm]
      exact ⟨rfl, rfl⟩

theorem driveshipTakes_recordsOnly (hp : Reports p g e ∨ p = .handback g e ∨ ∃ a l, p = .yield g e a l)
    (hi : s.roleIndex g = some r) (hr : s.roles[r]? = some role)
    (hconflict : ¬((role.ship.machine = .own ∨ role.ship.machine = .act) ∧ Reports p g e)) (hrefused : ¬s.accepts role e p) :
    s.RecordsOnly (s.driveshipTakes n p) := by
  rw [s.driveshipTakes_eq n g r e role p (driverEpoch hp) hi hr]
  exact ((s.roleFrame_recordsOnly r g n e role hp hconflict hrefused).trans (recordsOnly_modShip ..)).trans (recordsOnly_checkTakeover ..)

/-! ### What the acting other becomes (R56) -/

theorem otherAfter_some (m : Nat) (old : Epoch) :
    otherAfter n e (some (m, old)) = if m = n ∨ newer e old = true then some (n, if newer e old then e else old) else none := by
  unfold otherAfter
  by_cases hmn : m = n
  · simp [hmn]
  · by_cases hnewer : newer e old = true
    · simp [hmn, hnewer]
    · simp [hmn, hnewer]

theorem hearOther_ignores (h : otherAfter n e role.ship.other = none) : s.hearOther r role n e = s := by
  simp only [hearOther, h]

theorem hearOther_renews {other : Nat × Epoch} (h : otherAfter n e role.ship.other = some other)
    (hclear : ¬(role.ship.machine = .reclaim ∧ role.ship.forcing = .silence)) :
    s.hearOther r role n e
      = s.modShip r (fun sh => { sh with other := some other, otherSilence := s.startFreezable s.takeoverMs }) := by
  simp only [hearOther, h, if_neg hclear]

/-- A forced takeover for silence ends: the TAKEOVER is withdrawn and a HANDBACK is queued (R58, R60). -/
theorem hearOther_ends {other : Nat × Epoch} (h : otherAfter n e role.ship.other = some other) (hr : s.roles[r]? = some role)
    (hm : role.ship.machine = .reclaim) (hsilence : role.ship.forcing = .silence) (hconnected : s.peers.isolated = false) :
    s.hearOther r role n e
      = ((s.withdraw .takeover role.cfg.group).modShip r (fun sh => { sh with
          other := some other, otherSilence := s.startFreezable s.takeoverMs, wait := .stopped, forcing := .clear
          attempts := 1 })).offer (.handback role.cfg.group other.2) := by
  have hask := (s.withdraw .takeover role.cfg.group).modShip_queueHandback r (fun sh => { sh with
    other := some other, otherSilence := s.startFreezable s.takeoverMs, wait := .stopped, forcing := .clear, attempts := 0 })
    role hr hconnected
  simp only [hearOther, h, if_pos (And.intro hm hsilence)]
  rw [show ∀ f, (s.modShip r f).withdraw .takeover role.cfg.group = (s.withdraw .takeover role.cfg.group).modShip r f from fun _ => rfl,
    modShip_modShip]
  exact hask

end Rules

/-! ### The waiting TAKEOVER (R60, R63) -/

theorem waitingTakeover_congr {s t : State} (h : t.txq = s.txq) (g : Nat) : t.waitingTakeover g = s.waitingTakeover g := by
  rw [waitingTakeover, h, waitingTakeover]

theorem waitingTakeover_none (s : State) (g : Nat) (h : ∀ x ∈ s.txq, x.isFor .takeover g = false) : s.waitingTakeover g = none := by
  refine List.findSome?_eq_none_iff.mpr fun x hx => ?_
  have hfor := h x hx
  split
  · next g' e' hpayload =>
    refine if_neg fun ⟨hg, _⟩ => ?_
    simp [QEntry.isFor, hpayload, payloadKind, payloadSubject, hg] at hfor
  · rfl

/-- The queue of a primary in RECLAIM after its waiting TAKEOVER has been held against the highest-known epoch (R60). -/
def rechecked (s : State) (g : Nat) (known : Option Epoch) : List QEntry :=
  match s.waitingTakeover g, known with
  | some w, some k =>
    if k = w ∨ newer k w = true then
      s.txq.map (fun x => if x.onWire = false ∧ x.isFor .takeover g = true then { x with payload := .takeover g (k + 1) } else x)
    else s.txq
  | _, _ => s.txq

theorem rechecked_congr {s t : State} (h : t.txq = s.txq) (g : Nat) (known : Option Epoch) : t.rechecked g known = s.rechecked g known := by
  unfold rechecked
  rw [waitingTakeover_congr h, h]

section Check

variable (s : State) (r : Nat) (role : Role) (hr : s.roles[r]? = some role)
include hr

/-- A primary in RECLAIM rebuilds it. -/
theorem checkTakeover_reclaim (hm : role.ship.machine = .reclaim) :
    (s.checkTakeover r).roles = s.roles ∧ (s.checkTakeover r).txq = s.rechecked role.cfg.group role.ship.known := by
  simp only [checkTakeover, rechecked, hr]
  cases s.waitingTakeover role.cfg.group with
  | none => exact ⟨rfl, rfl⟩
  | some w =>
    cases role.ship.known with
    | none => exact ⟨rfl, rfl⟩
    | some k =>
      simp only [hm]
      split
      · exact ⟨rfl, by simp [rebuildTakeover, nextEpoch]⟩
      · exact ⟨rfl, rfl⟩

/-- A standby in CLAIMING withdraws it. -/
theorem checkTakeover_claiming (hm : role.ship.machine = .claiming) {w k : Epoch} (hw : s.waitingTakeover role.cfg.group = some w)
    (hk : role.ship.known = some k) :
    s.checkTakeover r = if newer w k then s else (s.enterWatch r).withdraw .takeover role.cfg.group := by
  simp only [checkTakeover, hr, hw, hk, hm]

/-- Where none waits there is none to check. -/
theorem checkTakeover_none (hw : s.waitingTakeover role.cfg.group = none) : s.checkTakeover r = s := by
  simp only [checkTakeover, hr, hw]

end Check

end State
end Sys2Proof.Machine
end

section
/-! A role hears a frame of its group (R51, R53, R55, R56, R59 to R64). -/

open Sys2Proof Sys2Proof.Machine

namespace Sys2Proof.Machine

/-! ### Who is heard -/

theorem RoleCfg.hears_iff (cfg : RoleCfg) {n g : Nat} {e : Epoch} {p : Payload} (hp : frameEpoch p = some (g, e)) :
    cfg.hears n p = true ↔ (cfg.partner = none ∨ cfg.partner = some n) ∧ ¬∃ a l, p = .yield g e a l := by
  have hyield : payloadKind p = .yield ↔ ∃ a l, p = .yield g e a l := by
    cases p <;> simp_all [payloadKind, frameEpoch]
  rw [hears, Bool.and_eq_true, cfg.hearsPartner_iff, bne_iff_ne, ne_eq, hyield]

/-- A frame that shows an acting standby (R53). -/
theorem RoleCfg.showsStandby_iff (cfg : RoleCfg) {n g : Nat} {e : Epoch} {p : Payload} (hp : frameEpoch p = some (g, e)) :
    cfg.showsStandby n p = true ↔ (∃ c, p = .status c ∧ c.role = .standby)
      ∨ (((cfg.partner = none ∨ cfg.partner = some n) ∧ ¬∃ a l, p = .yield g e a l) ∧ p = .takeover g e) := by
  cases p with
  | status c => simp [showsStandby]
  | takeover g' e' =>
    obtain ⟨rfl, rfl⟩ : g' = g ∧ e' = e := by simpa [frameEpoch] using hp
    simp [showsStandby, cfg.hearsPartner_iff]
  | handback g' e' => simp [showsStandby]
  | yield g' e' a l => simp [showsStandby]
  | demand items => exact nomatch hp
  | alert k i v => exact nomatch hp

namespace State

/-! ### A primary in RECLAIM that goes on reclaiming (R56, R59, R60) -/

/-- Where no YIELD is accepted and no forced takeover ends, the rules mark the role record at most. -/
theorem roleFrame_reclaims (s : State) (n g r : Nat) (e : Epoch) (role : Role) (p : Payload) (hr : s.roles[r]? = some role)
    (hp : Reports p g e ∨ p = .handback g e ∨ ∃ a l, p = .yield g e a l) (hm : role.ship.machine = .reclaim)
    (hrefused : ¬s.accepts role e p)
    (hforced : ¬(Reports p g e ∧ role.ship.forcing = .silence
      ∧ ∀ m old, role.ship.other = some (m, old) → m = n ∨ newer e old = true)) :
    ∃ f, s.roleFrame r role n e p = s.modShip r f ∧ (f role.ship).machine = .reclaim ∧ (f role.ship).known = role.ship.known := by
  have hid : s.modShip r id = s := s.modShip_of_same r id role hr rfl
  rcases hp with hp | hp
  · rw [s.roleFrame_reports r g n e role (.inr hm) hp]
    cases hother : otherAfter n e role.ship.other with
    | none => exact ⟨id, by rw [s.hearOther_ignores r n e role hother, hid], hm, rfl⟩
    | some other =>
      refine ⟨_, s.hearOther_renews r n e role hother fun ⟨_, hsilence⟩ => hforced ⟨hp, hsilence, fun m old hold => ?_⟩,
        hm, rfl⟩
      rw [hold, otherAfter_some] at hother
      by_contra hno
      rw [if_neg hno] at hother
      exact nomatch hother
  · exact ⟨id, by rw [s.roleFrame_reclaim r g n e role hm hp hrefused, hid], hm, rfl⟩

/-! ### The two steps together (R51) -/

/-- A standby that ends its claim (R63), with a frame's epoch noted. -/
def claimEnded (s : State) (r g : Nat) (e : Epoch) : State := ((s.enterWatch r).withdraw .takeover g).modShip r (Ship.noted e)

theorem claimEnded_get (s : State) (r g : Nat) (e : Epoch) (role : Role) (hr : s.roles[r]? = some role) :
    (s.claimEnded r g e).roles[r]? = some { role with ship := { role.ship with
      machine := .watch, silence := s.startFreezable s.takeoverMs, known := noteEpoch e role.ship.known } } :=
  modShip_get ((s.enterWatch r).withdraw .takeover g) r (Ship.noted e) _ (s.modShip_get r
    (fun sh => { sh with machine := .watch, silence := s.startFreezable s.takeoverMs }) role hr)

theorem claimEnded_waits (s : State) (r g : Nat) (e : Epoch) :
    ∀ x ∈ (s.claimEnded r g e).txq, x.onWire = false → x.isFor .takeover g = false :=
  (s.enterWatch r).withdraw_removes .takeover g

section Takes

variable (s : State) (n g r : Nat) (e : Epoch) (role : Role) (p : Payload) (hp : frameEpoch p = some (g, e))
  (hi : s.roleIndex g = some r) (hr : s.roles[r]? = some role)
include hp hi hr

/-- The rules change the role record alone, and no TAKEOVER can wait. -/
theorem driveshipTakes_marks (f : Ship → Ship) (hframe : s.roleFrame r role n e p = s.modShip r f)
    (hm : (f role.ship).machine ≠ .claiming ∧ (f role.ship).machine ≠ .reclaim) :
    (s.driveshipTakes n p).roles[r]? = some { role with ship := (f role.ship).noted e } ∧ (s.driveshipTakes n p).txq = s.txq := by
  have hget := modShip_get _ r (Ship.noted e) _ (s.modShip_get r f role hr)
  rw [s.driveshipTakes_eq n g r e role p hp hi hr, hframe, checkTakeover_unclaimed _ r _ hget hm]
  exact ⟨hget, rfl⟩

/-- The rules change the role record of a primary in RECLAIM alone; its waiting TAKEOVER is checked (R60). -/
theorem driveshipTakes_rechecks (f : Ship → Ship) (hframe : s.roleFrame r role n e p = s.modShip r f)
    (hm : (f role.ship).machine = .reclaim) (hk : (f role.ship).known = role.ship.known) :
    (s.driveshipTakes n p).roles[r]? = some { role with ship := (f role.ship).noted e }
      ∧ (s.driveshipTakes n p).txq = s.rechecked g (noteEpoch e role.ship.known) := by
  have hget := modShip_get _ r (Ship.noted e) _ (s.modShip_get r f role hr)
  obtain ⟨hroles, htxq⟩ := checkTakeover_reclaim _ r _ hget hm
  rw [s.driveshipTakes_eq n g r e role p hp hi hr, hframe, hroles, htxq, ← hk, ← group_of_roleIndex hi hr]
  exact ⟨hget, rfl⟩

/-- The role of such a change, whether a TAKEOVER can wait or not. -/
theorem driveshipTakes_marks_get (f : Ship → Ship) (hframe : s.roleFrame r role n e p = s.modShip r f)
    (hm : (f role.ship).machine ≠ .claiming) (hk : (f role.ship).known = role.ship.known) :
    (s.driveshipTakes n p).roles[r]? = some { role with ship := (f role.ship).noted e } := by
  by_cases hreclaim : (f role.ship).machine = .reclaim
  · exact (s.driveshipTakes_rechecks n g r e role p hp hi hr f hframe hreclaim hk).1
  · exact (s.driveshipTakes_marks n g r e role p hp hi hr f hframe ⟨hm, hreclaim⟩).1

/-- The rules change nothing. -/
theorem driveshipTakes_passes (hframe : s.roleFrame r role n e p = s)
    (hm : role.ship.machine ≠ .claiming ∧ role.ship.machine ≠ .reclaim) :
    (s.driveshipTakes n p).roles[r]? = some { role with ship := role.ship.noted e } ∧ (s.driveshipTakes n p).txq = s.txq :=
  s.driveshipTakes_marks n g r e role p hp hi hr id (hframe.trans (s.modShip_of_same r id role hr rfl).symm) hm

/-- A standby in CLAIMING hears of its partner. -/
theorem driveshipTakes_claiming_heard (hm : role.ship.machine = .claiming)
    (hheard : role.cfg.hears n p = true) : s.driveshipTakes n p = s.claimEnded r g e := by
  have hget : ((s.enterWatch r).withdraw .takeover g).roles[r]? = _ := s.modShip_get r
    (fun sh => { sh with machine := .watch, silence := s.startFreezable s.takeoverMs }) role hr
  rw [s.driveshipTakes_eq n g r e role p hp hi hr, s.roleFrame_claiming r g n e role hm hp, if_pos hheard, group_of_roleIndex hi hr]
  exact checkTakeover_unclaimed _ r _ (modShip_get _ r (Ship.noted e) _ hget) (by simp [Ship.noted])

/-- Its TAKEOVER is held against the highest-known epoch at any other frame. -/
theorem driveshipTakes_claiming_checked (hm : role.ship.machine = .claiming)
    (hunheard : role.cfg.hears n p ≠ true) {w k : Epoch} (hw : s.waitingTakeover g = some w)
    (hk : noteEpoch e role.ship.known = some k) :
    s.driveshipTakes n p = if newer w k then s.modShip r (Ship.noted e) else s.claimEnded r g e := by
  have hgroup := group_of_roleIndex hi hr
  have hget := s.modShip_get r (Ship.noted e) role hr
  have hwaits : (s.modShip r (Ship.noted e)).waitingTakeover role.cfg.group = some w := by rw [hgroup]; exact hw
  rw [s.driveshipTakes_eq n g r e role p hp hi hr, s.roleFrame_claiming r g n e role hm hp, if_neg hunheard,
    checkTakeover_claiming _ r _ hget hm hwaits hk]
  split
  · rfl
  · have hcommutes (f : Ship → Ship) (hf : ∀ sh, f (Ship.noted e sh) = Ship.noted e (f sh)) :
        (s.modShip r (Ship.noted e)).modShip r f = (s.modShip r f).modShip r (Ship.noted e) := by
      simp only [modShip_modShip, hf]
    rw [hgroup]
    exact congrArg (State.withdraw · .takeover g)
      (hcommutes (fun sh => { sh with machine := .watch, silence := s.startFreezable s.takeoverMs }) fun _ => rfl)

/-- A primary in RECLAIM hears of the acting other after it has forced a takeover for silence: it asks again (R58, R60). -/
theorem driveshipTakes_silenceEnds (hreports : Reports p g e) (hm : role.ship.machine = .reclaim) (hsilence : role.ship.forcing = .silence)
    {other : Nat × Epoch} (hother : otherAfter n e role.ship.other = some other) (hconnected : s.peers.isolated = false)
    (ht : s.transmits = true) (hroom : s.txq.length < 8) (hwaiting : ∀ x ∈ s.txq, x.onWire = false) :
    (s.driveshipTakes n p).roles[r]? = some { role with ship := { role.ship with
        other := some other, otherSilence := s.startFreezable s.takeoverMs, known := noteEpoch e role.ship.known
        wait := .stopped, forcing := .clear, attempts := 1 } }
      ∧ Queued (s.driveshipTakes n p) s.stamp (.handback g other.2)
      ∧ ∀ x ∈ (s.driveshipTakes n p).txq, x.isFor .takeover g = false := by
  have hgroup := group_of_roleIndex hi hr
  let f (sh : Ship) : Ship := { sh with
    other := some other, otherSilence := s.startFreezable s.takeoverMs, wait := .stopped, forcing := .clear, attempts := 1 }
  let v := (s.withdraw .takeover g).modShip r f
  have hframe : s.roleFrame r role n e p = v.offer (.handback g other.2) := by
    rw [s.roleFrame_reports r g n e role (.inr hm) hreports, s.hearOther_ends r n e role hother hr hm hsilence hconnected, hgroup]
  have hroom' : v.txq.length < 8 := lt_of_le_of_lt (List.length_filter_le ..) hroom
  have hget : (v.offer (.handback g other.2)).roles[r]? = some { role with ship := f role.ship } := by
    rw [(v.offer_with_room _ hroom').1]
    exact modShip_get (s.withdraw .takeover g) r f role hr
  have hgone : ∀ x ∈ (v.offer (.handback g other.2)).txq, x.isFor .takeover g = false :=
    v.offer_frames _ hroom' .takeover g nofun fun x hx =>
      s.withdraw_removes .takeover g x hx (hwaiting x (List.mem_filter.mp hx).1)
  have hnoted := modShip_get _ r (Ship.noted e) _ hget
  have htakes : s.driveshipTakes n p = (v.offer (.handback g other.2)).modShip r (Ship.noted e) := by
    rw [s.driveshipTakes_eq n g r e role p hp hi hr, hframe]
    refine checkTakeover_none _ r _ hnoted (waitingTakeover_none _ _ ?_)
    rw [hgroup]
    exact hgone
  rw [htakes]
  exact ⟨hnoted, v.offer_queued _ ht hroom' fun _ _ => rfl, hgone⟩

end Takes

end State

/-- A role hears a frame, and no STATUS is due for it: the event ends with what the Drivership Unit leaves. -/
structure HeardQuietly (s u w : State) (n g r : Nat) (e : Epoch) (role : Role) (p : Payload) (x : Role) : Prop where
  run   : DriverRun s n p u w
  epoch : frameEpoch p = some (g, e)
  index : u.roleIndex g = some r
  found : u.roles[r]? = some role
  taken : (u.driveshipTakes n p).roles[r]? = some x
  txq   : w.finish.txq = (u.driveshipTakes n p).txq

namespace DriverRun

variable {s u w : State} {n g r : Nat} {e : Epoch} {p : Payload} {role : Role}

/-- The role of the frame's group is there after the event. -/
theorem role_stays (run : DriverRun s n p u w) (hr : s.roles[r]? = some role) : ∃ x, w.finish.roles[r]? = some x := by
  have hsides := congrArg (·[r]?) (u.driveshipTakes_claimSides n p)
  simp only [List.getElem?_map, run.get hr, Option.map_some] at hsides
  obtain ⟨y, hy, -⟩ := Option.map_eq_some_iff.mp hsides
  exact ⟨_, w.finish_get r y (by rw [run.after.kept.1, hy])⟩

/-- Where there is no conflict and no YIELD is accepted, the event ends with what the Drivership Unit leaves, and of the role with its
record alone changed. -/
theorem quiet (run : DriverRun s n p u w) (hs : Settled s) (hp : Reports p g e ∨ p = .handback g e ∨ ∃ a l, p = .yield g e a l)
    (hi : s.roleIndex g = some r) (hr : s.roles[r]? = some role)
    (hconflict : ¬((role.ship.machine = .own ∨ role.ship.machine = .act) ∧ Reports p g e)) (hrefused : ¬u.accepts role e p) :
    ∃ x, w.finish.roles[r]? = some x ∧ (x.drive = role.drive ∧ x.claims = role.claims ∧ x.cfg = role.cfg ∧ w.finish.fans = s.fans)
      ∧ HeardQuietly s u w n g r e role p x := by
  obtain ⟨hbodies, hfans⟩ := u.driveshipTakes_recordsOnly r g n e role hp (run.index hi) (run.get hr) hconflict hrefused
  obtain ⟨hroles', hfans', htxq', -⟩ := run.ends (settled_of_bodies hbodies (run.settled hs))
  have hbody := congrArg (·[r]?) hbodies
  simp only [List.getElem?_map, run.get hr, Option.map_some] at hbody
  obtain ⟨x, hx, hxbody⟩ := Option.map_eq_some_iff.mp hbody
  obtain ⟨hcfg, hclaims, hdrive⟩ : x.cfg = role.cfg ∧ x.claims = role.claims ∧ x.drive = role.drive := by
    simpa [Role.body] using hxbody
  exact ⟨x, by rw [hroles', hx], ⟨hdrive, hclaims, hcfg, by rw [hfans', hfans, run.found.2.1]⟩,
    ⟨run, driverEpoch hp, run.index hi, run.get hr, hx, htxq'⟩⟩

end DriverRun

namespace HeardQuietly

variable {s u w : State} {n g r : Nat} {e : Epoch} {role : Role} {p : Payload} {x : Role} (q : HeardQuietly s u w n g r e role p x)
include q

theorem eq_of_taken {y : Role} (hy : (u.driveshipTakes n p).roles[r]? = some y) : x = y := Option.some.inj (q.taken.symm.trans hy)

theorem found_txq : u.txq = s.txq := q.run.found.2.2.1

/-- The rules of the role's state change nothing. -/
theorem passes (hframe : u.roleFrame r role n e p = u) (hm : role.ship.machine ≠ .claiming ∧ role.ship.machine ≠ .reclaim) :
    x = { role with ship := role.ship.noted e } ∧ w.finish.txq = s.txq := by
  obtain ⟨hy, hq⟩ := u.driveshipTakes_passes n g r e role p q.epoch q.index q.found hframe hm
  exact ⟨q.eq_of_taken hy, q.txq.trans (hq.trans q.found_txq)⟩

/-- They change the role record alone. -/
theorem marks (f : Ship → Ship) (hframe : u.roleFrame r role n e p = u.modShip r f) (hm : (f role.ship).machine ≠ .claiming)
    (hk : (f role.ship).known = role.ship.known) : x = { role with ship := (f role.ship).noted e } :=
  q.eq_of_taken (u.driveshipTakes_marks_get n g r e role p q.epoch q.index q.found f hframe hm hk)

/-- They change nothing, though a TAKEOVER may be rebuilt. -/
theorem ignores (hframe : u.roleFrame r role n e p = u) (hm : role.ship.machine ≠ .claiming) :
    x = { role with ship := role.ship.noted e } :=
  q.marks id (hframe.trans (u.modShip_of_same r id role q.found rfl).symm) hm rfl

/-! ### Standbys (R61 to R63) -/

/-- A standby in WATCH. -/
theorem watch (hm : role.ship.machine = .watch) :
    (role.cfg.hears n p = true → x.ship = { role.ship with
        machine := .watch, silence := .running (s.now + s.takeoverMs), known := noteEpoch e role.ship.known, pendingExpiry := false })
      ∧ (role.cfg.hears n p ≠ true → x = { role with ship := role.ship.noted e } ∧ w.finish.txq = s.txq) := by
  have hframe := u.roleFrame_watch r g n e role hm q.epoch
  refine ⟨fun hheard => ?_, fun hno => ?_⟩
  · rw [if_pos hheard] at hframe
    rw [q.marks _ hframe (by simp [hm]) rfl, q.run.starts, q.run.takeoverMs, ← hm]
    rfl
  · rw [if_neg hno] at hframe
    exact q.passes hframe (by simp [hm])

/-- A standby that ends its claim. -/
theorem claimEnds (hends : u.driveshipTakes n p = u.claimEnded r g e) :
    x.ship = { role.ship with
        machine := .watch, silence := .running (s.now + s.takeoverMs), known := noteEpoch e role.ship.known }
      ∧ ∀ y ∈ w.finish.txq, y.onWire = false → y.isFor .takeover g = false := by
  rw [q.txq, hends]
  refine ⟨?_, u.claimEnded_waits r g e⟩
  rw [q.eq_of_taken (hends ▸ u.claimEnded_get r g e role q.found), q.run.starts, q.run.takeoverMs]

/-- A standby in CLAIMING whose claim goes on. -/
theorem claimGoesOn (hgoes : u.driveshipTakes n p = u.modShip r (Ship.noted e)) :
    x = { role with ship := role.ship.noted e } ∧ w.finish.txq = s.txq := by
  rw [q.txq, hgoes, ← q.found_txq]
  exact ⟨q.eq_of_taken (hgoes ▸ u.modShip_get r (Ship.noted e) role q.found), rfl⟩

/-! ### Primaries (R53, R56, R60) -/

/-- A primary in LISTEN. -/
theorem listen (hm : role.ship.machine = .listen) :
    w.finish.txq = s.txq
      ∧ (role.cfg.showsStandby n p = true → x.ship = { role.ship with
          joinMark := true, other := some (n, e), otherSilence := .running (s.now + s.takeoverMs)
          known := noteEpoch e role.ship.known })
      ∧ (role.cfg.showsStandby n p ≠ true → x = { role with ship := role.ship.noted e }) := by
  have hframe := u.roleFrame_listen r g n e role hm q.epoch
  by_cases hshown : role.cfg.showsStandby n p = true
  · rw [if_pos hshown] at hframe
    obtain ⟨hy, hq⟩ := u.driveshipTakes_marks n g r e role p q.epoch q.index q.found _ hframe (by simp [hm])
    refine ⟨q.txq.trans (hq.trans q.found_txq), fun _ => ?_, fun hno => absurd hshown hno⟩
    rw [q.eq_of_taken hy, q.run.starts, q.run.takeoverMs]
    rfl
  · rw [if_neg hshown] at hframe
    obtain ⟨hnoted, hq⟩ := q.passes hframe (by simp [hm])
    exact ⟨hq, fun hyes => absurd hyes hshown, fun _ => hnoted⟩

/-- A primary in DISPLACED or RECLAIM that no STATUS and no TAKEOVER of the acting other, or of a newer one, reaches. -/
theorem reportIgnored (hm : role.ship.machine = .displaced ∨ role.ship.machine = .reclaim) (hp : Reports p g e)
    (hother : otherAfter n e role.ship.other = none) : x = { role with ship := role.ship.noted e } :=
  q.ignores ((u.roleFrame_reports r g n e role hm hp).trans (u.hearOther_ignores r n e role hother))
    (by rcases hm with hm | hm <;> simp [hm])

/-- One that keeps its acting other up to date (R56). -/
theorem reportRenews (hm : role.ship.machine = .displaced ∨ role.ship.machine = .reclaim) (hp : Reports p g e) {other : Nat × Epoch}
    (hother : otherAfter n e role.ship.other = some other)
    (hclear : ¬(role.ship.machine = .reclaim ∧ role.ship.forcing = .silence)) :
    x.ship = { role.ship with
      other := some other, otherSilence := .running (s.now + s.takeoverMs), known := noteEpoch e role.ship.known } := by
  have hframe := (u.roleFrame_reports r g n e role hm hp).trans (u.hearOther_renews r n e role hother hclear)
  rw [q.marks _ hframe (by rcases hm with hm | hm <;> simp [hm]) rfl, q.run.starts, q.run.takeoverMs]
  rfl

/-- One whose forced takeover for silence ends: it asks again (R58, R60). -/
theorem reportEndsForcing (hm : role.ship.machine = .reclaim) (hp : Reports p g e) {other : Nat × Epoch}
    (hother : otherAfter n e role.ship.other = some other) (hsilence : role.ship.forcing = .silence) (h : TakesFrame s n p)
    (hroom : s.txq.length < 8) :
    x.ship = { role.ship with
        other := some other, otherSilence := .running (s.now + s.takeoverMs), known := noteEpoch e role.ship.known
        wait := .stopped, forcing := .clear, attempts := 1 }
      ∧ Queued w.finish s.stamp (.handback g other.2)
      ∧ ∀ y ∈ w.finish.txq, y.onWire = false → y.isFor .takeover g = false := by
  obtain ⟨-, -, htxq₀, hstamp₀, -⟩ := q.run.found
  obtain ⟨hy, hqueued, hgone⟩ := u.driveshipTakes_silenceEnds n g r e role p q.epoch q.index q.found hp hm hsilence hother
    q.run.connected (q.run.transmits h) (by rwa [htxq₀]) (by rw [htxq₀]; exact h.waiting)
  rw [hstamp₀, Queued, ← q.txq] at hqueued
  refine ⟨?_, hqueued, fun y hmem _ => hgone y (q.txq ▸ hmem)⟩
  rw [q.eq_of_taken hy, q.run.starts, q.run.takeoverMs]

/-- The queue of a primary that goes on reclaiming (R60). -/
theorem reclaims_txq (hm : role.ship.machine = .reclaim)
    (hp : Reports p g e ∨ p = .handback g e ∨ ∃ a l, p = .yield g e a l) (hrefused : ¬u.accepts role e p)
    (hforced : ¬(Reports p g e ∧ role.ship.forcing = .silence
      ∧ ∀ m old, role.ship.other = some (m, old) → m = n ∨ newer e old = true)) :
    w.finish.txq = s.rechecked g (noteEpoch e role.ship.known) := by
  obtain ⟨f, hframe, hmachine, hk⟩ := u.roleFrame_reclaims n g r e role p q.found hp hm hrefused hforced
  obtain ⟨-, hq⟩ := u.driveshipTakes_rechecks n g r e role p q.epoch q.index q.found f hframe hmachine hk
  rw [q.txq, hq, State.rechecked_congr q.found_txq]

end HeardQuietly
end Sys2Proof.Machine

/-- Settles O45: where there is no conflict and no accepted YIELD the event ends with what the Drivership Unit leaves (`DriverRun.quiet`),
and the lemmas of `HeardQuietly` say what that is, machine by machine; of a conflict and an accepted YIELD the statement says nothing. -/
theorem partnerHeard : Obligations.PartnerHeard := by
  intro s n g r e role p h hconnected hs report answer hkind hi hr sh known heard accepted ended partner back
  have hp : Reports p g e ∨ p = .handback g e ∨ ∃ a l, p = .yield g e a l := hkind
  have hepoch := driverEpoch hp
  obtain ⟨u, w, run⟩ := driverRun s n g e p h hepoch hconnected
  obtain ⟨-, -, htxq₀, -, -, -, hctl₀, -⟩ := run.found
  have hexclusive : report → ¬answer := by
    rintro (⟨c, rfl, -⟩ | rfl) ⟨a, l, hyield⟩
    · exact nomatch hyield
    · exact nomatch hyield
  have haccepts : u.accepts role e p ↔ sh.machine = .reclaim ∧ accepted := by
    constructor
    · rintro ⟨hm, g', a, l, rfl, ha, hnewer⟩
      obtain ⟨rfl, -⟩ : g' = g ∧ e = e := by simpa [frameEpoch] using hepoch
      exact ⟨hm, a, l, rfl, hctl₀ ▸ ha, hnewer⟩
    · rintro ⟨hm, a, l, hyield, ha, hnewer⟩
      exact ⟨hm, g, a, l, hyield, hctl₀ ▸ ha, hnewer⟩
  by_cases hconflict : (sh.machine = .own ∨ sh.machine = .act) ∧ report
  · obtain ⟨hm, hreport⟩ := hconflict
    obtain ⟨x, hx⟩ := run.role_stays hr
    refine ⟨w.finish, x, run.exec, hx, fun hno => absurd ⟨hm, hreport⟩ hno, ?_, ?_⟩
    · rintro (⟨-, hno⟩ | ⟨-, hanswer⟩)
      · exact absurd hreport hno
      · exact absurd hanswer (hexclusive hreport)
    · rcases hm with hm | hm <;> simp [hm]
  by_cases hrefused : sh.machine = .reclaim ∧ accepted
  · obtain ⟨hm, haccepted⟩ := hrefused
    have hanswer : answer := by
      obtain ⟨a, l, hyield, -⟩ := haccepted
      exact ⟨a, l, hyield⟩
    obtain ⟨x, hx⟩ := run.role_stays hr
    refine ⟨w.finish, x, run.exec, hx, fun _ hno => absurd ⟨hm, haccepted⟩ hno, ?_⟩
    simp [hm, haccepted, mt hexclusive (not_not.mpr hanswer)]
  have hnone := mt haccepts.mp hrefused
  obtain ⟨x, hx, hkept, q⟩ := run.quiet hs hp hi hr hconflict hnone
  have hhears : role.cfg.hears n p = true ↔ partner := role.cfg.hears_iff hepoch
  refine ⟨w.finish, x, run.exec, hx, fun _ _ => hkept, ?_, fun hm => ⟨fun hpartner => ?_, fun hno => ?_⟩,
    fun hm => ⟨fun hpartner => ?_, fun hno wait k hw hk => ?_⟩, fun hm => ?_, fun hm hreport => ?_,
    fun m old hm hreport hold => ?_, fun hm hreport _ => ?_, fun hm _ hforced => ?_⟩
  · rintro (⟨hm, hreport⟩ | ⟨hm, a, l, rfl⟩)
    · exact q.passes (u.roleFrame_own r g n e role hm (hp.resolve_left hreport)) (by simp [sh, hm])
    · exact q.passes (u.roleFrame_act r g n e role a l hm) (by simp [sh, hm])
  · exact (q.watch hm).1 (hhears.mpr hpartner)
  · exact (q.watch hm).2 (mt hhears.mp hno)
  · exact q.claimEnds (u.driveshipTakes_claiming_heard n g r e role p hepoch q.index q.found hm (hhears.mpr hpartner))
  · have hchecked := u.driveshipTakes_claiming_checked n g r e role p hepoch q.index q.found hm (mt hhears.mp hno)
      ((State.waitingTakeover_congr htxq₀ g).trans hw) hk
    exact ⟨fun hnewer => q.claimGoesOn (by rw [hchecked, if_pos hnewer]),
      fun holder => q.claimEnds (by rw [hchecked, holder, if_neg Bool.false_ne_true])⟩
  · intro shows
    have hshows : role.cfg.showsStandby n p = true ↔ shows := role.cfg.showsStandby_iff hepoch
    obtain ⟨hqueue, hshown, hno⟩ := q.listen hm
    exact ⟨hqueue, fun h => hshown (hshows.mpr h), fun h => hno (mt hshows.mp h)⟩
  · exact q.passes (u.roleFrame_displaced r g n e role hm (hp.resolve_left hreport)) (by simp [sh, hm])
  · intro counts other renewed
    have hafter : otherAfter n e role.ship.other = if counts then some (n, other) else none := by
      rw [hold]
      exact State.otherAfter_some n e m old
    refine ⟨fun hno => q.reportIgnored hm hreport (hafter.trans (if_neg hno)), fun hcounts hclear => ?_,
      fun hcounts hreclaim hsilence hroom => ?_⟩
    · exact q.reportRenews hm hreport (hafter.trans (if_pos hcounts)) hclear
    · exact q.reportEndsForcing hreclaim hreport (hafter.trans (if_pos hcounts)) hsilence h hroom
  · exact q.ignores (u.roleFrame_reclaim r g n e role hm (hp.resolve_left hreport) hnone) (by simp [sh, hm])
  · exact q.reclaims_txq hm hp hnone hforced

end

section
/-! SUPPORT. A write of one code byte without an index (R170): its action is taken on the state that the start of its transaction left. -/

namespace Sys2Proof.Machine

/-- A code byte that takes no index is acknowledged, and its action is the write's (R170). -/
theorem writeAction_bare (s : State) (code : Byte) (action : PortAction) (h : bareAction code.toNat = some action) :
    writeAction (s.judgeBytes [] [code]) = some action := by
  have hack : s.acknowledges [] code = true := by simp [State.acknowledges, h]
  have hjudged : s.judgeBytes [] [code] = [(code, true)] := by simp [State.judgeBytes, hack]
  rw [hjudged]
  exact h

/-- A whole write of a code byte that takes no index. -/
theorem State.portWrite_bare (s : State) (straps : Straps) (code : Byte) (action : PortAction) (hs : s.started = true)
    (h : bareAction code.toNat = some action) : s.portWrite straps [code] = (newTransaction s).portAct straps action := by
  rw [s.portWrite_eq straps [code] hs, writeAction_bare _ code action h]

/-- A channel at CLEAR_LATCHES keeps its latch in ABOVE alone (R82). -/
theorem TempChannel.latchCleared_eq (c : TempChannel) : c.latchCleared = { c with latch := c.latch && c.watch == .above } := by
  obtain ⟨used, cfg, health, reading, prev, watch, latch, count, critical, timer⟩ := c
  cases watch with
  | below => simp [TempChannel.latchCleared]
  | above => simp [TempChannel.latchCleared]

end Sys2Proof.Machine

open Sys2Proof Sys2Proof.Machine

/-- Settles O60: the whole write is the action CLEAR_LATCHES, which acts on the latches and the dropped count alone. -/
theorem latchesCleared : Obligations.LatchesCleared := by
  intro s hs u
  have hwrite : s.portWrite s.ctl.straps [0x41] = u.clearLatches := s.portWrite_bare s.ctl.straps 0x41 .clearLatches hs rfl
  show Host.Outcome.next (s.portWrite s.ctl.straps [0x41]) = _
  rw [hwrite, State.clearLatches, funext TempChannel.latchCleared_eq]

end

section
/-! SUPPORT. Repeated ALERT frames (R86, R113) and the status timer (R45) at a settled station. -/

namespace Sys2Proof.Machine

namespace State

/-- An ALERT offered unless one waits: at a settled station the event ends with that. -/
theorem offerUnless_finish (s : State) (waits : Bool) (p : Payload) (hs : Settled s) :
    (if waits then s else s.offer p).finish = if waits then s else s.offer p := by
  cases waits with
  | true => exact finish_settled s hs
  | false => exact finish_settled _ (settled_offer hs p)

/-- A driven role of a settled station queues its STATUS: its status timer restarts and the STATUS is offered (R45). -/
theorem queueStatus_finish (s : State) (r : Nat) (role : Role) (hr : s.roles[r]? = some role) (hdriven : role.drive.state ≠ .released)
    (hs : Settled s) :
    (s.queueStatus r).finish
      = (s.modDrive r (fun d => { d with statusTimer := .running (s.now + 1000) })).offer (.status (s.statusContent role)) := by
  have hdue : role.drive.statusDue = false := hs role (List.mem_of_getElem? hr)
  have hget : (s.queueStatus r).roles[r]? = some { role with drive := { role.drive with statusDue := true } } :=
    s.modDrive_get_self r _ role hr
  have hothers : (s.queueStatus r).OthersSettled r := othersSettled_of_get r hs fun q hq => s.modDrive_get_other r q _ hq
  have hlt : r < (s.queueStatus r).roles.length := (List.getElem?_eq_some_iff.mp hget).1
  have hdrive : (s.queueStatus r).modDrive r (Drive.flushed s.now)
      = s.modDrive r (fun d => { d with statusTimer := .running (s.now + 1000) }) := by
    unfold queueStatus modDrive modRole
    dsimp only
    rw [List.modify_modify_eq, modify_congr_get _ _ _ (fun q => { q with drive := { q.drive with statusTimer := .running (s.now + 1000) } })]
    intro q hq
    obtain rfl : role = q := Option.some.inj (hr.symm.trans hq)
    simp [Drive.flushed, hdriven, hdue]
  rw [finish_single _ r hlt hothers, flushRole_eq _ r _ hget, if_pos ⟨rfl, hdriven⟩]
  exact congrArg (fun u : State => u.offer (.status (s.statusContent role))) hdrive

end State

/-- The first entry of a group is the one that the group's number finds. -/
theorem findIdx_group (entries : List DemandEntry) (i : Nat) (d : DemandEntry) (hd : entries[i]? = some d)
    (hfirst : ∀ (j : Nat) (d' : DemandEntry), entries[j]? = some d' → d'.cfg.group = d.cfg.group → i ≤ j) :
    entries.findIdx? (fun x => x.cfg.group == d.cfg.group) = some i := by
  obtain ⟨hlt, rfl⟩ := List.getElem?_eq_some_iff.mp hd
  refine List.findIdx?_eq_some_iff_getElem.mpr ⟨hlt, by simp, fun j hj => ?_⟩
  have hne : entries[j].cfg.group ≠ entries[i].cfg.group := fun he =>
    absurd (hfirst j entries[j] (List.getElem?_eq_getElem _) he) (by omega)
  simpa using hne

end Sys2Proof.Machine

open Sys2Proof Sys2Proof.Machine

/-- Settles O29: each expiry restarts its timer and offers one frame; at a settled station the event ends with that. -/
theorem repeatsQueued : Obligations.RepeatsQueued := by
  refine ⟨fun s due hs => ⟨fun i c hc hrun => ?_, fun i d hd hfirst hrun => ?_⟩, fun s r due role hr hdriven hrun hs => ?_⟩
  · intro s'
    have hexec : exec (.criticalAlertRepeatExpiry i) s = execCriticalAlertRepeatExpiry i s := rfl
    simp only [hexec, execCriticalAlertRepeatExpiry, hc, hrun, onExpiry]
    exact congrArg _ (State.offerUnless_finish s' (s'.alertWaits .critical i) _ hs)
  · intro s'
    have hexec : exec (.saturationAlertRepeatExpiry d.cfg.group) s = execSaturationAlertRepeatExpiry d.cfg.group s := rfl
    simp only [hexec, execSaturationAlertRepeatExpiry, findIdx_group _ i d hd hfirst, hd, hrun, onExpiry]
    exact congrArg _ (State.offerUnless_finish s' (s'.alertWaits .saturation d.cfg.group) _ hs)
  · have hexec : exec (.statusTimerExpiry r) s = execStatusTimerExpiry r s := rfl
    simp only [hexec, execStatusTimerExpiry, hr, hrun, onExpiry]
    exact congrArg _ (State.queueStatus_finish (s.until due) r role hr hdriven hs)

end

section
/-! SUPPORT. A round (R79): what it does to each channel's record, and what it leaves as it is. -/

namespace Sys2Proof.Machine

/-! ### One channel's record (R77 to R86) -/

/-- A channel's record after a round that completes at an instant, at a station that sends frames or not: that of a used channel
follows its measurement, and its repeat timer starts at the entry into CRITICAL (R79, R86). -/
def TempChannel.completed (now : Nat) (sends : Bool) (m : Measurement) (c : TempChannel) : TempChannel :=
  if c.used then
    { c.round m with
      repeatTimer := if c.critical = false ∧ (c.round m).critical = true ∧ sends = true then .running (now + 5000) else c.repeatTimer }
  else c

theorem TempChannel.completed_unused (now : Nat) (sends : Bool) (m : Measurement) (c : TempChannel) (h : c.used = false) :
    c.completed now sends m = c := by
  simp [TempChannel.completed, h]

theorem TempChannel.completed_used (now : Nat) (sends : Bool) (m : Measurement) (c : TempChannel) (h : c.used = true) :
    c.completed now sends m = { c.round m with
      repeatTimer := if c.critical = false ∧ (c.round m).critical = true ∧ sends = true then .running (now + 5000)
        else c.repeatTimer } :=
  if_pos h

/-- A round keeps whether a channel is used, and its configuration. -/
theorem TempChannel.completed_keeps (now : Nat) (sends : Bool) (m : Measurement) (c : TempChannel) :
    (c.completed now sends m).used = c.used ∧ (c.completed now sends m).cfg = c.cfg := by
  unfold TempChannel.completed
  split <;> exact ⟨rfl, rfl⟩

/-- The watch state and the latch after a reading round (R81, R82). -/
theorem TempChannel.round_watch (m : Measurement) (c : TempChannel) (v : Int) (h : c.readingTaken m = some v) :
    (c.round m).watch = (if c.watch = .below then (if c.cfg.high ≤ v then .above else .below)
        else (if v < c.cfg.rel then .below else .above))
      ∧ (c.round m).latch = (c.latch || decide (c.watch = .below ∧ c.cfg.high ≤ v)) := by
  cases hw : c.watch with
  | below => by_cases hv : c.cfg.high ≤ v <;> simp [TempChannel.round, h, TempChannel.nextWatch, hw, hv]
  | above => by_cases hv : v < c.cfg.rel <;> simp [TempChannel.round, h, TempChannel.nextWatch, hw, hv]

/-- A round that is not a reading round leaves the watch state and the latch (R80). -/
theorem TempChannel.round_watch_kept (m : Measurement) (c : TempChannel) (h : c.readingTaken m = none) :
    (c.round m).watch = c.watch ∧ (c.round m).latch = c.latch := by
  cases hw : c.watch <;> simp [TempChannel.round, h, TempChannel.nextWatch, hw]

/-- A CRITICAL channel stays CRITICAL, and keeps its count but for a fault (R80, R84; log entry 11). -/
theorem TempChannel.round_of_critical (m : Measurement) (c : TempChannel) (h : c.critical = true) :
    (c.round m).critical = true ∧ (c.round m).critCount = if (c.round m).health = .valid then c.critCount else 0 := by
  refine ⟨c.round_critical m h, ?_⟩
  simp [TempChannel.round, TempChannel.nextCount, h]

/-- The count of a channel that is not CRITICAL follows the readings, and two in a row make it CRITICAL (R84). -/
theorem TempChannel.round_of_not_critical (m : Measurement) (c : TempChannel) (h : c.critical = false) :
    (c.round m).critCount = ((c.readingTaken m).map fun v => if c.cfg.crit ≤ v then c.critCount + 1 else 0).getD 0
      ∧ (c.round m).critical = decide (2 ≤ (c.round m).critCount) := by
  refine ⟨?_, by simp [TempChannel.round, h]⟩
  cases ht : c.readingTaken m <;> simp [TempChannel.round, TempChannel.nextCount, h, ht]

namespace State

/-! ### The channels' records at a round -/

theorem roundTold_temps (s : State) (i : Nat) (c after : TempChannel) :
    (s.roundTold i c after).temps = s.temps.modify i (fun _ => after) := by
  simp [roundTold]

/-- Of the records an entry into CRITICAL changes the channel's repeat timer alone, and that where the station sends (R85, R86). -/
theorem enterCritical_temps (s : State) (i : Nat) (reading : Option Int) :
    (s.enterCritical i reading).temps
      = if s.transmits then s.temps.modify i (fun c => { c with repeatTimer := .running (s.now + 5000) }) else s.temps := by
  have hsends : (s.criticalCaused i reading).transmits = s.transmits := transmits_of_ctl (by simp [criticalCaused])
  change (if (s.criticalCaused i reading).transmits then _ else s.criticalCaused i reading).temps = _
  rw [hsends]
  split
  · simp
  · simp [criticalCaused]

/-- A channel taken at a round changes its own record alone. -/
theorem takeChannel_temps (s : State) (ms : List Measurement) (i : Nat) :
    (s.takeChannel ms i).temps
      = s.temps.modify i (TempChannel.completed s.now s.transmits (ms.getD i .openCircuit)) := by
  cases hc : s.temps[i]? with
  | none => rw [modify_eq_of_get _ _ _ fun x hx => by simp [hc] at hx, takeChannel, hc]
  | some c =>
    have hat (f : TempChannel → TempChannel) (hf : f c = c.completed s.now s.transmits (ms.getD i .openCircuit)) :
        s.temps.modify i f = s.temps.modify i (TempChannel.completed s.now s.transmits (ms.getD i .openCircuit)) :=
      modify_congr_get _ _ _ _ fun x hx => Option.some.inj (hc.symm.trans hx) ▸ hf
    cases hused : c.used with
    | false =>
      have hunchanged : s.takeChannel ms i = s := by simp [takeChannel, hc, hused]
      rw [hunchanged, ← hat id (c.completed_unused _ _ _ hused).symm, List.modify_id]
    | true =>
      have hcompleted := c.completed_used s.now s.transmits (ms.getD i .openCircuit) hused
      by_cases henters : c.critical = false ∧ (c.round (ms.getD i .openCircuit)).critical = true
      · have htransmits : (s.roundTold i c (c.round (ms.getD i .openCircuit))).transmits = s.transmits := transmits_of_ctl (by simp)
        rw [takeChannel_entering s ms i c hc hused henters, enterCritical_temps, htransmits, roundTold_temps]
        obtain ⟨hcalm, hcritical⟩ := henters
        split
        · next hsends =>
          rw [List.modify_modify_eq]
          refine hat _ ?_
          rw [hcompleted, if_pos ⟨hcalm, hcritical, hsends⟩]
          simp
        · next hsilent =>
          refine hat _ ?_
          rw [hcompleted, if_neg fun h => hsilent h.2.2]
          rfl
      · rw [takeChannel_calm s ms i c hc hused henters, roundTold_temps]
        refine hat _ ?_
        rw [hcompleted, if_neg fun h => henters ⟨h.1, h.2.1⟩]
        rfl

/-! ### What a round leaves as it is -/

/-- The station beside the channels, the demand record, the roles, the queue and the notices: no event of a round changes it. -/
def besideRound (s : State) : Nat × Timer × Control × Option Timing × PeerUnit × Nat × Port :=
  (s.now, s.roundTimer, s.ctl, s.timing, s.peers, s.badCount, s.port)

theorem takeChannel_beside (s : State) (ms : List Measurement) (i : Nat) : (s.takeChannel ms i).besideRound = s.besideRound := by
  unfold takeChannel
  dsimp only
  repeat' split
  all_goals simp [besideRound]

theorem takeRound_beside (s : State) (ms : List Measurement) : (s.takeRound ms).besideRound = s.besideRound :=
  foldl_same besideRound _ _ s fun u i => u.takeChannel_beside ms i

theorem updateOwnClaims_kept (s : State) :
    s.updateOwnClaims.besideRound = s.besideRound ∧ s.updateOwnClaims.temps = s.temps := by
  simp [updateOwnClaims, besideRound]

theorem postAtComputation_kept (s : State) :
    s.postAtComputation.besideRound = s.besideRound ∧ s.postAtComputation.temps = s.temps := by
  unfold postAtComputation
  repeat' split
  all_goals simp [besideRound]

theorem takeMonitor_kept (s : State) (i : Nat) :
    (s.takeMonitor i).besideRound = s.besideRound ∧ (s.takeMonitor i).temps = s.temps := by
  unfold takeMonitor enterSaturated leaveSaturated
  dsimp only
  repeat' split
  all_goals simp [besideRound]

theorem takeMonitors_kept (s : State) : s.takeMonitors.besideRound = s.besideRound ∧ s.takeMonitors.temps = s.temps :=
  ⟨foldl_same besideRound _ _ s fun u i => (u.takeMonitor_kept i).1, foldl_same (·.temps) _ _ s fun u i => (u.takeMonitor_kept i).2⟩

/-- The computation of the Demand Unit leaves the channels and what no round changes. -/
theorem computeDemand_kept (s : State) : s.computeDemand.besideRound = s.besideRound ∧ s.computeDemand.temps = s.temps := by
  unfold computeDemand
  dsimp only
  split
  · exact ⟨rfl, rfl⟩
  · generalize hu : ({ s with demand := { s.demand with entries := s.demand.entries.map s.computeEntry, computed := true } } : State) = u
    have hbefore : u.besideRound = s.besideRound ∧ u.temps = s.temps := by rw [← hu]; exact ⟨rfl, rfl⟩
    rw [(takeMonitors_kept _).1, (takeMonitors_kept _).2, (postAtComputation_kept _).1, (postAtComputation_kept _).2,
      (updateOwnClaims_kept _).1, (updateOwnClaims_kept _).2]
    exact hbefore

theorem finish_kept (s : State) : s.finish.besideRound = s.besideRound ∧ s.finish.temps = s.temps := by simp [besideRound]

theorem besideRound_eq {s t : State} (h : t.besideRound = s.besideRound) :
    t.now = s.now ∧ t.roundTimer = s.roundTimer ∧ t.ctl = s.ctl ∧ t.timing = s.timing ∧ t.peers = s.peers
      ∧ t.badCount = s.badCount ∧ t.port = s.port := by
  simpa [besideRound] using h

/-! ### The whole round -/

/-- The first channels taken in order: each of them has its record completed, and every other has it as it was. -/
theorem takeChannels_temps (s : State) (ms : List Measurement) (n i : Nat) :
    ((List.range n).foldl (takeChannel ms) s).temps[i]?
      = if i < n then s.temps[i]?.map (TempChannel.completed s.now s.transmits (ms.getD i .openCircuit)) else s.temps[i]? := by
  induction n with
  | zero => simp
  | succ n ih =>
    rw [List.range_succ, List.foldl_append, List.foldl_cons, List.foldl_nil]
    have hbeside : ((List.range n).foldl (takeChannel ms) s).besideRound = s.besideRound :=
      foldl_same besideRound _ _ s fun u q => u.takeChannel_beside ms q
    generalize (List.range n).foldl (takeChannel ms) s = u at ih hbeside
    obtain ⟨hnow, -, hctl, -⟩ := besideRound_eq hbeside
    rw [takeChannel_temps, List.getElem?_modify, ih, hnow, transmits_of_ctl hctl]
    by_cases hn : n = i
    · subst hn
      simp
    · have hlt : i < n + 1 ↔ i < n := by omega
      simp [hn, hlt]

/-- After a round every channel has its record completed. -/
theorem takeRound_temps (s : State) (ms : List Measurement) :
    (s.takeRound ms).temps = s.temps.mapIdx fun i => TempChannel.completed s.now s.transmits (ms.getD i .openCircuit) := by
  refine List.ext_getElem? fun i => ?_
  rw [takeRound, takeChannels_temps, List.getElem?_mapIdx]
  split
  · rfl
  · next h => simp [List.getElem?_eq_none (Nat.not_lt.mp h)]

/-- ROUND_COMPLETE of a running round: every channel has its record completed, and what no round changes is as it was. -/
theorem roundComplete_channels (s : State) (ms : List Measurement) (due : Nat) (h : s.roundTimer = .running due) :
    ∃ t, exec (.roundComplete ms) s = .next t
      ∧ t.besideRound = besideRound { s with now := max s.now due, roundTimer := .running (max s.now due + 250) }
      ∧ t.temps = s.temps.mapIdx fun i => TempChannel.completed (max s.now due) s.transmits (ms.getD i .openCircuit) := by
  let begun : State := { s with now := max s.now due, roundTimer := .running (max s.now due + 250) }
  let taken := begun.takeRound ms
  let computed := if taken.transmits then taken.computeDemand else taken
  have hexec : exec (.roundComplete ms) s = .next computed.finish := by
    show execRoundComplete ms s = _
    simp only [execRoundComplete, h, onExpiry]
    rfl
  have hcomputed : computed.besideRound = taken.besideRound ∧ computed.temps = taken.temps := by
    unfold computed
    split
    · exact taken.computeDemand_kept
    · exact ⟨rfl, rfl⟩
  obtain ⟨hbeside, htemps⟩ := hcomputed
  obtain ⟨hfinished, hends⟩ := computed.finish_kept
  exact ⟨_, hexec, hfinished.trans (hbeside.trans (begun.takeRound_beside ms)),
    hends.trans (htemps.trans (begun.takeRound_temps ms))⟩

end State
end Sys2Proof.Machine

open Sys2Proof Sys2Proof.Machine

/-- Settles O21: every channel's record is completed at the round's own instant (`roundComplete_channels`), and the lemmas of
`TempChannel.round` say what that makes of it. -/
theorem roundTakesChannels : Obligations.RoundTakesChannels := by
  intro s ms due hrun
  obtain ⟨t, hexec, hbeside, htemps⟩ := s.roundComplete_channels ms due hrun
  obtain ⟨hnow, htimer, hctl, htiming, hpeers, hbad, hport⟩ := State.besideRound_eq hbeside
  refine ⟨t, hexec, hnow, htimer, hctl, htiming, hpeers, hbad, hport, by rw [htemps, List.length_mapIdx], fun i c hc => ?_⟩
  have hchannel : t.temps[i]? = some (c.completed (max s.now due) s.transmits (ms.getD i .openCircuit)) := by
    rw [htemps, List.getElem?_mapIdx, hc]
    rfl
  generalize ms.getD i .openCircuit = measured at hchannel ⊢
  obtain ⟨hused, hcfg⟩ := c.completed_keeps (max s.now due) s.transmits measured
  refine ⟨_, hchannel, hused, hcfg, fun h => c.completed_unused _ _ _ h, fun h => ?_⟩
  intro m kind health taken
  have htaken : taken = c.readingTaken m := by
    cases measured <;> rfl
  rw [c.completed_used _ _ m h, htaken]
  refine ⟨rfl, rfl, rfl, fun v hv => c.round_watch m v hv, fun hv => c.round_watch_kept m hv,
    fun hcritical => c.round_of_critical m hcritical, fun hcalm => ?_, rfl⟩
  · obtain ⟨hcount, hcritical⟩ := c.round_of_not_critical m hcalm
    intro count
    have he : (c.round m).critCount = count := by
      rw [hcount]
      unfold count
      cases c.readingTaken m <;> rfl
    exact ⟨he, he ▸ hcritical⟩

end

section
/-! SUPPORT. The curve of a channel (R92): the line between two points, rounded up, and the curve made of three such lines. -/

namespace Sys2Proof.Machine

/-! ### One line, rounded up -/

/-- A line over `run` degrees and `rise` levels, at `steps` degrees from its start: the quotient of the product, rounded up. -/
theorem segmentLevel_eq (t : Int) (l run rise steps : Nat) :
    segmentLevel t l (t + run) (l + rise) (t + steps) = l + steps * rise ⌈/⌉ run := by
  simp [segmentLevel, Nat.ceilDiv_eq_add_pred_div]

section Line

variable {t t' : Int} {l l' : Nat} (ht : t < t') (hl : l ≤ l')

include ht hl

/-- The level on a line exceeds its first one by the quotient of the product by the distance, rounded up (R92). -/
theorem segmentLevel_quotient (r : Int) (hr : t ≤ r) :
    ∃ q : Int, (q - 1) * (t' - t) < (r - t) * ((l' : Int) - l) ∧ (r - t) * ((l' : Int) - l) ≤ q * (t' - t)
      ∧ (segmentLevel t l t' l' r : Int) = l + q := by
  obtain ⟨run, rfl⟩ := Int.le.dest ht.le
  obtain ⟨rise, rfl⟩ := Nat.exists_eq_add_of_le hl
  obtain ⟨steps, rfl⟩ := Int.le.dest hr
  have hrun : 0 < run := by omega
  have habove : steps * rise ≤ run * (steps * rise ⌈/⌉ run) := (ceilDiv_le_iff_le_mul hrun).mp le_rfl
  have hbelow : run * (steps * rise ⌈/⌉ run) < steps * rise + run := by
    rw [Nat.ceilDiv_eq_add_pred_div]
    have := Nat.mul_div_le (steps * rise + run - 1) run
    omega
  refine ⟨(steps * rise ⌈/⌉ run : Nat), ?_, ?_, by rw [segmentLevel_eq]; push_cast; rfl⟩
  · zify at hbelow
    push_cast
    linarith
  · zify at habove
    push_cast
    linarith

/-- A line begins at its first level. -/
theorem segmentLevel_start : segmentLevel t l t' l' t = l := by
  obtain ⟨run, rfl⟩ := Int.le.dest ht.le
  obtain ⟨rise, rfl⟩ := Nat.exists_eq_add_of_le hl
  simpa using segmentLevel_eq t l run rise 0

/-- A line ends at its last level. -/
theorem segmentLevel_end : segmentLevel t l t' l' t' = l' := by
  obtain ⟨run, rfl⟩ := Int.le.dest ht.le
  obtain ⟨rise, rfl⟩ := Nat.exists_eq_add_of_le hl
  have hrun : 0 < run := by omega
  rw [segmentLevel_eq, ← smul_eq_mul, smul_ceilDiv hrun]

/-- A line does not fall. -/
theorem segmentLevel_mono {r r' : Int} (hr : t ≤ r) (h : r ≤ r') : segmentLevel t l t' l' r ≤ segmentLevel t l t' l' r' := by
  obtain ⟨run, rfl⟩ := Int.le.dest ht.le
  obtain ⟨rise, rfl⟩ := Nat.exists_eq_add_of_le hl
  obtain ⟨steps, rfl⟩ := Int.le.dest hr
  obtain ⟨more, rfl⟩ := Int.le.dest h
  have hrun : 0 < run := by omega
  have hsteps : t + (steps : Int) + more = t + (steps + more : Nat) := by push_cast; ring
  have hrises : steps * rise ⌈/⌉ run ≤ (steps + more) * rise ⌈/⌉ run :=
    (gc_mul_ceilDiv hrun).monotone_l (Nat.mul_le_mul_right rise (Nat.le_add_right steps more))
  rw [hsteps, segmentLevel_eq, segmentLevel_eq]
  exact Nat.add_le_add_left hrises l

/-- A line stays between its two levels. -/
theorem segmentLevel_between (r : Int) (hr : t ≤ r) (hr' : r ≤ t') :
    l ≤ segmentLevel t l t' l' r ∧ segmentLevel t l t' l' r ≤ l' := by
  have hlow := segmentLevel_mono ht hl le_rfl hr
  have hhigh := segmentLevel_mono ht hl hr hr'
  rw [segmentLevel_start ht hl] at hlow
  rw [segmentLevel_end ht hl] at hhigh
  exact ⟨hlow, hhigh⟩

end Line

/-! ### The curve (Table 5-2) -/

namespace Curve

/-- The points of a curve stand in order (Table 5-2, R90). -/
structure Ordered (c : Curve) : Prop where
  t12 : c.t1 < c.t2
  t23 : c.t2 < c.t3
  t34 : c.t3 < c.t4
  l01 : c.l0 ≤ c.l1
  l12 : c.l1 ≤ c.l2
  l23 : c.l2 ≤ c.l3
  l34 : c.l3 ≤ c.l4
  full : c.l4 ≤ 100

/-- The image tests accept a curve whose points stand in order alone. -/
theorem ordered_of_curveOk {c : Curve} (h : curveOk c = true) : c.Ordered := by
  simp only [curveOk, levelOk, Bool.and_eq_true, decide_eq_true_eq] at h
  constructor <;> omega

theorem level_below (c : Curve) (r : Int) (h : r < c.t1) : c.level r = c.l0 := if_pos h

namespace Ordered

variable {c : Curve} (h : c.Ordered)

include h

theorem level_above (r : Int) (hr : c.t4 ≤ r) : c.level r = c.l4 := by
  have ⟨h12, h23, h34, _, _, _, _, _⟩ := h
  rw [Curve.level, if_neg (by omega), if_pos hr]

/-- From T1 to T2, the points included. -/
theorem level_first (r : Int) (hr : c.t1 ≤ r) (hr' : r ≤ c.t2) : c.level r = segmentLevel c.t1 c.l1 c.t2 c.l2 r := by
  have ⟨h12, h23, h34, _, hl12, hl23, _, _⟩ := h
  rw [Curve.level, if_neg (by omega), if_neg (by omega)]
  split
  · rfl
  · obtain rfl : r = c.t2 := by omega
    rw [if_pos h23, segmentLevel_start h23 hl23, segmentLevel_end h12 hl12]

/-- From T2 to T3, the points included. -/
theorem level_second (r : Int) (hr : c.t2 ≤ r) (hr' : r ≤ c.t3) : c.level r = segmentLevel c.t2 c.l2 c.t3 c.l3 r := by
  have ⟨h12, h23, h34, _, _, hl23, hl34, _⟩ := h
  rw [Curve.level, if_neg (by omega), if_neg (by omega), if_neg (by omega)]
  split
  · rfl
  · obtain rfl : r = c.t3 := by omega
    rw [segmentLevel_start h34 hl34, segmentLevel_end h23 hl23]

/-- From T3 to T4, the points included. -/
theorem level_third (r : Int) (hr : c.t3 ≤ r) (hr' : r ≤ c.t4) : c.level r = segmentLevel c.t3 c.l3 c.t4 c.l4 r := by
  have ⟨h12, h23, h34, _, _, _, hl34, _⟩ := h
  by_cases hend : r = c.t4
  · rw [hend, h.level_above c.t4 le_rfl, segmentLevel_end h34 hl34]
  · rw [Curve.level, if_neg (by omega), if_neg (by omega), if_neg (by omega), if_neg (by omega)]

theorem level_t1 : c.level c.t1 = c.l1 := by rw [h.level_first _ le_rfl h.t12.le, segmentLevel_start h.t12 h.l12]

theorem level_t2 : c.level c.t2 = c.l2 := by rw [h.level_second _ le_rfl h.t23.le, segmentLevel_start h.t23 h.l23]

theorem level_t3 : c.level c.t3 = c.l3 := by rw [h.level_third _ le_rfl h.t34.le, segmentLevel_start h.t34 h.l34]

/-- A curve does not fall: two neighbouring readings lie on one of its pieces, or stand beside T1 (R92). -/
theorem level_mono : Monotone c.level := by
  refine monotone_int_of_le_succ fun r => ?_
  rcases lt_or_ge r c.t1 with hbelow | h1
  · rw [c.level_below r hbelow]
    rcases lt_or_ge (r + 1) c.t1 with hnext | hnext
    · rw [c.level_below _ hnext]
    · obtain hpoint : r + 1 = c.t1 := by omega
      rw [hpoint, h.level_t1]
      exact h.l01
  rcases lt_or_ge r c.t2 with hfirst | h2
  · rw [h.level_first r h1 hfirst.le, h.level_first (r + 1) (by omega) hfirst]
    exact segmentLevel_mono h.t12 h.l12 h1 (by omega)
  rcases lt_or_ge r c.t3 with hsecond | h3
  · rw [h.level_second r h2 hsecond.le, h.level_second (r + 1) (by omega) hsecond]
    exact segmentLevel_mono h.t23 h.l23 h2 (by omega)
  rcases lt_or_ge r c.t4 with hthird | h4
  · rw [h.level_third r h3 hthird.le, h.level_third (r + 1) (by omega) hthird]
    exact segmentLevel_mono h.t34 h.l34 h3 (by omega)
  · rw [h.level_above r h4, h.level_above (r + 1) (by omega)]

theorem level_le (r : Int) : c.level r ≤ 100 :=
  calc c.level r ≤ c.level (max r c.t4) := h.level_mono (le_max_left r c.t4)
    _ = c.l4 := h.level_above _ (le_max_right r c.t4)
    _ ≤ 100 := h.full

end Ordered
end Curve

/-- Between two points, where the curve is the line between them (R92). -/
theorem between_of_segment (c : Curve) {t t' r : Int} {l l' : Nat} (ht : t < t') (hl : l ≤ l') (hr : t < r) (hr' : r < t')
    (h : c.level r = segmentLevel t l t' l' r) :
    ∃ q : Int, (q - 1) * (t' - t) < (r - t) * ((l' : Int) - l) ∧ (r - t) * ((l' : Int) - l) ≤ q * (t' - t)
      ∧ (c.level r : Int) = l + q ∧ l ≤ c.level r ∧ c.level r ≤ l' := by
  obtain ⟨q, hbelow, habove, hq⟩ := segmentLevel_quotient ht hl r hr.le
  rw [h]
  exact ⟨q, hbelow, habove, hq, segmentLevel_between ht hl r hr.le hr'.le⟩

end Sys2Proof.Machine

open Sys2Proof Sys2Proof.Machine

/-- Settles O23: the curve is its three lines with their points included, each of which rises. -/
theorem curveLevel : Obligations.CurveLevel := by
  intro c hc r
  have h := Curve.ordered_of_curveOk hc
  refine ⟨c.level_below r, h.level_above r, fun he => he ▸ h.level_t1, fun he => he ▸ h.level_t2, fun he => he ▸ h.level_t3,
    fun ta tb la lb hsegment hr hr' => ?_, h.level_le r, fun r' hr' => h.level_mono hr'⟩
  simp only [Prod.mk.injEq] at hsegment
  rcases hsegment with ⟨rfl, rfl, rfl, rfl⟩ | ⟨rfl, rfl, rfl, rfl⟩ | ⟨rfl, rfl, rfl, rfl⟩
  · exact between_of_segment c h.t12 h.l12 hr hr' (h.level_first r hr.le hr'.le)
  · exact between_of_segment c h.t23 h.l23 hr hr' (h.level_second r hr.le hr'.le)
  · exact between_of_segment c h.t34 h.l34 hr hr' (h.level_third r hr.le hr'.le)

end

section
/-! SUPPORT. The level and the reason of a demand group (R94, R96), the boost (R95), and when a DEMAND is called for (R98). -/

namespace Sys2Proof.Machine

/-! ### Level and reason -/

/-- A level above 100 is taken as 100 (R96). -/
theorem demandLevel_eq (cfg : DemandCfg) (curve fault : Nat) (boosted : Bool) :
    demandLevel cfg curve fault boosted =
      if 100 < max curve fault + (if boosted then cfg.boost else 0) then 100
      else max curve fault + (if boosted then cfg.boost else 0) :=
  min_def_lt 100 _

/-! ### The boost -/

namespace State

/-- A group is degraded by the condition of its own acting role, and without one by that of a FRESH view (R95). -/
theorem degraded_iff (s : State) (g : Nat) :
    s.degraded g = true ↔
      (∃ role, s.actingRole g = some role ∧ (role.drive.condition = .degraded ∨ role.drive.condition = .failed))
        ∨ (s.actingRole g = none ∧ ∃ v, s.view g = some v ∧ v.stale = false ∧ (v.condition = .degraded ∨ v.condition = .failed)) := by
  unfold degraded countedCondition
  cases hrole : s.actingRole g with
  | some role => cases hc : role.drive.condition <;> simp [hc]
  | none =>
    cases hview : s.view g with
    | none => simp
    | some v =>
      cases hstale : v.stale with
      | true => simp [hstale]
      | false => cases hc : v.condition <;> simp [hstale, hc]

theorem boostApplies_iff (s : State) (cfg : DemandCfg) :
    s.boostApplies cfg = true ↔ 0 < cfg.boost ∧ ∃ g ∈ cfg.neighbours, s.degraded g = true := by
  simp [boostApplies]

end State

/-! ### Posting -/

/-- An entry calls for a DEMAND while nothing has been posted for it, or by its distance from the last posted level, by an end of the
range that it has reached, or by its reason (R98). -/
theorem DemandEntry.calls_iff (threshold : Nat) (d : DemandEntry) :
    d.calls threshold = true ↔ d.last = none ∨ ∃ level reason, d.last = some (level, reason)
      ∧ (level + threshold ≤ d.level ∨ d.level + threshold ≤ level
          ∨ (d.level = 0 ∧ level ≠ 0) ∨ (d.level = 100 ∧ level ≠ 100) ∨ d.reason ≠ reason) := by
  unfold DemandEntry.calls
  cases hlast : d.last with
  | none => simp
  | some posted =>
    obtain ⟨level, reason⟩ := posted
    simp [or_assoc]

namespace State

theorem callsForDemand_iff (s : State) :
    s.callsForDemand = true ↔
      s.demand.sent = false ∨ ∃ d ∈ s.demand.entries, d.calls ((s.timing.map (·.threshold)).getD 0) = true := by
  simp [callsForDemand]

/-- At a settled station the refresh timer's expiry restarts the timer and offers the record, unless a DEMAND is on the link (R101). -/
theorem refreshTimerExpiry_settled (s : State) (due : Nat) (hrun : s.demand.refresh = .running due) (hs : Settled s) :
    exec .refreshTimerExpiry s =
      .next (if s.demandOnWire then (s.until due).restartRefresh else (s.until due).restartRefresh.offer s.demandFrame) := by
  have hexec : exec .refreshTimerExpiry s = .next (if (s.until due).restartRefresh.demandOnWire then (s.until due).restartRefresh
      else (s.until due).restartRefresh.offer (s.until due).restartRefresh.demandFrame).finish := by
    show execRefreshTimerExpiry s = _
    simp only [execRefreshTimerExpiry, hrun, onExpiry]
  have hsettled : Settled (s.until due).restartRefresh := hs
  have hwire : (s.until due).restartRefresh.demandOnWire = s.demandOnWire := rfl
  rw [hexec, hwire]
  exact congrArg _ (offerUnless_finish _ s.demandOnWire _ hsettled)

end State
end Sys2Proof.Machine

open Sys2Proof Sys2Proof.Machine

/-- Settles O24: the level without and with the boost, and the reason by its order. -/
theorem levelAndReason : Obligations.LevelAndReason := by
  intro cfg curve fault boosted base
  refine ⟨?_, ?_, ?_, ?_, ?_⟩
  · rintro rfl
    exact demandLevel_eq cfg curve fault true
  · rintro rfl
    exact demandLevel_eq cfg curve fault false
  · rintro rfl
    rfl
  · rintro rfl hfault
    exact if_pos hfault
  · rintro rfl hfault
    exact if_neg hfault

/-- Settles O26: a neighbour group is degraded by the one condition that counts. -/
theorem boostApplies : Obligations.BoostApplies := by
  intro s cfg
  simp only [s.boostApplies_iff, s.degraded_iff]

/-- Settles O27: the conditions of R98 entry by entry, the cases of a computation, and the expiry at a settled station. -/
theorem demandPosting : Obligations.DemandPosting := by
  intro s
  refine ⟨?_, fun hwaits => ?_, fun hwaits hwire => ?_, fun hwaits hwire => ?_, fun due hrun hs => ?_⟩
  · simp only [s.callsForDemand_iff, DemandEntry.calls_iff]
  · rw [State.postAtComputation, if_pos hwaits]
  · rw [State.postAtComputation, if_neg (by simp [hwaits]), if_pos hwire]
  · rw [State.postAtComputation, if_neg (by simp [hwaits]), if_neg (by simp [hwire])]
  · intro s'
    have hexec := s.refreshTimerExpiry_settled due hrun hs
    refine ⟨fun hwire => ?_, fun hwire => ?_⟩
    · rw [hexec, if_pos hwire]
      rfl
    · rw [hexec, if_neg (by simp [hwire])]
      rfl

end

section
/-! SUPPORT. What a round computes from the channels (R93, R94), and what posting and the monitors leave of it (R97). -/

namespace Sys2Proof.Machine

/-! ### Curve part and fault part -/

theorem curveOf_eq (temps : List TempChannel) (k : Curve) :
    curveOf temps k = temps[k.channel]?.bind (fun x => if x.health = .valid then x.reading.map k.level else none) := by
  unfold curveOf
  cases temps[k.channel]? <;> rfl

/-- The curve part is the largest curve level that a channel of the group gives, and 0 where none gives one (R93). -/
theorem curvePart_greatest (temps : List TempChannel) (cfg : DemandCfg) :
    (∀ n ∈ cfg.curves.filterMap (curveOf temps), n ≤ curvePart temps cfg)
      ∧ (curvePart temps cfg = 0 ∨ curvePart temps cfg ∈ cfg.curves.filterMap (curveOf temps)) := by
  obtain ⟨hmem, -, hlargest⟩ := foldl_max_greatest (cfg.curves.filterMap (curveOf temps)) 0
  exact ⟨hlargest, hmem⟩

theorem channelFaulted_iff (temps : List TempChannel) (i : Nat) :
    channelFaulted temps i = true ↔ ∃ x, temps[i]? = some x ∧ x.health ≠ .valid := by
  unfold channelFaulted
  cases temps[i]? <;> simp

/-- The fault part is the channel-fault level exactly where a channel of the group is faulted (R94). -/
theorem faultPart_eq (temps : List TempChannel) (cfg : DemandCfg) :
    faultPart temps cfg =
      if ∃ k ∈ cfg.curves, ∃ x : TempChannel, temps[k.channel]? = some x ∧ x.health ≠ .valid then cfg.faultLevel else 0 :=
  if_congr (by simp only [List.any_eq_true, channelFaulted_iff]) rfl rfl

/-! ### What posting and the monitors leave -/

/-- A demand record entry, its saturation monitor apart. -/
def DemandEntry.unmonitored (d : DemandEntry) : DemandEntry := { d with sat := .clear, satCount := 0, satRepeat := .stopped }

theorem DemandEntry.unmonitored_eq {d e : DemandEntry} (h : d.unmonitored = e.unmonitored) :
    d.cfg = e.cfg ∧ d.level = e.level ∧ d.reason = e.reason ∧ d.curvePart = e.curvePart ∧ d.faultPart = e.faultPart
      ∧ d.boosted = e.boosted ∧ d.last = e.last := by
  simpa [unmonitored] using h

namespace State

/-- The roles without their role records, the fans, and the demand record without its monitors: neither the posting of a DEMAND nor a
monitor changes them. -/
def besidePosting (s : State) : List (RoleCfg × ClaimTable × Drive) × List FanChannel × List DemandEntry :=
  (s.roles.map Role.body, s.fans, s.demand.entries.map DemandEntry.unmonitored)

theorem besidePosting_eq {s t : State} (h : t.besidePosting = s.besidePosting) :
    t.roles.map Role.body = s.roles.map Role.body ∧ t.fans = s.fans
      ∧ t.demand.entries.map DemandEntry.unmonitored = s.demand.entries.map DemandEntry.unmonitored := by
  simpa [besidePosting] using h

theorem offer_besidePosting (s : State) (p : Payload) : (s.offer p).besidePosting = s.besidePosting := by
  simp [besidePosting, offer_map Role.body (fun _ _ => rfl)]

theorem modEntry_besidePosting (s : State) (i : Nat) (f : DemandEntry → DemandEntry) (hf : ∀ d, (f d).unmonitored = d.unmonitored) :
    (s.modEntry i f).besidePosting = s.besidePosting := by
  simp [besidePosting, map_modify_of_same _ f _ i hf]

theorem postAtComputation_besidePosting (s : State) : s.postAtComputation.besidePosting = s.besidePosting := by
  unfold postAtComputation
  repeat' split
  · exact offer_besidePosting s _
  · rfl
  · exact offer_besidePosting s _
  · rfl

theorem enterSaturated_besidePosting (s : State) (i : Nat) (d : DemandEntry) : (s.enterSaturated i d).besidePosting = s.besidePosting := by
  have htold : ((s.modEntry i (fun d => { d with sat := .saturated, satCount := s.saturationQuarters })).post .saturated d.cfg.group
      (some d.level)).evaluateThrottle.besidePosting = s.besidePosting := s.modEntry_besidePosting i _ fun _ => rfl
  unfold enterSaturated
  dsimp only
  split
  · rw [offer_besidePosting]
    refine (modEntry_besidePosting _ i _ ?_).trans htold
    exact fun _ => rfl
  · exact htold

theorem leaveSaturated_besidePosting (s : State) (i : Nat) (d : DemandEntry) : (s.leaveSaturated i d).besidePosting = s.besidePosting := by
  have htold : ((s.modEntry i (fun d => { d with sat := .clear, satCount := 0, satRepeat := .stopped })).post .saturationCleared
      d.cfg.group (some d.curvePart)).evaluateThrottle.besidePosting = s.besidePosting := s.modEntry_besidePosting i _ fun _ => rfl
  unfold leaveSaturated
  dsimp only
  split
  · rw [offer_besidePosting, htold]
  · exact htold

/-- What a monitor does at a computation (Table 6-3): nothing, a change of its own record, or the entry into SATURATED or the exit. -/
theorem takeMonitor_cases (s : State) (i : Nat) :
    s.takeMonitor i = s ∨ (∃ f, s.takeMonitor i = s.modEntry i f ∧ ∀ d, (f d).unmonitored = d.unmonitored)
      ∨ ∃ d, s.takeMonitor i = s.enterSaturated i d ∨ s.takeMonitor i = s.leaveSaturated i d := by
  unfold takeMonitor
  repeat' split
  · exact .inl rfl
  · exact .inr (.inr ⟨_, .inr rfl⟩)
  · exact .inl rfl
  · exact .inr (.inl ⟨_, rfl, fun _ => rfl⟩)
  · exact .inr (.inr ⟨_, .inl rfl⟩)
  · exact .inr (.inl ⟨_, rfl, fun _ => rfl⟩)
  · exact .inr (.inl ⟨_, rfl, fun _ => rfl⟩)
  · exact .inl rfl
  · exact .inr (.inl ⟨_, rfl, fun _ => rfl⟩)
  · exact .inr (.inl ⟨_, rfl, fun _ => rfl⟩)

theorem takeMonitor_besidePosting (s : State) (i : Nat) : (s.takeMonitor i).besidePosting = s.besidePosting := by
  rcases s.takeMonitor_cases i with he | ⟨f, he, hf⟩ | ⟨d, he | he⟩ <;> rw [he]
  · exact s.modEntry_besidePosting i f hf
  · exact s.enterSaturated_besidePosting i d
  · exact s.leaveSaturated_besidePosting i d

theorem takeMonitors_besidePosting (s : State) : s.takeMonitors.besidePosting = s.besidePosting :=
  foldl_same besidePosting _ _ s takeMonitor_besidePosting

/-! ### What a round leaves of the demand record -/

theorem takeRound_demand (s : State) (ms : List Measurement) : (s.takeRound ms).demand = s.demand := by
  refine foldl_same (·.demand) _ _ s fun u i => ?_
  unfold takeChannel
  dsimp only
  repeat' split
  all_goals simp

end State
end Sys2Proof.Machine
end

section
/-! SUPPORT. The frames that a round adds to a transmit queue with room: an ALERT at each used channel at most, a DEMAND, and an ALERT
at each monitor at most; none of them is a STATUS (R85, R98, R112, R114). -/

namespace Sys2Proof.Machine

/-- From one state to another a transmit queue with room for so many more frames becomes at most so much longer, and by no STATUS. -/
def State.AddsFrames (s t : State) (n : Nat) : Prop :=
  s.txq.length + n ≤ 8 →
    t.txq.length ≤ s.txq.length + n ∧ s.stamp ≤ t.stamp
      ∧ ∀ g, (∀ e ∈ s.txq, e.isFor .status g = false) → ∀ e ∈ t.txq, e.isFor .status g = false

namespace State

theorem AddsFrames.same {s t : State} (n : Nat) (htxq : t.txq = s.txq) (hstamp : t.stamp = s.stamp) : s.AddsFrames t n := fun _ =>
  ⟨by rw [htxq]; omega, hstamp.ge, fun _ h => by rwa [htxq]⟩

theorem AddsFrames.trans {s t u : State} {n m : Nat} (h : s.AddsFrames t n) (h' : t.AddsFrames u m) : s.AddsFrames u (n + m) := by
  intro hroom
  obtain ⟨hlength, hstamp, hnone⟩ := h (by omega)
  obtain ⟨hlength', hstamp', hnone'⟩ := h' (by omega)
  exact ⟨by omega, hstamp.trans hstamp', fun g hg => hnone' g (hnone g hg)⟩

theorem AddsFrames.offer (s : State) (p : Payload) (hp : payloadKind p ≠ .status) : s.AddsFrames (s.offer p) 1 := by
  intro hroom
  obtain ⟨-, -, hlength, hstamp⟩ := s.offer_with_room p (by omega)
  refine ⟨hlength, hstamp, fun g hg e he => ?_⟩
  unfold QEntry.isFor
  rcases s.offer_payload_mem p (by omega) e he with hnew | ⟨x, hx, hold⟩
  · simp [hnew, hp]
  · rw [← hold]
    exact hg x hx

theorem AddsFrames.foldl {β : Type} (f : State → β → State) (h : ∀ (s : State) (x : β), s.AddsFrames (f s x) 1) (xs : List β)
    (s : State) : s.AddsFrames (xs.foldl f s) xs.length := by
  induction xs generalizing s with
  | nil => exact .same 0 rfl rfl
  | cons x xs ih =>
    rw [List.length_cons, Nat.add_comm]
    exact (h s x).trans (ih _)

/-- An ALERT that is offered after changes beside the queue, if the station sends. -/
theorem alert_addsFrames (s u v : State) (p : Payload) (hp : payloadKind p ≠ .status) (hu : u.txq = s.txq ∧ u.stamp = s.stamp)
    (hv : v.txq = s.txq ∧ v.stamp = s.stamp) : s.AddsFrames (if u.transmits then v.offer p else u) 1 := by
  split
  · exact (AddsFrames.same 0 hv.1 hv.2).trans (.offer v p hp)
  · exact .same 1 hu.1 hu.2

/-! ### The channels -/

theorem enterCritical_addsFrames (s : State) (i : Nat) (reading : Option Int) : s.AddsFrames (s.enterCritical i reading) 1 := by
  have hcaused : (s.criticalCaused i reading).txq = s.txq ∧ (s.criticalCaused i reading).stamp = s.stamp := by simp [criticalCaused]
  exact alert_addsFrames s (s.criticalCaused i reading) _ _ (by simp [payloadKind]) hcaused hcaused

/-- A channel taken at a round adds a frame at most, and none where it is not used. -/
theorem takeChannel_addsFrames (s : State) (ms : List Measurement) (i : Nat) :
    s.AddsFrames (s.takeChannel ms i) (s.temps[i]?.toList.filter (·.used)).length := by
  cases hc : s.temps[i]? with
  | none => exact .same _ (by simp [takeChannel, hc]) (by simp [takeChannel, hc])
  | some c =>
    cases hused : c.used with
    | false => exact .same _ (by simp [takeChannel, hc, hused]) (by simp [takeChannel, hc, hused])
    | true =>
      have hone : ((some c).toList.filter (·.used)).length = 1 := by simp [hused]
      rw [hone]
      have htold (after : TempChannel) (n : Nat) : s.AddsFrames (s.roundTold i c after) n := .same n (by simp) (by simp)
      by_cases henters : c.critical = false ∧ (c.round (ms.getD i .openCircuit)).critical = true
      · rw [takeChannel_entering s ms i c hc hused henters]
        exact (htold _ 0).trans (enterCritical_addsFrames _ i _)
      · rw [takeChannel_calm s ms i c hc hused henters]
        exact htold _ 1

/-- A round adds a frame for each used channel at most. -/
theorem takeRound_addsFrames (s : State) (ms : List Measurement) :
    s.AddsFrames (s.takeRound ms) (s.temps.filter (·.used)).length := by
  have key (n : Nat) : s.AddsFrames ((List.range n).foldl (takeChannel ms) s) ((s.temps.take n).filter (·.used)).length := by
    induction n with
    | zero => exact .same _ rfl rfl
    | succ n ih =>
      have huntaken : ((List.range n).foldl (takeChannel ms) s).temps[n]? = s.temps[n]? := by
        rw [takeChannels_temps, if_neg (Nat.lt_irrefl n)]
      rw [List.range_succ, List.foldl_append, List.foldl_cons, List.foldl_nil, List.take_add_one, List.filter_append,
        List.length_append, ← huntaken]
      exact ih.trans (takeChannel_addsFrames _ ms n)
  have hall := key s.temps.length
  rwa [List.take_length] at hall

/-! ### The DEMAND and the monitors -/

theorem postAtComputation_addsFrames (s : State) : s.AddsFrames s.postAtComputation 1 := by
  have hoffer : s.AddsFrames (s.offer s.demandFrame) 1 := .offer s _ (by simp [demandFrame, payloadKind])
  unfold postAtComputation
  repeat' split
  · exact hoffer
  · exact .same 1 rfl rfl
  · exact hoffer
  · exact .same 1 rfl rfl

theorem takeMonitor_addsFrames (s : State) (i : Nat) : s.AddsFrames (s.takeMonitor i) 1 := by
  rcases s.takeMonitor_cases i with he | ⟨f, he, -⟩ | ⟨d, he | he⟩ <;> rw [he]
  · exact .same 1 rfl rfl
  · exact .same 1 rfl rfl
  · exact alert_addsFrames s _ _ _ (by simp [payloadKind]) ⟨rfl, rfl⟩ ⟨rfl, rfl⟩
  · exact alert_addsFrames s _ _ _ (by simp [payloadKind]) ⟨rfl, rfl⟩ ⟨rfl, rfl⟩

theorem takeMonitors_addsFrames (s : State) : s.AddsFrames s.takeMonitors s.demand.entries.length := by
  simpa [takeMonitors] using AddsFrames.foldl takeMonitor takeMonitor_addsFrames (List.range s.demand.entries.length) s

end State
end Sys2Proof.Machine
end

section
/-! SUPPORT. The computation at a round (R97): the OWN claims, the targets and the drives that follow from them (R6, R21, R36 to R41). -/

open Sys2Proof Sys2Proof.Machine

namespace Sys2Proof.Machine

/-! ### OWN claims (R6) -/

/-- A role's configuration and claim table. -/
def Role.claimTable (role : Role) : RoleCfg × ClaimTable := (role.cfg, role.claims)

/-- The OWN claim changes a role's table alone. -/
theorem Role.takeOwn_keeps (entries : List DemandEntry) (role : Role) :
    (role.takeOwn entries).cfg = role.cfg ∧ (role.takeOwn entries).drive = role.drive := by
  unfold takeOwn
  split <;> exact ⟨rfl, rfl⟩

/-- Every OWN entry holds the level and reason of the one demand entry of its role's group (R6). -/
theorem Role.takeOwn_live (entries : List DemandEntry) (hd : (entries.map (·.cfg.group)).Nodup) (role : Role) (d : DemandEntry)
    (hmem : d ∈ entries) (hg : d.cfg.group = role.cfg.group) :
    ∀ e ∈ (role.takeOwn entries).claims.entries, e.kind = .own → e.live = some ⟨d.level, d.reason, 0⟩ := by
  have hfind : entries.find? (fun x => x.cfg.group == role.cfg.group) = some d := by
    cases hf : entries.find? (fun x => x.cfg.group == role.cfg.group) with
    | none => exact absurd hg (by simpa using List.find?_eq_none.mp hf d hmem)
    | some x =>
      have hx : x.cfg.group = role.cfg.group := by simpa using List.find?_some hf
      exact congrArg some (List.inj_on_of_nodup_map hd (List.mem_of_find?_eq_some hf) hmem (hx.trans hg.symm))
  unfold takeOwn
  rw [hfind]
  intro e he hown
  obtain ⟨x, -, rfl⟩ := List.mem_map.mp he
  split at hown
  · next hx => rw [if_pos hx]
  · next hx => exact absurd hown hx

namespace State

/-! ### The record, and what follows it -/

/-- The state in which the demand record has been computed, and nothing has followed it yet. -/
def recorded (s : State) : State :=
  { s with demand := { s.demand with entries := s.demand.entries.map s.computeEntry, computed := true } }

/-- The record is computed unless it is empty and has been computed before (R97, R103; log entry 12). -/
theorem computeDemand_cases (s : State) :
    (s.demand.entries = [] ∧ s.computeDemand = s)
      ∨ s.computeDemand = s.recorded.updateOwnClaims.postAtComputation.takeMonitors := by
  by_cases hidle : s.demand.entries = [] ∧ s.demand.computed = true
  · exact .inl ⟨hidle.1, if_pos hidle⟩
  · exact .inr (if_neg hidle)

theorem updateOwnClaims_demand (s : State) : s.updateOwnClaims.demand = s.demand := by simp [updateOwnClaims]

/-- What posting and the monitors leave is as the OWN claims left it. -/
theorem followed_besidePosting (s : State) : s.postAtComputation.takeMonitors.besidePosting = s.besidePosting :=
  (takeMonitors_besidePosting _).trans s.postAtComputation_besidePosting

/-- The demand record after a computation, its monitors apart (R97). -/
theorem computeDemand_entries (s : State) :
    s.computeDemand.demand.entries.map DemandEntry.unmonitored
      = (s.demand.entries.map s.computeEntry).map DemandEntry.unmonitored := by
  rcases s.computeDemand_cases with ⟨hempty, he⟩ | he
  · rw [he, hempty]
    rfl
  · obtain ⟨-, -, hentries⟩ := besidePosting_eq s.recorded.updateOwnClaims.followed_besidePosting
    rw [he, hentries, updateOwnClaims_demand]
    rfl

/-- An entry of the demand record after a computation. -/
theorem computeDemand_entry (s : State) (i : Nat) (d : DemandEntry) (hd : s.demand.entries[i]? = some d) :
    ∃ d', s.computeDemand.demand.entries[i]? = some d' ∧ d'.unmonitored = (s.computeEntry d).unmonitored := by
  have hentry := congrArg (·[i]?) s.computeDemand_entries
  simpa [hd] using hentry

/-- The claim tables after a computation: the OWN entries have taken the record (R6). -/
theorem computeDemand_claimTables (s : State) :
    s.computeDemand.roles.map Role.claimTable
      = s.roles.map (fun role => (role.takeOwn (s.demand.entries.map s.computeEntry)).claimTable) := by
  rcases s.computeDemand_cases with ⟨hempty, he⟩ | he
  · rw [he, hempty]
    rfl
  · obtain ⟨hbodies, -, -⟩ := besidePosting_eq s.recorded.updateOwnClaims.followed_besidePosting
    have htables := congrArg (List.map fun b : RoleCfg × ClaimTable × Drive => (b.1, b.2.1)) hbodies
    rw [List.map_map, List.map_map] at htables
    rw [he]
    refine htables.trans ((handTargets_map Role.claimTable (fun _ _ => rfl) _).trans ?_)
    exact List.map_map

theorem computeDemand_cfgs (s : State) : s.computeDemand.roles.map (·.cfg) = s.roles.map (·.cfg) := by
  have hcfgs := congrArg (List.map Prod.fst) s.computeDemand_claimTables
  rw [List.map_map, List.map_map] at hcfgs
  exact hcfgs.trans (List.map_congr_left fun role _ => (role.takeOwn_keeps _).1)

/-- A computation adds a DEMAND at most, and an ALERT for each monitor (R98, R112, R114). -/
theorem computeDemand_addsFrames (s : State) : s.AddsFrames s.computeDemand (1 + s.demand.entries.length) := by
  rcases s.computeDemand_cases with ⟨-, he⟩ | he
  · rw [he]
    exact .same _ rfl rfl
  · let owned := s.recorded.updateOwnClaims
    have howned : s.AddsFrames owned 0 := .same 0 (by simp [owned, updateOwnClaims, recorded]) (by simp [owned, updateOwnClaims, recorded])
    have hlength : owned.postAtComputation.demand.entries.length = s.demand.entries.length := by
      obtain ⟨-, -, hentries⟩ := besidePosting_eq owned.postAtComputation_besidePosting
      simpa [owned, updateOwnClaims_demand, recorded] using congrArg List.length hentries
    have hall := (howned.trans owned.postAtComputation_addsFrames).trans owned.postAtComputation.takeMonitors_addsFrames
    rwa [← he, hlength, Nat.zero_add] at hall

end State

/-! ### The drives -/

/-- What a role's table makes of its drive in one event: the drive takes the table's target, and where that ends STOPPED the drive is
in SPIN_UP with its outputs, and its STATUS is due (R36 to R41, R45). -/
structure TargetActs (t : State) (r : Nat) (role new : Role) : Prop where
  taken : TargetTaken t.now role.cfg role.drive new.drive
  starts : role.drive.state = .stopped → 0 < new.drive.target → new.drive.target ≠ role.drive.target →
    new.drive.state = .spinUp ∧ new.drive.statusDue = true ∧ ∀ f ∈ t.fans, f.role = some r → f.output = some new.drive.level

namespace State

/-- After the OWN claims a judged role's drive holds the target of its table, and has taken it from where the role stood (R21). -/
theorem updateOwnClaims_role (s : State) (r : Nat) (role : Role) (hr : s.roles[r]? = some role) (hj : RoleJudged s r role) :
    ∃ new, s.updateOwnClaims.roles[r]? = some new ∧ new.cfg = role.cfg ∧ new.drive.target = new.computedTarget
      ∧ TargetActs s.updateOwnClaims r role new := by
  let own := role.takeOwn s.demand.entries
  obtain ⟨hcfg, hdrive⟩ : own.cfg = role.cfg ∧ own.drive = role.drive := role.takeOwn_keeps s.demand.entries
  have hown : (s.roles.map (Role.takeOwn s.demand.entries))[r]? = some own := by rw [List.getElem?_map, hr]; rfl
  have hjudged : RoleJudged { s with roles := s.roles.map (Role.takeOwn s.demand.entries) } r own := by
    unfold RoleJudged
    rw [hcfg, hdrive]
    exact hj
  obtain ⟨hget, hout⟩ := handTargets_judged _ r own hown hjudged
  have hnow : s.updateOwnClaims.now = s.now := by simp [updateOwnClaims]
  refine ⟨_, hget, hcfg, ?_, ?_, fun hstopped hpos hne => ?_⟩
  · show (own.handed s.now).target = own.computedTarget
    unfold Role.handed
    split
    · next he => exact he.symm
    · exact Drive.takeTarget_target ..
  · rw [hnow, ← hcfg, ← hdrive]
    exact own.handed_taken s.now
  · obtain ⟨hchanged, hspin, hdue⟩ := own.handed_spinUp s.now (hdrive ▸ hstopped) hpos (hdrive ▸ hne)
    refine ⟨hspin, hdue, fun f hf hrole => ?_⟩
    rw [hout hchanged f hf hrole]
    exact Drive.output_driven _ (by simp [hspin])

/-- After a computation a judged role's drive has taken the target of its table from where the role stood (R21, R97). -/
theorem computeDemand_role (s : State) (r : Nat) (role : Role) (hr : s.roles[r]? = some role) (hj : RoleJudged s r role) :
    ∃ new, s.computeDemand.roles[r]? = some new ∧ new.cfg = role.cfg
      ∧ (s.demand.entries ≠ [] → new.drive.target = new.computedTarget) ∧ TargetActs s.computeDemand r role new := by
  rcases s.computeDemand_cases with ⟨hempty, he⟩ | he
  · rw [he]
    exact ⟨role, hr, rfl, fun h => absurd hempty h, .refl .., fun _ _ hne => absurd rfl hne⟩
  · obtain ⟨own, hget, hkept, htarget, htaken, hstarts⟩ := s.recorded.updateOwnClaims_role r role hr hj
    obtain ⟨hbodies, hfans, -⟩ := besidePosting_eq s.recorded.updateOwnClaims.followed_besidePosting
    rw [← he] at hbodies hfans
    have hnow : s.computeDemand.now = s.recorded.updateOwnClaims.now := by
      rw [(besideRound_eq s.computeDemand_kept.1).1, (besideRound_eq s.recorded.updateOwnClaims_kept.1).1]
      rfl
    have hbody := congrArg (·[r]?) hbodies
    simp only [List.getElem?_map, hget, Option.map_some, Option.map_eq_some_iff, Role.body, Prod.mk.injEq] at hbody
    obtain ⟨new, hnew, hcfg, hclaims, hdrive⟩ := hbody
    refine ⟨new, hnew, hcfg.trans hkept, fun _ => ?_, ?_, ?_⟩
    · rw [hdrive, htarget]
      exact (Role.computedTarget_congr hcfg hclaims).symm
    · rw [hnow, hdrive]
      exact htaken
    · rw [hfans, hdrive]
      exact hstarts

/-- At the end of the event what a role's table has made of its drive is handed on: a drive that has left STOPPED is reported, where
the queue had room for every frame of the event (R45). -/
theorem targetHanded_finish (s u : State) (n r : Nat) (room : Prop) (role new : Role) (hnew : u.roles[r]? = some new)
    (hacts : TargetActs u r role new) (hctl : u.ctl = s.ctl) (hgroups : (u.roles.map (·.cfg.group)).Nodup) (hadds : s.AddsFrames u n)
    (hroom : room → s.txq.length + n + u.roles.length ≤ 8) :
    ∃ role', u.finish.roles[r]? = some role' ∧ role'.cfg = new.cfg ∧ role'.claims = new.claims
      ∧ role'.drive.target = new.drive.target ∧ TargetHanded s u.finish room r role role' := by
  have hget := u.finish_get r new hnew
  have hnow : u.finish.now = u.now := by simp
  refine ⟨_, hget, rfl, rfl, Drive.flushed_target .., ?_, fun hstopped hpos hne => ?_⟩
  · rw [hnow]
    exact hacts.taken.flushed u.now
  · rw [Drive.flushed_target] at hpos hne
    obtain ⟨hspin, hdue, hout⟩ := hacts.starts hstopped hpos hne
    have hdriven : new.drive.state ≠ .released := by simp [hspin]
    refine ⟨fun f hf hrole => ?_, ?_, fun ht hfits hnone => ?_⟩
    · rw [Drive.flushed_level]
      exact hout f (by simpa using hf) hrole
    · rw [hnow]
      simp [Drive.flushed, hdue, hdriven]
    · have hlimit := hroom hfits
      obtain ⟨hlength, hstamp, hother⟩ := hadds (by omega)
      obtain ⟨e, he, hpayload, hlater⟩ := u.finish_queued r new _ hnew ((transmits_of_ctl hctl).trans ht) hdue hdriven hgroups
        (by omega) (hother _ hnone) hget
      exact ⟨e, he, hpayload, hstamp.trans hlater⟩

/-! ### The whole round -/

theorem takeRound_cfgs (s : State) (ms : List Measurement) : (s.takeRound ms).roles.map (·.cfg) = s.roles.map (·.cfg) := by
  have hcfgs := congrArg (List.map Prod.fst) (s.takeRound_claimSides ms)
  rwa [List.map_map, List.map_map] at hcfgs

/-- ROUND_COMPLETE of a running round at a station that sends: the channels are taken, the record is computed, and the event ends. -/
theorem roundComplete_computes (s : State) (ms : List Measurement) (due : Nat) (h : s.roundTimer = .running due)
    (ht : s.transmits = true) :
    exec (.roundComplete ms) s
      = .next (takeRound { s with now := max s.now due, roundTimer := .running (max s.now due + 250) } ms).computeDemand.finish := by
  have hsends : (takeRound { s with now := max s.now due, roundTimer := .running (max s.now due + 250) } ms).transmits = true :=
    (transmits_of_ctl (takeRound_ctl _ ms)).trans ht
  show execRoundComplete ms s = _
  simp only [execRoundComplete, h, onExpiry, State.until, hsends, if_true]

/-- A round's computation at a judged role of a station whose roles have different groups: its drive holds the target of its table, and
has taken it from where the channels left it (R21, R36 to R41, R45). -/
theorem round_targetHanded (s : State) (ms : List Measurement) (now : Nat) (timer : Timer) (hj : JudgedOk s)
    (hgroups : (s.roles.map (·.cfg.group)).Nodup) (r : Nat) (role : Role)
    (hr : (takeRound { s with now := now, roundTimer := timer } ms).roles[r]? = some role) :
    let t := (takeRound { s with now := now, roundTimer := timer } ms).computeDemand.finish
    ∃ role', t.roles[r]? = some role' ∧ role'.cfg = role.cfg
      ∧ (s.demand.entries ≠ [] → role'.drive.target = role'.computedTarget)
      ∧ TargetHanded s t (s.txq.length + (s.temps.filter (·.used)).length + s.demand.entries.length + 1 + s.roles.length ≤ 8)
          r role role' := by
  let begun : State := { s with now := now, roundTimer := timer }
  let u := begun.takeRound ms
  have hdemand : u.demand = s.demand := begun.takeRound_demand ms
  have hju : JudgedOk u := foldl_keeps JudgedOk _ _ begun (fun _ i h => driveInvariant_judgedOk.takeChannel ms i h)
    (hj.beside rfl rfl rfl)
  obtain ⟨new, hnew, hkept, htarget, hacts⟩ := u.computeDemand_role r role hr (hju.role r role hr)
  have hcfgs : u.computeDemand.roles.map (·.cfg) = s.roles.map (·.cfg) := u.computeDemand_cfgs.trans (begun.takeRound_cfgs ms)
  have hlength : u.computeDemand.roles.length = s.roles.length := by simpa using congrArg List.length hcfgs
  have hgroups' : (u.computeDemand.roles.map (·.cfg.group)).Nodup := by
    have hsame := congrArg (List.map (·.group)) hcfgs
    rw [List.map_map, List.map_map] at hsame
    exact hsame ▸ hgroups
  have hctl : u.computeDemand.ctl = s.ctl := by
    obtain ⟨-, -, hctl, -⟩ := besideRound_eq (u.computeDemand_kept.1.trans (begun.takeRound_beside ms))
    exact hctl
  have hadds : s.AddsFrames u.computeDemand ((s.temps.filter (·.used)).length + (1 + s.demand.entries.length)) :=
    hdemand ▸ AddsFrames.trans (begun.takeRound_addsFrames ms) u.computeDemand_addsFrames
  obtain ⟨role', hrole', hcfg, hclaims, hheld, hhanded⟩ := s.targetHanded_finish u.computeDemand _ r
    (s.txq.length + (s.temps.filter (·.used)).length + s.demand.entries.length + 1 + s.roles.length ≤ 8)
    role new hnew hacts hctl hgroups' hadds fun hroom => by omega
  refine ⟨role', hrole', hcfg.trans hkept, fun hentries => ?_, hhanded⟩
  rw [hheld, htarget (hdemand ▸ hentries)]
  exact (Role.computedTarget_congr hcfg hclaims).symm

/-- After a computation every OWN entry holds the level and reason of its group's demand entry (R6). -/
theorem computeDemand_own (s : State) (hd : (s.demand.entries.map (·.cfg.group)).Nodup) (d : DemandEntry) (hmem : d ∈ s.demand.entries)
    (role : Role) (hrole : role ∈ s.computeDemand.roles) (hg : role.cfg.group = d.cfg.group) :
    ∀ e ∈ role.claims.entries, e.kind = .own → e.live = some ⟨(s.computeEntry d).level, (s.computeEntry d).reason, 0⟩ := by
  have htable : role.claimTable ∈ s.computeDemand.roles.map Role.claimTable := List.mem_map_of_mem hrole
  rw [computeDemand_claimTables] at htable
  obtain ⟨before, -, he⟩ := List.mem_map.mp htable
  obtain ⟨hcfg, hclaims⟩ := Prod.mk.inj he
  rw [← hclaims]
  have hd' : ((s.demand.entries.map s.computeEntry).map (·.cfg.group)).Nodup := by rwa [List.map_map]
  refine before.takeOwn_live _ hd' (s.computeEntry d) (List.mem_map_of_mem hmem) ?_
  rw [← (before.takeOwn_keeps _).1, hcfg]
  exact hg.symm

end State
end Sys2Proof.Machine

/-- Settles O25: the record is computed from the channels as the round left them (`computeDemand_entry`), the OWN claims take it
(`computeDemand_own`), and each role's drive takes its table's target and is reported at the end of the event
(`round_targetHanded`). -/
theorem roundComputesDemand : Obligations.RoundComputesDemand := by
  intro s ms due hrun ht u
  let begun : State := { s with now := max s.now due, roundTimer := .running (max s.now due + 250) }
  have hdemand : u.demand = s.demand := begun.takeRound_demand ms
  have hends : u.computeDemand.finish.demand = u.computeDemand.demand ∧ u.computeDemand.finish.temps = u.temps := by
    simp [u.computeDemand_kept.2]
  obtain ⟨hrecord, htemps⟩ := hends
  refine ⟨_, s.roundComplete_computes ms due hrun ht, ?_, fun hj _ hgroups r role hr => ?_, fun i d hd => ?_⟩
  · rw [hrecord, ← hdemand]
    simpa using congrArg List.length u.computeDemand_entries
  · exact s.round_targetHanded ms _ _ hj hgroups r role hr
  · rw [← hdemand] at hd
    obtain ⟨d', hd', hsame⟩ := u.computeDemand_entry i d hd
    obtain ⟨hcfg, hlevel, hreason, hcurve, hfault, hboosted, hlast⟩ := DemandEntry.unmonitored_eq hsame
    have hcurves := funext (curveOf_eq u.temps)
    obtain ⟨hlargest, hgiven⟩ := curvePart_greatest u.temps d.cfg
    rw [hcurves] at hlargest hgiven
    refine ⟨d', by rw [hrecord]; exact hd', hcfg, hlast, ?_, ?_, ?_, ?_, ?_, hboosted, fun hb => ?_,
      fun hgroups role hrole hg => ?_⟩
    · rw [htemps, hcurve]
      exact hlargest
    · rw [htemps, hcurve]
      exact hgiven
    · rw [htemps, hfault]
      exact faultPart_eq u.temps d.cfg
    · rw [hlevel, hcurve, hfault, hboosted]
      rfl
    · rw [hreason, hcurve, hfault, hboosted]
      rfl
    · obtain ⟨hboost, g, hg, -⟩ := (u.boostApplies_iff d.cfg).mp (hboosted.symm.trans hb)
      exact ⟨hboost, List.ne_nil_of_mem hg⟩
    · rw [State.finish_roles] at hrole
      obtain ⟨before, hbefore, rfl⟩ := List.mem_map.mp hrole
      rw [hlevel, hreason]
      exact u.computeDemand_own (hdemand ▸ hgroups) d (List.mem_of_getElem? hd) before hbefore hg

end

section
/-! SUPPORT. What THROTTLE's condition sees of the station (R118), and the operations that leave that as it is. -/

namespace Sys2Proof.Machine

/-- What THROTTLE's condition sees of a monitor: its group, and whether it is SATURATED. -/
def DemandEntry.throttleSide (d : DemandEntry) : Nat × Bool := (d.cfg.group, d.sat == .saturated)

/-- From one state to another nothing changes that the invariant of THROTTLE sees: Station Control, the configured share, the monitors,
the saturation board and the line. -/
structure State.ThrottleKept (s t : State) : Prop where
  ctl : t.ctl = s.ctl
  timing : t.timing = s.timing
  monitors : t.demand.entries.map DemandEntry.throttleSide = s.demand.entries.map DemandEntry.throttleSide
  board : t.peers.board = s.peers.board
  throttle : t.throttle = s.throttle

/-- The condition in terms of what it sees. -/
theorem throttleCondition_eq (s : State) :
    throttleCondition s = ((s.demand.entries.map DemandEntry.throttleSide).any (·.2)
      || ((s.timing.map (·.shareThrottle)).getD false
        && (s.demand.entries.map DemandEntry.throttleSide).any (fun x => s.peers.board.getD x.1 [] != []))) := by
  simp [throttleCondition, DemandEntry.throttleSide, List.any_map, Function.comp_def]

theorem State.ThrottleKept.condition {s t : State} (h : s.ThrottleKept t) : throttleCondition t = throttleCondition s := by
  rw [throttleCondition_eq, throttleCondition_eq, h.timing, h.monitors, h.board]

/-- A board with no member, and no monitor SATURATED: so it is outside JOINING and RUNNING. -/
def State.Unsaturated (s : State) : Prop :=
  (∀ ms ∈ s.peers.board, ms = []) ∧ ∀ d ∈ s.demand.entries, d.sat ≠ .saturated

/-- What the invariant of THROTTLE asks of Station Control. -/
def Control.Loads (c : Control) : Prop :=
  (c.load.isSome = true → c.state = .loading) ∧ (c.joinWindow ≠ .stopped → c.state = .joining)

theorem throttleOk_iff (s : State) :
    ThrottleOk s ↔ s.throttle = throttleCondition s ∧ (s.transmits = false → s.Unsaturated) ∧ s.ctl.Loads := Iff.rfl

theorem State.Unsaturated.condition {s : State} (h : s.Unsaturated) : throttleCondition s = false := by
  obtain ⟨hboard, hmonitors⟩ := h
  have hmember (g : Nat) : s.peers.board[g]?.getD [] = [] := by
    cases hg : s.peers.board[g]? with
    | none => rfl
    | some ms => exact hboard ms (List.mem_of_getElem? hg)
  simpa [throttleCondition, hmember] using hmonitors

theorem State.Unsaturated.same {s t : State} (h : s.Unsaturated) (hk : s.ThrottleKept t) : t.Unsaturated := by
  obtain ⟨hboard, hmonitors⟩ := h
  refine ⟨hk.board ▸ hboard, fun d hd hs => ?_⟩
  have hmem := List.mem_map_of_mem (f := DemandEntry.throttleSide) hd
  rw [hk.monitors] at hmem
  obtain ⟨old, hold, he⟩ := List.mem_map.mp hmem
  have hsat : (old.sat == .saturated) = (d.sat == .saturated) := congrArg Prod.snd he
  exact hmonitors old hold (by simpa [hs] using hsat)

namespace ThrottleOk

/-- The invariant sees nothing else. -/
theorem same {s t : State} (h : ThrottleOk s) (hk : s.ThrottleKept t) : ThrottleOk t := by
  obtain ⟨hthrottle, hquiet, hcontrol⟩ := (throttleOk_iff s).mp h
  exact (throttleOk_iff t).mpr ⟨(hk.throttle.trans hthrottle).trans hk.condition.symm,
    fun ht => (hquiet (transmits_of_ctl hk.ctl ▸ ht)).same hk, hk.ctl ▸ hcontrol⟩

/-- Nothing is saturated, and THROTTLE is released. -/
theorem of_unsaturated {s : State} (hthrottle : s.throttle = false) (h : s.Unsaturated) (hcontrol : s.ctl.Loads) : ThrottleOk s :=
  (throttleOk_iff s).mpr ⟨hthrottle.trans h.condition.symm, fun _ => h, hcontrol⟩

/-- Outside JOINING and RUNNING nothing is saturated, and THROTTLE is released. -/
theorem unsaturated {s : State} (h : ThrottleOk s) (ht : s.transmits = false) : s.throttle = false ∧ s.Unsaturated := by
  obtain ⟨hthrottle, hquiet, -⟩ := (throttleOk_iff s).mp h
  exact ⟨hthrottle.trans (hquiet ht).condition, hquiet ht⟩

theorem loads {s : State} (h : ThrottleOk s) : s.ctl.Loads := ((throttleOk_iff s).mp h).2.2

/-- THROTTLE is evaluated after a change of the monitors or of the board (R118). -/
theorem evaluated {s t : State} (h : ThrottleOk s) (hctl : t.ctl = s.ctl) (hquiet : s.transmits = false → t.Unsaturated) :
    ThrottleOk t.evaluateThrottle :=
  (throttleOk_iff _).mpr ⟨rfl, fun ht => hquiet (transmits_of_ctl (s := s) (t := t.evaluateThrottle) hctl ▸ ht), hctl ▸ h.loads⟩

end ThrottleOk

/-! ### Operations of the Peer Unit that leave the board -/

namespace State

@[simp] theorem rosterTakes_board (s : State) (n : Nat) (k : FrameKind) : (s.rosterTakes n k).peers.board = s.peers.board := by
  unfold rosterTakes
  split <;> rfl

@[simp] theorem isolate_board (s : State) : s.isolate.peers.board = s.peers.board :=
  (forRoles_same (·.peers.board) _ _ fun u r => by simp).trans (by simp)

@[simp] theorem linkTakes_board (s : State) (n : Nat) : (s.linkTakes n).peers.board = s.peers.board := by
  have hrejoin : (s.rejoin n).peers.board = s.peers.board :=
    (forRoles_same (·.peers.board) _ _ fun u r => by simp).trans (by simp [restartLink])
  unfold linkTakes
  repeat' split
  · exact hrejoin
  · rfl
  · rfl

/-! ### Operations that leave what THROTTLE sees -/

theorem ThrottleKept.refl (s : State) : s.ThrottleKept s := ⟨rfl, rfl, rfl, rfl, rfl⟩

theorem ThrottleKept.trans {s t u : State} (h : s.ThrottleKept t) (h' : t.ThrottleKept u) : s.ThrottleKept u :=
  ⟨h'.ctl.trans h.ctl, h'.timing.trans h.timing, h'.monitors.trans h.monitors, h'.board.trans h.board, h'.throttle.trans h.throttle⟩

/-- A run over a list whose parts leave what THROTTLE sees. -/
theorem ThrottleKept.foldl {β : Type} (f : State → β → State) (hf : ∀ (u : State) (x : β), u.ThrottleKept (f u x)) (xs : List β)
    (s : State) : s.ThrottleKept (xs.foldl f s) :=
  foldl_keeps (fun u => s.ThrottleKept u) f xs s (fun u x h => h.trans (hf u x)) (.refl s)

/-- A run over the roles whose parts leave what THROTTLE sees. -/
theorem ThrottleKept.forRoles (f : State → Nat → State) (hf : ∀ (u : State) (r : Nat), u.ThrottleKept (f u r)) (s : State) :
    s.ThrottleKept (s.forRoles f) :=
  forRoles_keeps (fun u => s.ThrottleKept u) f s (fun u r h => h.trans (hf u r)) (.refl s)

/-- A change of roles and notices. -/
theorem ClaimsOnly.throttleKept {s t : State} (h : s.ClaimsOnly t) : s.ThrottleKept t :=
  ⟨by rw [h], by rw [h], by rw [h], by rw [h], by rw [h]⟩

theorem throttleKept_offer (s : State) (p : Payload) : s.ThrottleKept (s.offer p) := by constructor <;> simp

theorem throttleKept_finish (s : State) : s.ThrottleKept s.finish := by constructor <;> simp

/-- A monitor that neither enters SATURATED nor leaves it (Table 6-3). -/
theorem throttleKept_modEntry (s : State) (i : Nat) (f : DemandEntry → DemandEntry)
    (hf : ∀ d, s.demand.entries[i]? = some d → (f d).throttleSide = d.throttleSide) : s.ThrottleKept (s.modEntry i f) :=
  ⟨rfl, rfl, map_modify_of_get _ _ _ _ hf, rfl, rfl⟩

theorem throttleKept_takeRound (s : State) (ms : List Measurement) : s.ThrottleKept (s.takeRound ms) := by
  refine .foldl _ (fun u i => ?_) _ s
  unfold takeChannel
  dsimp only
  repeat' split
  all_goals constructor <;> simp

theorem throttleKept_takeDemand (s : State) (n : Nat) (items : List DemandItem) : s.ThrottleKept (s.takeDemand n items) :=
  (takeClaims_claimsOnly s n items).throttleKept.trans (by rw [takeDemand_eq]; constructor <;> simp)

theorem throttleKept_othersTake (s : State) (n : Nat) (p : Payload) : s.ThrottleKept (s.othersTake n p) := by
  unfold othersTake
  split
  · exact throttleKept_takeDemand s n _
  · constructor <;> simp
  · constructor <;> simp
  · constructor <;> simp
  · constructor <;> simp
  · exact .refl s

theorem throttleKept_reportAwaited (s : State) (r : Nat) (role : Role) : s.ThrottleKept (s.reportAwaited r role) := by
  have hmarked (f : ClaimTable → ClaimTable) : s.ThrottleKept (s.modClaims r f) := ⟨rfl, rfl, rfl, rfl, rfl⟩
  have hposted (u : State) (e : ClaimEntry) : u.ThrottleKept (u.post .contributorLost role.cfg.group (some e.station)) :=
    ⟨rfl, rfl, rfl, rfl, rfl⟩
  exact (hmarked _).trans (.foldl _ hposted _ _)

/-- A DEMAND of the station has been transmitted (R100). -/
theorem throttleKept_demandTransmitted (s : State) (items : List DemandItem) : s.ThrottleKept (s.demandTransmitted items) := by
  have hposted (d : DemandEntry) : (d.posted items).throttleSide = d.throttleSide := by
    unfold DemandEntry.posted
    split <;> rfl
  have htold : s.ThrottleKept (State.restartRefresh
      { s with demand := { s.demand with entries := s.demand.entries.map (DemandEntry.posted items), sent := true } }) :=
    ⟨rfl, rfl, by simp [restartRefresh, Function.comp_def, hposted], rfl, rfl⟩
  unfold demandTransmitted
  dsimp only
  split
  · exact htold.trans (throttleKept_offer _ _)
  · exact htold

theorem throttleKept_reportTransmitted (s : State) (p : Payload) : s.ThrottleKept (s.reportTransmitted p) := by
  unfold reportTransmitted
  split
  · exact throttleKept_demandTransmitted s _
  · constructor <;> simp
  · constructor <;> simp
  · constructor <;> simp
  · exact .refl s
  · exact .refl s

theorem throttleKept_postAtComputation (s : State) : s.ThrottleKept s.postAtComputation := by
  unfold postAtComputation
  repeat' split
  · exact throttleKept_offer s _
  · exact .refl s
  · exact throttleKept_offer s _
  · exact .refl s

/-- The record of a round and the OWN claims (R6, R97). -/
theorem throttleKept_computed (s : State) :
    s.ThrottleKept (State.updateOwnClaims
      { s with demand := { s.demand with entries := s.demand.entries.map s.computeEntry, computed := true } }) := by
  have hside (d : DemandEntry) : (s.computeEntry d).throttleSide = d.throttleSide := rfl
  constructor <;> simp [updateOwnClaims, Function.comp_def, hside]

end State
end Sys2Proof.Machine
end

section
/-! SUPPORT. The invariant of THROTTLE at every event that acts on the monitors, on the saturation board or on Station Control (R118). -/

namespace Sys2Proof.Machine

/-! ### Monitors and board -/

namespace ThrottleOk

/-- The entry of a monitor into SATURATED, in JOINING or RUNNING (R112). -/
theorem enterSaturated {s : State} (h : ThrottleOk s) (ht : s.transmits = true) (i : Nat) (d : DemandEntry) :
    ThrottleOk (s.enterSaturated i d) := by
  have htold := h.evaluated (t := (s.modEntry i (fun d => { d with sat := .saturated, satCount := s.saturationQuarters })).post
    .saturated d.cfg.group (some d.level)) rfl fun hoff => by simp [ht] at hoff
  unfold State.enterSaturated
  dsimp only
  split
  · refine ThrottleOk.same (htold.same (State.throttleKept_modEntry _ i _ ?_)) (State.throttleKept_offer _ _)
    exact fun _ _ => rfl
  · exact htold

/-- The exit of a monitor from SATURATED (R114). -/
theorem leaveSaturated {s : State} (h : ThrottleOk s) (ht : s.transmits = true) (i : Nat) (d : DemandEntry) :
    ThrottleOk (s.leaveSaturated i d) := by
  have htold := h.evaluated (t := (s.modEntry i (fun d => { d with sat := .clear, satCount := 0, satRepeat := .stopped })).post
    .saturationCleared d.cfg.group (some d.curvePart)) rfl fun hoff => by simp [ht] at hoff
  unfold State.leaveSaturated
  dsimp only
  split
  · exact htold.same (State.throttleKept_offer _ _)
  · exact htold

/-- A monitor at a computation (Table 6-3). -/
theorem takeMonitor {s : State} (h : ThrottleOk s) (ht : s.transmits = true) (i : Nat) : ThrottleOk (s.takeMonitor i) := by
  unfold State.takeMonitor
  split
  · exact h
  · next d hd =>
    have hcounts (f : DemandEntry → DemandEntry) (hf : (f d).throttleSide = d.throttleSide) : ThrottleOk (s.modEntry i f) :=
      h.same (State.throttleKept_modEntry s i f fun x hx => Option.some.inj (hd.symm.trans hx) ▸ hf)
    split
    · split
      · exact h.leaveSaturated ht i d
      · exact h
    · next hs _ => exact hcounts _ (by simp [DemandEntry.throttleSide, hs])
    · split
      · exact h.enterSaturated ht i d
      · exact hcounts _ rfl
    · exact hcounts _ rfl
    · exact h
    · exact hcounts _ rfl
    · next hs _ => exact hcounts _ (by simp [DemandEntry.throttleSide, hs])

/-- The computation of the Demand Unit in JOINING or RUNNING (R97). -/
theorem computeDemand {s : State} (h : ThrottleOk s) (ht : s.transmits = true) : ThrottleOk s.computeDemand := by
  unfold State.computeDemand
  dsimp only
  split
  · exact h
  · have hposted := (State.throttleKept_computed s).trans (State.throttleKept_postAtComputation _)
    exact (State.foldl_keeps (fun u => ThrottleOk u ∧ u.transmits = true) _ _ _
      (fun u i ⟨hu, htu⟩ => ⟨hu.takeMonitor htu i, (transmits_of_ctl (u.takeMonitor_ctl i)).trans htu⟩)
      ⟨h.same hposted, (transmits_of_ctl hposted.ctl).trans ht⟩).1

/-- A change of the board that adds no member outside JOINING and RUNNING. -/
theorem board {s : State} (h : ThrottleOk s) (board : List (List Member))
    (hempty : s.transmits = false → (∀ ms ∈ s.peers.board, ms = []) → ∀ ms ∈ board, ms = []) :
    ThrottleOk (State.evaluateThrottle { s with peers := { s.peers with board := board } }) :=
  h.evaluated rfl fun ht => by
    obtain ⟨-, hboard, hmonitors⟩ := h.unsaturated ht
    exact ⟨hempty ht hboard, hmonitors⟩

theorem modBoard {s : State} (h : ThrottleOk s) (g : Nat) (f : List Member → List Member) (hf : s.transmits = false → f [] = []) :
    ThrottleOk (s.modBoard g f) := by
  refine h.board _ fun ht hempty => forall_mem_of_get g (fun q ms hne hq => ?_) fun ms hg => ?_
  · exact hempty ms (List.mem_of_getElem? (i := q) (by simpa [Ne.symm hne] using hq))
  · obtain ⟨old, hold, rfl⟩ : ∃ old, s.peers.board[g]? = some old ∧ f old = ms := by simpa using hg
    rw [hempty old (List.mem_of_getElem? hold), hf ht]

/-- A member leaves the set of a group (R117). -/
theorem dropMember {s : State} (h : ThrottleOk s) (n g : Nat) : ThrottleOk (s.dropMember n g) := h.modBoard g _ fun _ => rfl

/-- A station leaves every set (R117, R151). -/
theorem dropStation {s : State} (h : ThrottleOk s) (n : Nat) : ThrottleOk (s.dropStation n) := by
  refine h.board _ fun _ hempty ms hms => ?_
  obtain ⟨old, hold, rfl⟩ := List.mem_map.mp hms
  rw [hempty old hold, List.filter_nil]

theorem takeSaturation {s : State} (h : ThrottleOk s) (ht : s.transmits = true) (n g : Nat) : ThrottleOk (s.takeSaturation n g) := by
  have hmod (f : List Member → List Member) : ThrottleOk (s.modBoard g f) := h.modBoard g f fun hoff => by simp [ht] at hoff
  unfold State.takeSaturation
  dsimp only
  split
  · exact hmod _
  · exact (hmod _).same ⟨rfl, rfl, rfl, rfl, rfl⟩

/-! ### Frames -/

/-- The content of a frame: views, board and critical-peer list (R106, R116, R120). -/
theorem peerContent {s : State} (h : ThrottleOk s) (n : Nat) (p : Payload) : ThrottleOk (s.peerContent n p) := by
  unfold State.peerContent
  split
  · split
    · refine h.same ?_
      unfold State.takeView
      split <;> exact ⟨rfl, rfl, rfl, rfl, rfl⟩
    · exact h
  · refine h.same ?_
    unfold State.takeCritical
    dsimp only
    split <;> exact ⟨rfl, rfl, rfl, rfl, rfl⟩
  · split
    · next ht => exact h.takeSaturation ht n _
    · exact h
  · split
    · exact h.dropMember n _
    · exact h
  all_goals exact h

theorem peerTakes {s : State} (h : ThrottleOk s) (n : Nat) (p : Payload) : ThrottleOk (s.peerTakes n p) :=
  (h.same (by constructor <;> simp)).peerContent n p

theorem othersTake {s : State} (h : ThrottleOk s) (n : Nat) (p : Payload) : ThrottleOk (s.othersTake n p) :=
  h.same (s.throttleKept_othersTake n p)

/-- The station enters FAULTED (R166): the board is emptied, every monitor cleared, and THROTTLE evaluated (R115, R117, R118). -/
theorem enterFaulted (s : State) (cause : Cause) (item : Nat) : ThrottleOk (s.enterFaulted cause item) := by
  obtain ⟨-, hload, hstate, hjoin⟩ := enterFaulted_empty s cause item
  refine (throttleOk_iff _).mpr ⟨rfl, fun _ => ⟨fun ms hms => List.eq_of_mem_replicate hms, fun d hd => ?_⟩, ?_⟩
  · obtain ⟨old, -, rfl⟩ := List.mem_map.mp hd
    simp [DemandEntry.faulted]
  · simp [Control.Loads, hload, hjoin]

/-- A frame delivered, the blocks in either order (R140, R141, R154). -/
theorem deliver {s : State} (h : ThrottleOk s) (n : Nat) (p : Payload) : ThrottleOk (s.deliver n p) := by
  have hall : ThrottleOk (s.deliverAll n p) := by
    have hcount : ThrottleOk { s with choices := s.choices + 1 } := h.same ⟨rfl, rfl, rfl, rfl, rfl⟩
    unfold State.deliverAll
    dsimp only
    repeat' split
    · exact (hcount.peerTakes n p).othersTake n p
    · exact (hcount.othersTake n p).peerTakes n p
    · exact (h.peerTakes n p).othersTake n p
  unfold State.deliver
  repeat' split
  · exact h
  · exact h
  · exact enterFaulted s _ _
  · exact hall
  · exact enterFaulted s _ _
  · exact hall
  · exact h
  · exact h.peerTakes n p

theorem finish {s : State} (h : ThrottleOk s) : ThrottleOk s.finish := h.same s.throttleKept_finish

/-- A frame that ends at the receiver (R128, R138). -/
theorem receive {s : State} (h : ThrottleOk s) (n : Nat) (p : Payload) : ThrottleOk (s.receive n p) := by
  have hline : ThrottleOk (s.setLine .notIdle) := h.same ⟨rfl, rfl, rfl, rfl, rfl⟩
  unfold State.receive
  repeat' split
  · exact (hline.deliver n p).finish
  · exact hline.same ⟨rfl, rfl, rfl, rfl, rfl⟩
  · exact h

/-- A frame that the checks discard (R139). -/
theorem discarded {s : State} (h : ThrottleOk s) : ThrottleOk (if s.receiving then (s.setLine .notIdle).countBad else s) := by
  split
  · exact h.same ⟨rfl, rfl, rfl, rfl, rfl⟩
  · exact h

/-- An overlap, and the fault that a third one is (R130, R131). -/
theorem meetOverlap {s : State} (h : ThrottleOk s) (e : QEntry) : ThrottleOk (s.meetOverlap e) := by
  unfold State.meetOverlap
  dsimp only
  split
  · exact enterFaulted _ _ _
  · exact h.same ⟨rfl, rfl, rfl, rfl, rfl⟩

/-! ### Starts and the slots -/

/-- LOADING begins, with nothing saturated (R160). -/
theorem beginLoading {s : State} (hthrottle : s.throttle = false) (h : s.Unsaturated) (hj : s.ctl.joinWindow = .stopped)
    (straps : Straps) : ThrottleOk (s.beginLoading straps) := by
  unfold State.beginLoading
  dsimp only
  split
  · exact of_unsaturated hthrottle h ⟨fun _ => rfl, fun hw => absurd hj hw⟩
  · exact enterFaulted _ _ _

/-- The board and the monitors at a start. -/
theorem unsaturated_reset : State.reset.Unsaturated :=
  ⟨fun _ hms => List.eq_of_mem_replicate hms, fun _ hd => nomatch hd⟩

theorem resetHeld (s : State) (delivered : Nat) : ThrottleOk (s.resetHeld delivered) :=
  of_unsaturated rfl unsaturated_reset ⟨fun hl => (nomatch hl), fun hw => absurd rfl hw⟩

theorem restart (s : State) (straps : Straps) : ThrottleOk (s.restart straps) := by
  refine beginLoading ?_ ?_ ?_ straps
  · rfl
  · exact unsaturated_reset
  · rfl

/-- While a slot is read the station is in LOADING, its join window stopped. -/
theorem loading {s : State} (h : ThrottleOk s) (l : Load) (hl : s.ctl.load = some l) :
    s.ctl.state = .loading ∧ s.ctl.joinWindow = .stopped ∧ s.throttle = false ∧ s.Unsaturated := by
  obtain ⟨hload, hjoin⟩ := h.loads
  have hstate : s.ctl.state = .loading := hload (by simp [hl])
  exact ⟨hstate, not_not.mp fun hw => by simp [hjoin hw] at hstate, h.unsaturated (by simp [State.transmits, hstate])⟩

/-- The station enters JOINING with its board empty and its monitors new (R110, R164). -/
theorem enterJoining {s : State} (hthrottle : s.throttle = false) (h : s.Unsaturated) (slot : Slot) (img : Image) :
    ThrottleOk (s.enterJoining slot img) := by
  have hjoined : ThrottleOk (s.joined slot img) := by
    refine of_unsaturated hthrottle ⟨h.1, fun d hd => ?_⟩ ⟨fun hl => (nomatch hl), fun _ => rfl⟩
    obtain ⟨cfg, -, rfl⟩ := List.mem_map.mp hd
    simp [DemandEntry.fresh]
  rw [State.enterJoining_eq]
  exact hjoined.same (by constructor <;> simp)

/-- A slot is judged (R161, R163). -/
theorem slotJudged {s : State} (h : ThrottleOk s) (l l' : Load) (hl : s.ctl.load = some l) (result : SlotResult)
    (img : Option Image) : ThrottleOk (s.slotJudged l' result img) := by
  obtain ⟨hstate, hjoin, hthrottle, hnone⟩ := h.loading l hl
  have hjoins (u : State) (slot : Slot) (i : Image) (hu : u.throttle = s.throttle) (hpeers : u.peers = s.peers)
      (hdemand : u.demand = s.demand) : ThrottleOk (u.enterJoining slot i) :=
    enterJoining (hu.trans hthrottle) (by rw [State.Unsaturated, hpeers, hdemand]; exact hnone) slot i
  unfold State.slotJudged
  split
  · exact of_unsaturated hthrottle hnone ⟨fun _ => hstate, fun hw => absurd hjoin hw⟩
  · unfold State.chooseImage
    repeat' split
    · exact hjoins _ _ _ rfl rfl rfl
    · exact hjoins _ _ _ rfl rfl rfl
    · exact hjoins _ _ _ rfl rfl rfl
    · exact hjoins _ _ _ rfl rfl rfl
    · exact enterFaulted _ _ _
    all_goals exact of_unsaturated hthrottle hnone ⟨fun hn => (nomatch hn), fun hw => absurd hjoin hw⟩

/-- The reading of a slot goes on (R161). -/
theorem reads {s : State} (h : ThrottleOk s) (l l' : Load) (hl : s.ctl.load = some l) :
    ThrottleOk { s with ctl := { s.ctl with load := some l' } } := by
  obtain ⟨hstate, hjoin, hthrottle, hnone⟩ := h.loading l hl
  exact of_unsaturated hthrottle hnone ⟨fun _ => hstate, fun hw => absurd hjoin hw⟩

theorem slotAnswered {s : State} (h : ThrottleOk s) (l l' : Load) (hl : s.ctl.load = some l) (bytes : List Byte) (ended : Bool) :
    ThrottleOk (s.slotAnswered l' bytes ended) := by
  unfold State.slotAnswered
  dsimp only
  split
  · exact h.slotJudged l l' hl _ _
  · exact h.reads l _ hl

/-- The join window ends (R165). -/
theorem runs {s : State} (h : ThrottleOk s) (hw : s.ctl.joinWindow ≠ .stopped) :
    ThrottleOk { s with ctl := { s.ctl with state := .running, joinWindow := .stopped } } := by
  obtain ⟨hthrottle, -, hload, hjoin⟩ := (throttleOk_iff s).mp h
  have hjoining := hjoin hw
  refine (throttleOk_iff _).mpr ⟨hthrottle, fun ht => (nomatch ht), fun hl => ?_, fun hne => absurd rfl hne⟩
  simp [hload hl] at hjoining

/-! ### The service port -/

/-- The end of a transaction, and the RESTART that it may bring (R170, R175). -/
theorem endTransfer {s : State} (h : ThrottleOk s) (straps : Straps) : ThrottleOk (s.endTransfer straps) := by
  unfold State.endTransfer
  split
  · dsimp only
    split
    · next action _ =>
      cases action with
      | select v => exact h.same ⟨rfl, rfl, rfl, rfl, rfl⟩
      | takeNotice => exact h.same ⟨rfl, rfl, rfl, rfl, rfl⟩
      | clearLatches => exact h.same ⟨rfl, rfl, rfl, rfl, rfl⟩
      | restart => exact restart _ straps
    · exact h.same ⟨rfl, rfl, rfl, rfl, rfl⟩
  · exact h

theorem bringBytes {s : State} (h : ThrottleOk s) (bytes : List Byte) : ThrottleOk (s.bringBytes bytes) :=
  h.same ⟨rfl, rfl, rfl, rfl, rfl⟩

/-- A whole write transaction. -/
theorem portWrite {s : State} (h : ThrottleOk s) (straps : Straps) (bytes : List Byte) : ThrottleOk (s.portWrite straps bytes) := by
  unfold State.portWrite
  split
  · exact ((h.endTransfer _).bringBytes bytes).endTransfer straps
  · exact h

end ThrottleOk
end Sys2Proof.Machine
end

section
/-! Every step keeps THROTTLE with its condition (R118). -/

open Sys2Proof Sys2Proof.Machine

namespace Sys2Proof.Machine

namespace ThrottleOk

/-- An expiry keeps what its effect keeps. -/
theorem onExpiry {s : State} (h : ThrottleOk s) (timer : Timer) (k : State → State)
    (hk : ∀ u : State, timer ≠ .stopped → u.ctl = s.ctl → ThrottleOk u → ThrottleOk (k u)) : ThrottleOk (onExpiry timer k s) := by
  unfold Machine.onExpiry
  split
  · exact hk _ (by simp) rfl (h.same ⟨rfl, rfl, rfl, rfl, rfl⟩)
  · exact h
  · exact h

/-- An expiry of a timer whose effect leaves what THROTTLE sees. -/
theorem quietExpiry {s : State} (h : ThrottleOk s) (timer : Timer) (k : State → State) (hk : ∀ u : State, u.ThrottleKept (k u)) :
    ThrottleOk (Machine.onExpiry timer k s) :=
  h.onExpiry timer k fun u _ _ hu => hu.same (hk u)

/-- Every command keeps THROTTLE with its condition. -/
theorem exec {s t : State} (h : ThrottleOk s) (c : Instr) (he : exec c s = .next t) : ThrottleOk t := by
  cases c
  all_goals (injection he with he; subst he)
  -- Starts and slots
  case resetHeldEntry delivered => exact resetHeld s delivered
  case resetHeldEnd straps =>
    split
    · next hheld =>
      obtain ⟨hthrottle, hnone⟩ := h.unsaturated (by simp [State.transmits, hheld])
      have hjoin : s.ctl.joinWindow = .stopped := not_not.mp fun hw => by simp [h.loads.2 hw] at hheld
      refine beginLoading ?_ ?_ ?_ straps
      · exact hthrottle
      · exact hnone
      · exact hjoin
    all_goals exact h
  case memoryAnswerTimeout =>
    split
    · exact h
    · next l hl => exact h.onExpiry _ _ fun u _ hc hu => hu.slotJudged l l (by rw [hc, hl]) _ _
  case slotReadComplete bytes status ended =>
    split
    · exact h
    · next l hl =>
      dsimp only
      generalize (if l.ready then l else l.queried status) = l'
      split
      · exact h.slotAnswered l _ hl bytes ended
      · exact h.reads l _ hl
  case joinWindowExpiry =>
    have hroles (v : State) : v.ThrottleKept (v.forRoles State.roleRuns) := .forRoles _ (fun w r => by constructor <;> simp) v
    refine h.onExpiry _ _ fun u hw hc hu => finish (same (same (hu.runs (by rwa [hc])) ?_) (hroles _))
    exact ⟨rfl, rfl, rfl, rfl, rfl⟩
  -- A round
  case roundComplete ms =>
    refine h.onExpiry _ _ fun u _ _ hu => finish ?_
    have hround : ThrottleOk (State.takeRound { u with roundTimer := .running (u.now + 250) } ms) :=
      same (hu.same (t := { u with roundTimer := .running (u.now + 250) }) ⟨rfl, rfl, rfl, rfl, rfl⟩)
        (State.throttleKept_takeRound _ ms)
    split
    · next ht => exact hround.computeDemand ht
    · exact hround
  -- The times of board and roster
  case boardRenewalExpiry g n =>
    split
    · exact h
    · exact (h.same ⟨rfl, rfl, rfl, rfl, rfl⟩).dropMember n g
  case rosterLoss n =>
    split
    · exact h
    · exact (h.same ⟨rfl, rfl, rfl, rfl, rfl⟩).dropStation n
  -- Frames and the line
  case demandFrame n items => exact h.receive n _
  case statusFrame n content => exact h.receive n _
  case takeoverFrame n g e => exact h.receive n _
  case handbackFrame n g e => exact h.receive n _
  case yieldFrame n g e a l => exact h.receive n _
  case alertFrame n k i v => exact h.receive n _
  case badFrameReceived frame =>
    split
    · exact h.receive _ _
    · exact h.discarded
  case pulseError pulse =>
    split
    · split
      · exact h.meetOverlap _
      · exact h.discarded
    · exact h
  case overlap mismatch =>
    repeat' split
    · exact h.meetOverlap _
    · exact h
    · exact h
  -- The service port
  case restart | takeNotice | clearLatches | stationView | channelView | fanView | roleView | claimsView | groupviewView | rosterView
      | demandView | satboardView | noticeView | countsView => exact h.portWrite _ _
  case writeRefused address bytes ended =>
    dsimp only
    repeat' split
    · exact (h.bringBytes bytes).endTransfer _
    · exact h.bringBytes bytes
    · exact h.endTransfer _
  case readTransaction address count =>
    dsimp only
    split
    · exact (h.endTransfer _).same ⟨rfl, rfl, rfl, rfl, rfl⟩
    · exact h.endTransfer _
  -- The other commands change nothing that THROTTLE sees
  case claimExpiry r n =>
    refine h.same ?_
    repeat' split
    all_goals constructor <;> simp
  case joinGraceEnd r =>
    split
    · exact h
    · next role _ => exact h.quietExpiry _ _ fun u => (u.throttleKept_reportAwaited r role).trans (by constructor <;> simp)
  case peakExpiry | tachMeasurement | stopDelayExpiry | spinUpExpiry | statusTimerExpiry | displacedHoldExpiry =>
    split
    · exact h
    · exact h.quietExpiry _ _ fun u => by constructor <;> simp
  case rampTimerExpiry r =>
    refine h.same ?_
    repeat' split
    all_goals constructor <;> simp
  case criticalAlertRepeatExpiry i =>
    split
    · exact h
    · refine h.onExpiry _ _ fun u _ _ hu => finish (hu.same ?_)
      split <;> constructor <;> simp
  case silenceTimerExpiry | otherSilenceExpiry | handbackWaitExpiry =>
    split
    · exact h
    · refine h.quietExpiry _ _ fun u => ?_
      repeat' split
      all_goals constructor <;> simp
  case refreshTimerExpiry =>
    refine h.quietExpiry _ _ fun u => ?_
    dsimp only
    split <;> constructor <;> simp
  case saturationAlertRepeatExpiry g =>
    split
    · exact h
    · next i _ =>
      split
      · exact h
      · refine h.onExpiry _ _ fun u _ _ hu => finish ?_
        have hrestarted : ThrottleOk (u.modEntry i (fun d => { d with satRepeat := .running (u.now + 5000) })) :=
          hu.same (u.throttleKept_modEntry i _ fun _ _ => rfl)
        split
        · exact hrestarted
        · exact hrestarted.same (State.throttleKept_offer _ _)
  case linkSilenceExpiry =>
    refine h.quietExpiry _ _ fun u => ?_
    repeat' split
    · exact ⟨rfl, rfl, rfl, rfl, rfl⟩
    · constructor <;> simp
    · exact .refl u
  case viewStale | rosterSilent | lineStuck | contentionLoss | startMark =>
    refine h.same ?_
    repeat' split
    all_goals exact ⟨rfl, rfl, rfl, rfl, rfl⟩
  case lineIdle peerFirst =>
    refine h.same ?_
    repeat' split
    all_goals constructor <;> simp
  case frameTransmitted =>
    split
    · exact h
    · refine finish (h.same (.trans ?_ (State.throttleKept_reportTransmitted _ _)))
      exact ⟨rfl, rfl, rfl, rfl, rfl⟩

end ThrottleOk
end Sys2Proof.Machine

/-- Settles O12: every event that changes a monitor, the board or Station Control leaves THROTTLE as its condition gives. -/
theorem stepKeepsThrottle : Obligations.StepKeepsThrottle := by
  intro s t hs h
  unfold step at h
  split at h
  · injection h with h
    exact h ▸ hs.same ⟨rfl, rfl, rfl, rfl, rfl⟩
  · next c rest _ =>
    have hrest : ThrottleOk { s with pending := rest } := hs.same ⟨rfl, rfl, rfl, rfl, rfl⟩
    exact hrest.exec c h

end

section
/-! The times of the Peer Unit's records (R108, R117, R151). -/

open Sys2Proof Sys2Proof.Machine

namespace Sys2Proof.Machine

/-- The two spellings of "another station". -/
theorem bne_station (n k : Nat) : (k != n) = decide (k ≠ n) := Bool.eq_iff_iff.mpr (by simp)

/-- A member leaves the set of a group, in the words of the rule (R117). -/
theorem State.dropMember_eq (s : State) (n g : Nat) :
    s.dropMember n g = State.evaluateThrottle { s with
      peers := { s.peers with board := s.peers.board.modify g (fun ms => ms.filter (·.station ≠ n)) } } := by
  simp only [dropMember, modBoard, bne_station]

/-- A station leaves every set, in the words of the rule (R117, R151). -/
theorem State.dropStation_eq (s : State) (n : Nat) :
    s.dropStation n = State.evaluateThrottle { s with
      peers := { s.peers with board := s.peers.board.map (fun ms => ms.filter (·.station ≠ n)) } } := by
  simp only [dropStation, bne_station]

end Sys2Proof.Machine

/-- Settles O51: each time acts on the records of its own list; where the board changes, THROTTLE is evaluated. -/
theorem peerTimesRunOut : Obligations.PeerTimesRunOut := by
  intro s
  refine ⟨fun g v hv hfresh => ?_, fun g n m hm => ?_, fun n x hx hheard => ?_, fun n x hx => ?_⟩
  · show execViewStale g s = _
    simp [execViewStale, hv, hfresh, State.until]
  · show execBoardRenewalExpiry g n s = _
    simp only [execBoardRenewalExpiry, hm, State.dropMember_eq]
    rfl
  · show execRosterSilent n s = _
    simp [execRosterSilent, hx, hheard, State.until]
  · show execRosterLoss n s = _
    simp only [execRosterLoss, hx, State.dropStation_eq, bne_station]
    rfl

end

section
/-! A STATUS and the view of its group (R107). -/

open Sys2Proof Sys2Proof.Machine

namespace Sys2Proof.Machine

/-- The view that a STATUS of a sender gives at an instant (R107, Table 6-2). -/
def GroupView.heard (n now : Nat) (c : StatusContent) : GroupView :=
  ⟨n, c.epoch, c.role, c.drive, c.level, c.condition, c.speeds, now, false⟩

namespace State

@[simp] theorem rosterTakes_views (s : State) (n : Nat) (k : FrameKind) : (s.rosterTakes n k).peers.views = s.peers.views := by
  unfold rosterTakes
  split <;> rfl

@[simp] theorem linkTakes_views (s : State) (n : Nat) : (s.linkTakes n).peers.views = s.peers.views := by
  have hrejoin : (s.rejoin n).peers.views = s.peers.views :=
    (forRoles_same (·.peers.views) _ _ fun u r => by simp).trans (by simp [restartLink])
  unfold linkTakes
  repeat' split
  · exact hrejoin
  · rfl
  · rfl

/-- The views after a STATUS: its group's is the STATUS', where the view takes it, and every other one is as it was (R107). -/
theorem takeView_view (s : State) (n g : Nat) (c : StatusContent) (hg : c.group < s.peers.views.length) :
    (s.takeView n c).view g
      = if g = c.group ∧ viewTakes c.epoch (s.view c.group) = true then some (.heard n s.now c) else s.view g := by
  unfold takeView
  by_cases htakes : viewTakes c.epoch (s.view c.group) = true
  · rw [if_pos htakes]
    by_cases hc : g = c.group
    · rw [if_pos ⟨hc, htakes⟩, hc]
      simp [view, hg, GroupView.heard]
    · simp [view, hc, List.getElem?_set_ne (Ne.symm hc)]
  · simp [htakes]

/-- The Peer Unit takes a STATUS in JOINING or RUNNING: roster and link silence leave the views. -/
theorem peerTakes_view (s : State) (n g : Nat) (c : StatusContent) (ht : s.transmits = true) (hg : c.group < s.peers.views.length) :
    (s.peerTakes n (.status c)).view g = (s.takeView n c).view g := by
  have hsends : ((s.rosterTakes n .status).linkTakes n).transmits = true := (transmits_of_ctl (by simp)).trans ht
  have hview (q : Nat) : ((s.rosterTakes n .status).linkTakes n).view q = s.view q := by simp [view]
  have hnow : ((s.rosterTakes n .status).linkTakes n).now = s.now := by simp
  rw [peerTakes, payloadKind, peerContent, if_pos hsends, takeView_view _ n g c (by simpa using hg), takeView_view s n g c hg,
    hview, hview, hnow]

end State

/-- A STATUS frame that the station takes leaves its views as the Peer Unit does, in either order of the blocks (R107, R154). -/
theorem exec_status_view (s : State) (n : Nat) (c : StatusContent) (h : TakesFrame s n (.status c)) (hlen : s.peers.views.length = 16) :
    ∃ t, exec (.statusFrame n c) s = .next t ∧ ∀ g, t.view g
      = if g = c.group ∧ viewTakes c.epoch (s.view c.group) = true then some (.heard n s.now c) else s.view g := by
  have ⟨_, ht, _, hwf, _⟩ := h
  have hg : c.group < s.peers.views.length := by
    simp only [Payload.wf, StatusContent.wf, groupOk, Bool.and_eq_true, decide_eq_true_eq] at hwf
    omega
  obtain ⟨k, w, hexec, hw⟩ := exec_driverFrame s n c.group c.epoch (.status c) h rfl
  refine ⟨w.finish, hexec, fun g => ?_⟩
  let u : State := { s.setLine .notIdle with choices := k }
  have htaken : (u.takeView n c).view g
      = if g = c.group ∧ viewTakes c.epoch (s.view c.group) = true then some (.heard n s.now c) else s.view g := u.takeView_view n g c hg
  have hfinish : w.finish.view g = w.view g := by simp [State.view]
  rw [hfinish, ← htaken]
  rcases hw with rfl | ⟨rfl, -⟩
  · rw [← u.peerTakes_view n g c ht hg]
    simp [State.view, u]
  · have hpeers : (u.driveshipTakes n (.status c)).peers = u.peers := by simp
    rw [State.peerTakes_view _ n g c ((transmits_of_ctl (by simp)).trans ht) (by rwa [hpeers]),
      State.takeView_view _ n g c (by rwa [hpeers]), u.takeView_view n g c hg]
    simp [State.view, u]

end Sys2Proof.Machine

/-- Settles O47: the view takes the frame exactly under R107, whichever block is first. -/
theorem viewTakesStatus : Obligations.ViewTakesStatus := by
  intro s n c h hlen
  obtain ⟨t, hexec, hview⟩ := exec_status_view s n c h hlen
  refine ⟨t, hexec, ⟨fun hv => ?_, fun v hv hs => ?_, fun v hv hs he => ?_, fun v hv hs he => ?_⟩, fun g hg => ?_⟩
  · rw [hview, hv, if_pos ⟨rfl, rfl⟩]; rfl
  · rw [hview, hv, if_pos ⟨rfl, by simp [viewTakes, hs]⟩]; rfl
  · rw [hview, hv, if_pos ⟨rfl, by simp [viewTakes, he]⟩]; rfl
  · rw [hview, hv, if_neg (by simp [viewTakes, hs, he])]
  · rw [hview, if_neg fun hc => hg hc.1]

end

section
/-! ALERT frames (R116 to R120): critical peers and the saturation board. -/

open Sys2Proof Sys2Proof.Machine

namespace Sys2Proof.Machine

/-- An ALERT of a peer is delivered: a frame in JOINING or RUNNING, or an ALERT CRITICAL in FAULTED (R120, R140). -/
def HearsAlert (s : State) (n : Nat) (p : Payload) : Prop :=
  TakesFrame s n p
    ∨ (s.receiving = true ∧ s.ctl.state = .faulted ∧ stationOk n = true ∧ p.wf = true ∧ s.ctl.station ≠ some n)

/-- A known peer's frame out of isolation, before its content is taken: of what an ALERT acts on nothing has changed (R150, R152). -/
structure State.Noted (s u : State) : Prop where
  now : u.now = s.now
  ctl : u.ctl = s.ctl
  timing : u.timing = s.timing
  board : u.peers.board = s.peers.board
  critPeers : u.peers.critPeers = s.peers.critPeers
  notices : u.notices = s.notices
  shutdown : u.shutdown = s.shutdown
  throttle : u.throttle = s.throttle
  roles : u.roles = s.roles
  txq : u.txq = s.txq

/-- A known peer's frame posts nothing at the roster (R150). -/
theorem State.rosterTakes_known (s : State) (n : Nat) (k : FrameKind) (hn : s.peers.roster.any (fun x => x.station == n) = true) :
    (s.rosterTakes n k).notices = s.notices ∧ (s.rosterTakes n k).peers.critPeers = s.peers.critPeers := by
  unfold rosterTakes
  rw [if_pos hn]
  exact ⟨rfl, rfl⟩

theorem State.noted (s : State) (n : Nat) (k : FrameKind) (hi : s.peers.isolated = false)
    (hn : s.peers.roster.any (fun x => x.station == n) = true) :
    s.Noted (((s.setLine .notIdle).rosterTakes n k).linkTakes n) := by
  obtain ⟨hrosterNotices, hrosterCrit⟩ : ((s.setLine .notIdle).rosterTakes n k).notices = s.notices
      ∧ ((s.setLine .notIdle).rosterTakes n k).peers.critPeers = s.peers.critPeers := (s.setLine .notIdle).rosterTakes_known n k hn
  have hcrit (u : State) (hu : u.peers.isolated = false) : (u.linkTakes n).peers.critPeers = u.peers.critPeers := by
    unfold linkTakes
    rw [hu]
    split <;> rfl
  have hconnected : ((s.setLine .notIdle).rosterTakes n k).peers.isolated = false := (rosterTakes_isolated _ n k).trans hi
  obtain ⟨hroles, -, htxq, -, hlinkNotices⟩ := linkTakes_connected _ n hconnected
  exact {
    now := by simp
    ctl := by simp
    timing := by simp
    board := by simp
    critPeers := (hcrit _ hconnected).trans hrosterCrit
    notices := hlinkNotices.trans hrosterNotices
    shutdown := by simp
    throttle := by simp
    roles := by simp [hroles]
    txq := by simp [htxq] }

theorem State.Noted.timeBase {s u : State} (h : s.Noted u) : u.timeBase = s.timeBase := timeBase_congr h.ctl h.now

/-- At a settled station a known peer's ALERT is what the Peer Unit takes of it (R116, R120, R140). -/
theorem exec_alert (s : State) (n g : Nat) (k : AlertKind) (v : Int) (hi : s.peers.isolated = false)
    (hn : s.peers.roster.any (fun x => x.station == n) = true) (hs : Settled s) (h : HearsAlert s n (.alert k g v)) :
    ∃ u, s.Noted u ∧ exec (.alertFrame n k g v) s = .next (u.peerContent n (.alert k g v)) := by
  refine ⟨_, s.noted n .alert hi hn, ?_⟩
  have hends : ((s.setLine .notIdle).peerTakes n (.alert k g v)).finish = (s.setLine .notIdle).peerTakes n (.alert k g v) := by
    refine State.finish_settled _ (settled_of_roles ?_ hs)
    simpa [State.peerTakes, payloadKind] using (s.noted n .alert hi hn).roles
  rcases h with h | ⟨hreceiving, hstate, hstation, hwf, hown⟩
  · have hexec := exec_frameCommand s n _ h
    rwa [State.deliverAll, if_neg (by simp [State.orderMatters, payloadKind]), State.othersTake, hends] at hexec
  · have hdeliver : (s.setLine .notIdle).deliver n (.alert k g v) = (s.setLine .notIdle).peerTakes n (.alert k g v) := by
      simp [State.deliver, hstate, hown]
    show Host.Outcome.next (s.receive n (.alert k g v)) = _
    rw [State.receive, if_pos hreceiving, if_pos (by rw [hstation, hwf]; rfl), hdeliver, hends]
    rfl

namespace State

/-- An ALERT CRITICAL: list, SHUTDOWN and notice (R120). -/
theorem takeCritical_eq (s : State) (n ch : Nat) (v : Int) :
    (s.takeCritical n ch v).peers.critPeers = critAfter s.peers.critPeers n ch v (s.enclosure.contains n)
      ∧ (s.takeCritical n ch v).peers.board = s.peers.board
      ∧ (s.takeCritical n ch v).shutdown = (s.shutdown || s.enclosure.contains n)
      ∧ (s.takeCritical n ch v).notices = if s.peers.critPeers.any (fun x => x.station == n) then s.notices
          else s.notices.push s.timeBase .peerCritical n (some v) := by
  unfold takeCritical
  dsimp only
  split <;> exact ⟨rfl, rfl, rfl, rfl⟩

/-- An ALERT SATURATION: board, THROTTLE and notice (R116, R118). -/
theorem takeSaturation_eq (s : State) (n g : Nat) :
    (s.takeSaturation n g).peers = { s.peers with
        board := s.peers.board.modify g (fun ms =>
          if (s.peers.board.getD g []).any (fun m => m.station == n)
          then ms.map (fun m => if m.station = n then { m with due := s.now + 15000 } else m)
          else ms ++ [⟨n, s.now + 15000⟩]) }
      ∧ (s.takeSaturation n g).throttle = throttleCondition (s.takeSaturation n g)
      ∧ (s.takeSaturation n g).notices = if (s.peers.board.getD g []).any (fun m => m.station == n) then s.notices
          else s.notices.push s.timeBase .peerSaturated g (some (n : Int)) := by
  unfold takeSaturation
  dsimp only
  split <;> exact ⟨rfl, rfl, rfl⟩

end State
end Sys2Proof.Machine

/-- Settles O48: the Peer Unit's part of an ALERT, on a state whose lists, lines and clock are those of the frame's event. -/
theorem alertsTaken : Obligations.AlertsTaken := by
  intro s n hi hn hs
  refine ⟨fun ch v h => ?_, fun g v h => ?_, fun g v h => ?_⟩
  · obtain ⟨u, hu, hexec⟩ := exec_alert s n ch .critical v hi hn hs h
    obtain ⟨hcrit, hboard, hshutdown, hnotices⟩ := u.takeCritical_eq n ch v
    have henclosure : u.enclosure = (s.timing.map (·.enclosure)).getD [] := by rw [State.enclosure, hu.timing]
    rw [hu.critPeers, henclosure] at hcrit
    rw [hu.shutdown, henclosure] at hshutdown
    rw [hu.critPeers, hu.notices, hu.timeBase] at hnotices
    exact ⟨_, hexec, hcrit, hshutdown, hnotices, hboard.trans hu.board, by simpa [State.peerContent] using hu.throttle,
      by simpa using hu.roles, by simpa using hu.txq⟩
  · have ⟨_, ht, _⟩ := h
    obtain ⟨u, hu, hexec⟩ := exec_alert s n g .saturation v hi hn hs (.inl h)
    have htaken : u.peerContent n (.alert .saturation g v) = u.takeSaturation n g :=
      if_pos ((transmits_of_ctl hu.ctl).trans ht)
    obtain ⟨hpeers, hthrottle, hnotices⟩ := u.takeSaturation_eq n g
    have hboard := congrArg PeerUnit.board hpeers
    have hcrit := congrArg PeerUnit.critPeers hpeers
    rw [hu.board, hu.now] at hboard
    rw [hu.board, hu.notices, hu.timeBase] at hnotices
    exact ⟨_, htaken ▸ hexec, hboard, hthrottle, hnotices, hcrit.trans hu.critPeers, by simpa using hu.shutdown,
      by simpa using hu.roles, by simpa using hu.txq⟩
  · have ⟨_, ht, _⟩ := h
    obtain ⟨u, hu, hexec⟩ := exec_alert s n g .saturationClear v hi hn hs (.inl h)
    have htaken : u.peerContent n (.alert .saturationClear g v) = u.dropMember n g :=
      if_pos ((transmits_of_ctl hu.ctl).trans ht)
    rw [htaken, u.dropMember_eq] at hexec
    exact ⟨_, hexec, congrArg (List.modify · g _) hu.board, rfl, hu.notices, hu.critPeers, hu.shutdown, hu.roles, hu.txq⟩

end

section
/-! A saturation monitor at a computation (Table 6-3, R110 to R114). -/

open Sys2Proof Sys2Proof.Machine

namespace Sys2Proof.Machine

/-! ### The result of a monitor (R111) -/

theorem monitorResult_true : monitorResult 100 (some 100) = .true := rfl

theorem monitorResult_frozen : monitorResult 100 none = .frozen := rfl

theorem monitorResult_false {curve : Nat} {reported : Option Nat}
    (h : curve ≠ 100 ∨ ∃ level, reported = some level ∧ level ≠ 100) : monitorResult curve reported = .false := by
  unfold monitorResult
  rcases h with h | ⟨level, rfl, h⟩
  · split <;> simp [h]
  · simp [h]

namespace State

/-! ### The entry and its moves (Table 6-3) -/

theorem modEntry_get {s : State} {i : Nat} {d : DemandEntry} (hd : s.demand.entries[i]? = some d) (f : DemandEntry → DemandEntry) :
    (s.modEntry i f).demand.entries[i]? = some (f d) := by
  simp [hd]

/-- A monitor leaves its entry's configuration, level, curve part and posted values. -/
theorem takeMonitor_get {s : State} {i : Nat} {d : DemandEntry} (hd : s.demand.entries[i]? = some d) :
    ∃ d', (s.takeMonitor i).demand.entries[i]? = some d' ∧ d'.unmonitored = d.unmonitored := by
  obtain ⟨-, -, hentries⟩ := besidePosting_eq (s.takeMonitor_besidePosting i)
  have hget := congrArg (·[i]?) hentries
  simp only [List.getElem?_map, hd, Option.map_some] at hget
  exact Option.map_eq_some_iff.mp hget

section Moves

variable {s : State} {i : Nat} {d : DemandEntry}

theorem takeMonitor_begins (hd : s.demand.entries[i]? = some d) (hs : d.sat = .clear)
    (hr : monitorResult d.curvePart (s.reportedLevel d.cfg.group) = .true) :
    s.takeMonitor i = s.modEntry i (fun d => { d with sat := .counting, satCount := 1 }) := by
  simp only [takeMonitor, hd, hs, hr]

theorem takeMonitor_counts (hd : s.demand.entries[i]? = some d) (hs : d.sat = .counting)
    (hr : monitorResult d.curvePart (s.reportedLevel d.cfg.group) = .true) (hlt : d.satCount + 1 < s.saturationQuarters) :
    s.takeMonitor i = s.modEntry i (fun d => { d with satCount := d.satCount + 1 }) := by
  simp only [takeMonitor, hd, hs, hr, if_neg (Nat.not_le.mpr hlt)]

theorem takeMonitor_saturates (hd : s.demand.entries[i]? = some d) (hs : d.sat = .counting)
    (hr : monitorResult d.curvePart (s.reportedLevel d.cfg.group) = .true) (hle : s.saturationQuarters ≤ d.satCount + 1) :
    s.takeMonitor i = s.enterSaturated i d := by
  simp only [takeMonitor, hd, hs, hr, if_pos hle]

theorem takeMonitor_rests (hd : s.demand.entries[i]? = some d) (hs : d.sat = .counting)
    (hr : monitorResult d.curvePart (s.reportedLevel d.cfg.group) = .frozen) : s.takeMonitor i = s := by
  simp only [takeMonitor, hd, hs, hr]

/-- A monitor that is or becomes CLEAR has its count at 0. -/
theorem takeMonitor_clears (hd : s.demand.entries[i]? = some d)
    (h : d.sat = .clear ∧ monitorResult d.curvePart (s.reportedLevel d.cfg.group) = .frozen
      ∨ d.sat ≠ .saturated ∧ monitorResult d.curvePart (s.reportedLevel d.cfg.group) = .false) :
    s.takeMonitor i = s.modEntry i (fun d => { d with sat := .clear, satCount := 0 }) := by
  have hstays (hs : d.sat = .clear) :
      s.modEntry i (fun d => { d with satCount := 0 }) = s.modEntry i (fun d => { d with sat := .clear, satCount := 0 }) := by
    unfold modEntry
    rw [modify_congr_get _ _ _ (fun d => { d with sat := .clear, satCount := 0 })]
    intro x hx
    obtain rfl := Option.some.inj (hd.symm.trans hx)
    rw [hs]
  rcases h with ⟨hs, hr⟩ | ⟨hs, hr⟩
  · simp only [takeMonitor, hd, hs, hr]
    exact hstays hs
  · cases hsat : d.sat with
    | saturated => exact absurd hsat hs
    | clear =>
      simp only [takeMonitor, hd, hsat, hr]
      exact hstays hsat
    | counting => simp only [takeMonitor, hd, hsat, hr]

theorem takeMonitor_holds (hd : s.demand.entries[i]? = some d) (hs : d.sat = .saturated)
    (hm : 100 < d.curvePart + s.releaseMargin) : s.takeMonitor i = s := by
  simp only [takeMonitor, hd, hs, if_neg (Nat.not_le.mpr hm)]

theorem takeMonitor_leaves (hd : s.demand.entries[i]? = some d) (hs : d.sat = .saturated)
    (hm : d.curvePart + s.releaseMargin ≤ 100) : s.takeMonitor i = s.leaveSaturated i d := by
  simp only [takeMonitor, hd, hs, if_pos hm]

/-! ### Entry into SATURATED and exit (R112, R114) -/

/-- An ALERT offered to a queue with room is in it: no ALERT coalesces (R143). -/
theorem offer_alert_queued (u : State) (k : AlertKind) (g : Nat) (v : Int) (ht : u.transmits = true) (hroom : u.txq.length < 8) :
    Queued (u.offer (.alert k g v)) u.stamp (.alert k g v) ∧ (u.offer (.alert k g v)).notices = u.notices := by
  refine ⟨u.offer_queued _ ht hroom fun x _ => rfl, ?_⟩
  obtain ⟨-, hnotices, -⟩ := u.offer_with_room (.alert k g v) hroom
  exact hnotices

/-- The entry into SATURATED, before its ALERT: notice and THROTTLE (R112, R118). -/
def saturatedTold (s : State) (i : Nat) (d : DemandEntry) : State :=
  ((s.modEntry i (fun d => { d with sat := .saturated, satCount := s.saturationQuarters })).post .saturated d.cfg.group
    (some d.level)).evaluateThrottle

theorem enterSaturated_eq (s : State) (i : Nat) (d : DemandEntry) :
    s.enterSaturated i d = if s.transmits then
        ((s.saturatedTold i d).modEntry i (fun d => { d with satRepeat := .running (s.now + 5000) })).offer
          (.alert .saturation d.cfg.group 0)
      else s.saturatedTold i d := rfl

theorem enterSaturated_entry (hd : s.demand.entries[i]? = some d) :
    (s.enterSaturated i d).demand.entries[i]? = some { d with
      sat := .saturated, satCount := s.saturationQuarters
      satRepeat := if s.transmits then .running (s.now + 5000) else d.satRepeat } := by
  rw [enterSaturated_eq]
  split <;> simp [saturatedTold, hd]

theorem enterSaturated_throttle (hd : s.demand.entries[i]? = some d) : (s.enterSaturated i d).throttle = true := by
  have htold : (s.saturatedTold i d).throttle = true := by
    have hmem := List.mem_of_getElem? (modEntry_get hd (fun d => { d with sat := .saturated, satCount := s.saturationQuarters }))
    exact Bool.or_eq_true_iff.mpr (.inl (List.any_eq_true.mpr ⟨_, hmem, rfl⟩))
  rw [enterSaturated_eq]
  split <;> simp [htold]

theorem enterSaturated_told (i : Nat) (d : DemandEntry) (ht : s.transmits = true) (hroom : s.txq.length < 8) :
    Queued (s.enterSaturated i d) s.stamp (.alert .saturation d.cfg.group 0)
      ∧ (s.enterSaturated i d).notices = s.notices.push s.timeBase .saturated d.cfg.group (some (d.level : Int)) := by
  rw [enterSaturated_eq, if_pos ht]
  exact offer_alert_queued ((s.saturatedTold i d).modEntry i _) _ _ _ ht hroom

/-- The exit from SATURATED, before its ALERT: notice and THROTTLE (R114, R118). -/
def clearedTold (s : State) (i : Nat) (d : DemandEntry) : State :=
  ((s.modEntry i (fun d => { d with sat := .clear, satCount := 0, satRepeat := .stopped })).post .saturationCleared d.cfg.group
    (some d.curvePart)).evaluateThrottle

theorem leaveSaturated_eq (s : State) (i : Nat) (d : DemandEntry) :
    s.leaveSaturated i d
      = if s.transmits then (s.clearedTold i d).offer (.alert .saturationClear d.cfg.group 0) else s.clearedTold i d := rfl

theorem leaveSaturated_entry (hd : s.demand.entries[i]? = some d) :
    (s.leaveSaturated i d).demand.entries[i]? = some { d with sat := .clear, satCount := 0, satRepeat := .stopped } := by
  rw [leaveSaturated_eq]
  split <;> simp [clearedTold, hd]

theorem leaveSaturated_throttle (s : State) (i : Nat) (d : DemandEntry) :
    (s.leaveSaturated i d).throttle = throttleCondition (s.leaveSaturated i d) := by
  have hkept : (s.clearedTold i d).ThrottleKept (s.leaveSaturated i d) := by
    rw [leaveSaturated_eq]
    split
    · exact throttleKept_offer _ _
    · exact .refl _
  exact hkept.throttle.trans hkept.condition.symm

theorem leaveSaturated_told (i : Nat) (d : DemandEntry) (ht : s.transmits = true) (hroom : s.txq.length < 8) :
    Queued (s.leaveSaturated i d) s.stamp (.alert .saturationClear d.cfg.group 0)
      ∧ (s.leaveSaturated i d).notices = s.notices.push s.timeBase .saturationCleared d.cfg.group (some (d.curvePart : Int)) := by
  rw [leaveSaturated_eq, if_pos ht]
  exact offer_alert_queued (s.clearedTold i d) _ _ _ ht hroom

end Moves
end State
end Sys2Proof.Machine

/-- Settles O28: the monitor's move is the one that its state and the round's result give (Table 6-3). -/
theorem monitorAtComputation : Obligations.MonitorAtComputation := by
  intro s i d hd t quarters full reported
  obtain ⟨d', hd', hkept⟩ := State.takeMonitor_get hd
  obtain ⟨hcfg, hlevel, -, hcurve, -, -, hlast⟩ := DemandEntry.unmonitored_eq hkept
  -- The entry afterwards is the one that the move gives.
  have hentry {u : State} {e : DemandEntry} (ht : t = u) (he : u.demand.entries[i]? = some e) : d' = e := by
    rw [← ht] at he
    exact Option.some.inj (hd'.symm.trans he)
  have hresult {r : MonitorResult} (hf : full) (hr : monitorResult 100 reported = r) :
      monitorResult d.curvePart (s.reportedLevel d.cfg.group) = r := by
    rw [hf]
    exact hr
  refine ⟨d', hd', hcfg, hlevel, hcurve, hlast, fun hs hf hr => ?_, fun hs hr => ?_, fun hs hf hr hlt => ?_, fun hs hf hr hle => ?_,
    fun hs hf hr => ?_, fun hs hr => ?_, fun hs hm => ?_, fun hs hm => ?_⟩
  · -- CLEAR, the result true: COUNTING
    have ht : t = _ := State.takeMonitor_begins hd hs (hresult hf (hr ▸ monitorResult_true))
    obtain rfl := hentry ht (State.modEntry_get hd _)
    exact ⟨rfl, rfl, by rw [ht]; rfl⟩
  · -- CLEAR, the result false or frozen
    have hclears : monitorResult d.curvePart (s.reportedLevel d.cfg.group) = .frozen
        ∨ monitorResult d.curvePart (s.reportedLevel d.cfg.group) = .false := by
      by_cases hf : full
      · exact .inl (hresult hf (hr hf ▸ monitorResult_frozen))
      · exact .inr (monitorResult_false (.inl hf))
    have ht : t = _ := State.takeMonitor_clears hd (hclears.imp (⟨hs, ·⟩) (⟨by simp [hs], ·⟩))
    obtain rfl := hentry ht (State.modEntry_get hd _)
    exact ⟨rfl, rfl, by rw [ht]; rfl⟩
  · -- COUNTING, the result true before the saturation time
    have ht : t = _ := State.takeMonitor_counts hd hs (hresult hf (hr ▸ monitorResult_true)) hlt
    obtain rfl := hentry ht (State.modEntry_get hd _)
    exact ⟨hs, rfl, by rw [ht]; rfl⟩
  · -- COUNTING, the result true at the saturation time: SATURATED
    have ht : t = _ := State.takeMonitor_saturates hd hs (hresult hf (hr ▸ monitorResult_true)) hle
    obtain rfl := hentry ht (State.enterSaturated_entry hd)
    rw [ht]
    refine ⟨rfl, rfl, State.enterSaturated_throttle hd, fun hsends => ⟨by simp [hsends], fun hroom => ?_⟩⟩
    exact State.enterSaturated_told i d hsends hroom
  · -- COUNTING, the result frozen
    have ht : t = s := State.takeMonitor_rests hd hs (hresult hf (hr ▸ monitorResult_frozen))
    exact ⟨hentry ht hd, ht⟩
  · -- CLEAR or COUNTING, the result false
    have ht : t = _ := State.takeMonitor_clears hd (.inr ⟨hs, monitorResult_false hr⟩)
    obtain rfl := hentry ht (State.modEntry_get hd _)
    exact ⟨rfl, rfl, by rw [ht]; rfl⟩
  · -- SATURATED within the release margin
    exact State.takeMonitor_holds hd hs hm
  · -- SATURATED at the release margin: CLEAR
    have ht : t = _ := State.takeMonitor_leaves hd hs hm
    obtain rfl := hentry ht (State.leaveSaturated_entry hd)
    rw [ht]
    refine ⟨rfl, rfl, rfl, s.leaveSaturated_throttle i d, fun hsends hroom => ?_⟩
    exact State.leaveSaturated_told i d hsends hroom

end

section
/-! SUPPORT. The line's events and the end of a frame in terms of the state's operations (R122 to R132, R139). -/

namespace Sys2Proof.Machine

namespace State

/-- No own frame is on the wire exactly where there is no entry that is on it. -/
theorem ownFrame_eq_none_iff (s : State) : s.ownFrame = none ↔ s.ownOnWire = false := by
  simp [ownFrame, ownOnWire]

/-- A station that receives has no frame of its own on the wire (R123). -/
theorem ownFrame_of_receiving {s : State} (h : s.receiving = true) : s.ownFrame = none := by
  simp only [receiving, Bool.and_eq_true, Bool.not_eq_true'] at h
  exact s.ownFrame_eq_none_iff.mpr h.2

/-- A good pulse is no event (R127). -/
theorem exec_pulseError_good (s : State) {p : Pulse} (hp : pulseIsError p = false) : exec (.pulseError p) s = .next s := by
  show execPulseError p s = _
  simp [execPulseError, hp]

/-- A pulse error in a frame that is received ends and counts it (R127, R139). -/
theorem exec_pulseError_received {s : State} {p : Pulse} (h : s.receiving = true) (hp : pulseIsError p = true) :
    exec (.pulseError p) s = .next (s.setLine .notIdle).countBad := by
  show execPulseError p s = _
  simp [execPulseError, hp, ownFrame_of_receiving h, h]

/-- A pulse error in the own frame is met as an overlap (R130). -/
theorem exec_pulseError_own {s : State} {p : Pulse} {q : QEntry} (hq : s.ownFrame = some q) (hp : pulseIsError p = true) :
    exec (.pulseError p) s = .next (s.meetOverlap q) := by
  show execPulseError p s = _
  simp [execPulseError, hp, hq]

/-- A frame that fails the checks is ended and counted (R138, R139). -/
theorem exec_badFrameReceived_failing {s : State} {w : WireFrame} (h : s.receiving = true) (hw : receptionCheck w = none) :
    exec (.badFrameReceived w) s = .next (s.setLine .notIdle).countBad := by
  show execBadFrameReceived w s = _
  simp [execBadFrameReceived, hw, h]

/-- CONTENTION_LOSS in the own frame (R129). -/
theorem exec_contentionLoss {s : State} {q : QEntry} (hq : s.ownFrame = some q) (cell : Nat) :
    exec (.contentionLoss cell) s = .next (if losesAt (s.ownCells q.payload) cell then s.loseContention else s) := by
  show execContentionLoss cell s = _
  simp [execContentionLoss, hq]

/-- OVERLAP in the own frame at a mismatch that is one (R130). -/
theorem exec_overlap {s : State} {q : QEntry} {m : Mismatch} (hq : s.ownFrame = some q)
    (hm : isOverlap (s.ownCells q.payload) m = true) : exec (.overlap m) s = .next (s.meetOverlap q) := by
  show execOverlap m s = _
  simp [execOverlap, hq, hm]

/-- The head of a queue that waits is started on an IDLE line (R124). -/
theorem startHead_waiting {s : State} {e : QEntry} {rest : List QEntry} (hl : s.line.state = .idle) (ht : s.transmits = true)
    (hq : s.txq = e :: rest) (he : e.onWire = false) :
    s.startHead = { s with txq := { e with onWire := true } :: rest, line := { s.line with state := .frame } } := by
  simp [startHead, hl, ht, hq, he, markHead]

/-- A station that sends no frames, or has none, starts nothing. -/
theorem startHead_silent {s : State} (h : s.transmits = false ∨ s.txq = []) : s.startHead = s := by
  rcases h with h | h <;> simp [startHead, h]

/-- LINE_IDLE ends a line that is NOT_IDLE or STUCK (R123, R124, R132). -/
theorem exec_lineIdle {s : State} (hs : s.started = true) (hl : s.line.state = .notIdle ∨ s.line.state = .stuck) (first : Bool) :
    exec (.lineIdle first) s
      = .next (if first then { s with line := ⟨.frame, false⟩ } else ({ s with line := ⟨.idle, false⟩ } : State).startHead) := by
  have hheld : s.ctl.state ≠ .resetHeld := by simpa [started] using hs
  show execLineIdle s first = _
  unfold execLineIdle
  split
  case h_1 hc => exact absurd hc hheld
  case h_2 => cases first <;> rfl
  case h_3 => cases first <;> rfl
  case h_4 hidle _ => simp [hidle] at hl
  case h_5 hframe _ => simp [hframe] at hl

/-- START_MARK acts on an IDLE line of a started station alone (R123). -/
theorem exec_startMark (s : State) :
    exec .startMark s = .next (if s.started ∧ s.line.state = .idle then s.setLine .frame else s) := rfl

/-- LINE_STUCK at a started station without an own frame on the wire (R132). -/
theorem exec_lineStuck {s : State} (hs : s.started = true) (hw : s.ownOnWire = false) :
    exec .lineStuck s = .next { s with
      line := ⟨.stuck, true⟩
      badCount := if s.line.state = .frame then min 65535 (s.badCount + 1) else s.badCount
      notices := if s.line.stuckOpen then s.notices else s.notices.push s.timeBase .linkStuck 0 none } := by
  show execLineStuck s = _
  unfold execLineStuck
  rw [if_pos ⟨hs, hw⟩]
  by_cases hf : s.line.state = .frame <;> cases ho : s.line.stuckOpen
  all_goals simp [hf, countBad, post, timeBase]

/-- In RESET_HELD no event of the line has an effect (R122). -/
theorem exec_line_held {s : State} (hs : s.started = false) (first : Bool) :
    exec (.lineIdle first) s = .next s ∧ exec .startMark s = .next s ∧ exec .lineStuck s = .next s := by
  have hheld : s.ctl.state = .resetHeld := by simpa [started] using hs
  refine ⟨?_, ?_, ?_⟩
  · show execLineIdle s first = _
    simp [execLineIdle, hheld]
  · rw [exec_startMark, if_neg (by simp [hs])]
  · show execLineStuck s = _
    simp [execLineStuck, hs]

end State

/-- Every reception check that is named refuses the frame (R138). -/
theorem receptionCheck_refuses (w : WireFrame)
    (h : w.crc ≠ crcOf (coveredBits w) ∨ w.length.toNat ≠ w.payload.length ∨ stationOk w.sender.toNat = false
      ∨ readPayload w.kind.toNat (w.payload.map BitVec.toNat) = none) : receptionCheck w = none := by
  unfold receptionCheck
  by_cases hcrc : w.crc ≠ crcOf (coveredBits w)
  · rw [if_pos hcrc]
  rw [if_neg hcrc]
  by_cases hlen : w.length.toNat ≠ w.payload.length
  · rw [if_pos hlen]
  rw [if_neg hlen]
  rcases h with h | h | h | h
  · exact absurd h hcrc
  · exact absurd h hlen
  · rw [h]; rfl
  · rw [h]; split <;> rfl

/-- The kind codes 0 and 7 belong to no kind (Table 12-2). -/
theorem readPayload_unassigned {kind : Nat} (h : kind = 0 ∨ kind = 7) (bytes : List Nat) : readPayload kind bytes = none := by
  rcases h with rfl | rfl <;> rfl

end Sys2Proof.Machine

open Sys2Proof Sys2Proof.Machine

/-- Settles O50, from what a discarded frame and a pulse do in a frame that is received. -/
theorem badFrameCounted : Obligations.BadFrameCounted := by
  refine ⟨fun s w h hw => State.exec_badFrameReceived_failing h hw, fun s p h => ?_, fun w hw => ?_⟩
  · intro bad
    have herror : pulseIsError p = true ↔ bad := by cases p <;> simp [bad, pulseIsError, inEdgeWindow, or_assoc]
    refine ⟨fun hb => State.exec_pulseError_received h (herror.mpr hb), fun hb => s.exec_pulseError_good ?_⟩
    exact Bool.eq_false_iff.mpr fun hp => hb (herror.mp hp)
  · apply receptionCheck_refuses
    rcases hw with h | h | h | h | h | h
    · exact .inl h
    · exact .inr (.inl h)
    · exact .inr (.inr (.inl (by rw [h]; rfl)))
    · exact .inr (.inr (.inl (by rw [h]; rfl)))
    · exact .inr (.inr (.inr (readPayload_unassigned (.inl h) _)))
    · exact .inr (.inr (.inr (readPayload_unassigned (.inr h) _)))

/-- Settles O53, by the event and the state of the station; the head frame starts where an own frame can (R124). -/
theorem lineEvents : Obligations.LineEvents := by
  intro s hw at'
  refine ⟨fun hs => ⟨fun hl => ⟨fun e rest ht hq => ?_, fun hsilent => ?_, ?_⟩, fun hl => ?_, fun hl => ?_, ?_⟩,
    fun hs => ⟨fun first => (State.exec_line_held hs first).1, (State.exec_line_held hs false).2⟩⟩
  · have he : e.onWire = false := by simpa [State.ownOnWire, hq] using List.any_eq_false.mp hw e (by simp [hq])
    rw [State.exec_lineIdle hs hl]
    exact congrArg Host.Outcome.next (State.startHead_waiting (s := at' ⟨.idle, false⟩) rfl ht hq he)
  · rw [State.exec_lineIdle hs hl]
    exact congrArg Host.Outcome.next (State.startHead_silent (s := at' ⟨.idle, false⟩) hsilent)
  · exact State.exec_lineIdle hs hl true
  · rw [State.exec_startMark, if_pos ⟨hs, hl⟩]
    rfl
  · rw [State.exec_startMark, if_neg fun h => hl h.2]
  · exact State.exec_lineStuck hs hw

end

section
/-! SUPPORT. The cells of a frame and the loss at them (R128 to R130), the start mark and the edges of contenders (R125). -/

namespace Sys2Proof.Machine

/-! ### Fields as cells -/

@[simp] theorem fieldBits_length {w : Nat} (v : BitVec w) : (fieldBits v).length = w := by simp [fieldBits]

/-- The first cell of a field is its most significant bit (12, opening). -/
theorem fieldBits_cons {w : Nat} (b : Bool) (v : BitVec w) : fieldBits (BitVec.cons b v) = b :: fieldBits v := by
  have hrest (i : Nat) : (BitVec.cons b v).getMsbD (i + 1) = v.getMsbD i := by
    grind [BitVec.getMsbD]
  simp [fieldBits, List.range_succ_eq_map, Function.comp_def, hrest]

/-- Two fields one after the other are the cells of one wider field. -/
theorem fieldBits_append {w v : Nat} (x : BitVec w) (y : BitVec v) : fieldBits (x ++ y) = fieldBits x ++ fieldBits y := by
  apply List.ext_getElem
  · simp
  · intro i hi hi'
    simp only [fieldBits_length] at hi
    simp only [fieldBits, List.getElem_append, List.getElem_map, List.getElem_range, List.length_map, List.length_range,
      BitVec.getMsbD_append]
    rcases Nat.lt_or_ge i w with h | h
    · simp [h, Nat.not_le.mpr h]
    · simp [h, Nat.not_lt.mpr h]

/-- The precedence field is one number of seven bits, the class above the sender. -/
theorem precedenceCells_eq (c : BitVec 2) (n : BitVec 5) : precedenceCells c n = fieldBits (c ++ n) := (fieldBits_append c n).symm

theorem bytesBits_length (bytes : List Byte) : (bytesBits bytes).length = 8 * bytes.length := by
  induction bytes with
  | nil => rfl
  | cons b bs ih =>
    have hcons : bytesBits (b :: bs) = fieldBits b ++ bytesBits bs := List.flatMap_cons
    rw [hcons, List.length_append, fieldBits_length, ih, List.length_cons]
    omega

/-- A frame has 31 cells beside those of its payload (R128). -/
theorem wireCells_length (w : WireFrame) : (wireCells w).length = 31 + 8 * w.payload.length := by
  simp only [wireCells, coveredBits, List.length_append, fieldBits_length, bytesBits_length]
  omega

/-- A frame's first seven cells are its precedence field (R128). -/
theorem wireCells_take (w : WireFrame) : (wireCells w).take 7 = precedenceCells w.cls w.sender := by
  have hsplit : wireCells w = precedenceCells w.cls w.sender
      ++ (fieldBits w.kind ++ fieldBits w.length ++ bytesBits w.payload ++ fieldBits w.crc) := by
    simp [wireCells, coveredBits, precedenceCells]
  rw [hsplit, List.take_left' (by simp [precedenceCells])]

/-! ### The lost cell (R129) -/

/-- A contender can lose at the 1s of its first seven cells. -/
theorem losesAt_iff (cells : List Bool) (cell : Nat) :
    losesAt cells cell = true ↔ 1 ≤ cell ∧ cell ≤ 7 ∧ cells.getD (cell - 1) false = true := by
  simp only [losesAt, Bool.and_eq_true, decide_eq_true_eq, and_assoc]

/-- A mismatch at a cell of the frame is an overlap after the precedence field and at a 0 (R130). -/
theorem isOverlap_cell_iff (cells : List Bool) (n : Nat) :
    isOverlap cells (.cell n) = true ↔ 1 ≤ n ∧ n ≤ cells.length ∧ (7 < n ∨ cells.getD (n - 1) false = false) := by
  simp only [isOverlap, Bool.and_eq_true, Bool.or_eq_true, decide_eq_true_eq, Bool.not_eq_true', and_assoc]

/-- Where both send the same, the contention goes on with the next cell. -/
theorem lostCell_same (b : Bool) (own other : List Bool) :
    lostCell (b :: own) (b :: other) = (lostCell own other).map (· + 1) := by cases b <;> rfl

/-- A 0 wins against the 1 of another: the other drives no further cell. -/
theorem lostCell_wins (own other : List Bool) : lostCell (false :: own) (true :: other) = none := rfl

/-- A 1 is lost against the 0 of another. -/
theorem lostCell_loses (own other : List Bool) : lostCell (true :: own) (false :: other) = some 1 := rfl

/-- A contender that loses has sent 1 at the cell of the loss. -/
theorem lostCell_sends {own other : List Bool} {k : Nat} (h : lostCell own other = some k) :
    1 ≤ k ∧ k ≤ own.length ∧ own.getD (k - 1) false = true := by
  induction own generalizing other k with
  | nil => cases h
  | cons a own ih =>
    cases other with
    | nil => cases h
    | cons b other =>
      by_cases hab : a = b
      · subst hab
        rw [lostCell_same] at h
        obtain ⟨j, hj, rfl⟩ := Option.map_eq_some_iff.mp h
        obtain ⟨hpos, hle, hsent⟩ := ih hj
        refine ⟨by omega, by simp only [List.length_cons]; omega, ?_⟩
        obtain ⟨i, rfl⟩ : ∃ i, j = i + 1 := ⟨j - 1, by omega⟩
        exact hsent
      · cases a with
        | false =>
          obtain rfl : b = true := by simpa using hab
          cases h
        | true =>
          obtain rfl : b = false := by simpa using hab
          obtain rfl : 1 = k := Option.some.inj h
          exact ⟨le_rfl, by simp, rfl⟩

/-- Of two fields of one width, the one with the higher number loses, and it alone (R129). -/
theorem lostCell_fieldBits {w : Nat} (a b : BitVec w) :
    (∃ k, lostCell (fieldBits a) (fieldBits b) = some k) ↔ b.toNat < a.toNat := by
  induction w with
  | zero => simp [BitVec.eq_nil a, BitVec.eq_nil b, fieldBits, lostCell]
  | succ w ih =>
    obtain ⟨x, a, rfl⟩ : ∃ x a', a = BitVec.cons x a' := ⟨_, _, (BitVec.cons_msb_setWidth a).symm⟩
    obtain ⟨y, b, rfl⟩ : ∃ y b', b = BitVec.cons y b' := ⟨_, _, (BitVec.cons_msb_setWidth b).symm⟩
    have ha := a.isLt
    have hb := b.isLt
    have hvalue (z : Bool) (v : BitVec w) : (BitVec.cons z v).toNat = z.toNat * 2 ^ w + v.toNat := by
      rw [BitVec.toNat_cons, Nat.shiftLeft_eq, Nat.mul_comm, Nat.two_pow_add_eq_or_of_lt v.isLt]
    rw [fieldBits_cons, fieldBits_cons, hvalue, hvalue]
    by_cases hxy : x = y
    · subst hxy
      rw [lostCell_same]
      simpa using ih a b
    · cases x with
      | false =>
        obtain rfl : y = true := by simpa using hxy
        rw [lostCell_wins, Bool.toNat_false, Bool.toNat_true]
        exact ⟨fun ⟨_, h⟩ => (nomatch h), fun h => by omega⟩
      | true =>
        obtain rfl : y = false := by simpa using hxy
        rw [lostCell_loses, Bool.toNat_false, Bool.toNat_true]
        exact ⟨fun _ => by omega, fun _ => ⟨1, rfl⟩⟩

/-- The number of a precedence field (R128). -/
theorem precedence_toNat (c : BitVec 2) (n : BitVec 5) : (c ++ n).toNat = 32 * c.toNat + n.toNat := by
  rw [BitVec.toNat_append, Nat.shiftLeft_eq, Nat.mul_comm, ← Nat.two_pow_add_eq_or_of_lt n.isLt]

/-! ### The start mark (R125) -/

theorem startMarkLow_cons (delay : Nat) (delays : List Nat) :
    startMarkLow (delay :: delays) = max (delay + 24000) (startMarkLow delays) :=
  (Nat.add_max_add_right delay (delays.foldr max 0) startLow).symm

/-- The low of a start mark is bounded where every delay is. -/
theorem startMarkLow_le_iff (delays : List Nat) (bound : Nat) :
    startMarkLow delays ≤ bound + 24000 ↔ ∀ delay ∈ delays, delay ≤ bound := by
  induction delays with
  | nil => simp [startMarkLow, startLow]
  | cons d ds ih => simp [startMarkLow_cons, ih]

/-- The low ends with the release of some contender, the earliest included. -/
theorem startMarkLow_attained (delays : List Nat) : ∃ delay ∈ 0 :: delays, startMarkLow delays = delay + 24000 := by
  induction delays with
  | nil => exact ⟨0, by simp, rfl⟩
  | cons d ds ih =>
    obtain ⟨delay, hmem, hlow⟩ := ih
    rw [startMarkLow_cons, hlow]
    rcases Nat.le_total delay d with h | h
    · exact ⟨d, by simp, by omega⟩
    · exact ⟨delay, List.mem_cons.mpr ((List.mem_cons.mp hmem).imp_right (List.mem_cons_of_mem d)), by omega⟩

/-- Every start mark lasts to the latest release (R125). -/
theorem startMark_released {delay : Nat} {delays : List Nat} (h : delay ∈ 0 :: delays) : delay + 24000 ≤ startMarkLow delays := by
  obtain ⟨latest, -, hlow⟩ := startMarkLow_attained delays
  rcases List.mem_cons.mp h with rfl | hmem
  · omega
  · have := (startMarkLow_le_iff delays latest).mp hlow.le delay hmem
    omega

/-! ### The edges (R125) -/

/-- The edge window by its ends (Table 7-1). -/
theorem inEdgeWindow_iff (first : Bool) (ns : Nat) :
    inEdgeWindow first ns = true ↔ (if first then 30000 else 7000) ≤ ns ∧ ns ≤ (if first then 34000 else 9000) := by
  cases first <;> simp [inEdgeWindow]

/-- A contender that sees an edge before the window drives no cell. -/
theorem cellEdge_early {first : Bool} {fall : Nat} (h : fall < if first then 30000 else 7000) : cellEdge first (some fall) = none := by
  have hdue : fall < edgeDue first := h.trans (by cases first <;> decide)
  simp [cellEdge, inEdgeWindow_iff, not_le.mpr h, not_le.mpr hdue]

end Sys2Proof.Machine

open Sys2Proof Sys2Proof.Machine

/-- Settles O54: a 1 of the precedence field is lost, every other mismatch is met as an overlap, and a pulse error is one of them. -/
theorem contentionAndOverlap : Obligations.ContentionAndOverlap := by
  intro s q hq cells putBack
  have hlength : 31 ≤ cells.length := by
    have hcells : cells.length = _ := wireCells_length _
    omega
  refine ⟨fun cell hlow hhigh => ⟨fun hone => ?_, fun hzero => ?_⟩, fun m hm => ?_, fun p hp => ?_⟩
  · have hloses : losesAt cells cell = true := (losesAt_iff cells cell).mpr ⟨hlow, hhigh, hone⟩
    rw [State.exec_contentionLoss hq, if_pos hloses]
    rfl
  · have hkeeps : ¬losesAt cells cell = true := fun h => by
      obtain ⟨-, -, hone⟩ := (losesAt_iff cells cell).mp h
      exact Bool.false_ne_true (hzero.symm.trans hone)
    rw [State.exec_contentionLoss hq, if_neg hkeeps]
  · have hoverlap : isOverlap cells m = true := by
      rcases hm with ⟨n, rfl, ⟨hlow, hhigh⟩ | ⟨hlow, hhigh, hzero⟩⟩ | ⟨p, rfl, hp⟩
      · exact (isOverlap_cell_iff cells n).mpr ⟨by omega, hhigh, .inl hlow⟩
      · exact (isOverlap_cell_iff cells n).mpr ⟨hlow, by omega, .inr hzero⟩
      · exact hp
    rw [State.exec_overlap hq hoverlap]
    refine ⟨fun hfew => ?_, fun hthird => ?_⟩
    · simp only [State.meetOverlap, if_neg (Nat.not_le.mpr hfew)]
      rfl
    · simp only [State.meetOverlap, if_pos hthird]
      rfl
  · rw [State.exec_pulseError_own hq hp, State.exec_overlap hq (m := .pulse p) hp]

/-- Settles O55: the start mark by its latest release, the edges by their window, and the loss by the seven-bit number that the
precedence field is (`lostCell_fieldBits`). -/
theorem precedenceDecides : Obligations.PrecedenceDecides := by
  refine ⟨fun delay delays h => startMark_released h, startMarkLow_attained, fun delays => ?_, fun first => ?_, fun bit => ?_,
    fun delay n p => ?_, fun first t bit cells fall falls => ?_, fun n p => wireCells_take _, fun c c' n n' => ⟨?_, fun k hk => ?_⟩⟩
  · have hlow := startMark_released (List.mem_cons_self (a := 0) (l := delays))
    rw [startLow_accepted, ← startMarkLow_le_iff delays 4000]
    omega
  · have hdue : edgeDue first = if first then 32000 else 8000 := rfl
    refine ⟨rfl, fun fall hopens hbefore => ?_, fun fall hafter => if_pos hafter, fun fall hearly => cellEdge_early hearly,
      fun fall ns hedge => ?_⟩
    · have hwindow := (inEdgeWindow_iff first fall).mpr ⟨hopens, hbefore.le.trans (by cases first <;> decide)⟩
      rw [cellEdge_some first fall hwindow, hdue, Nat.min_eq_left hbefore.le]
    · obtain ⟨hwindow, -⟩ := cellEdge_accepted first fall ns hedge
      cases first <;> simpa [pulseIsError] using hwindow
  · cases bit <;> exact ⟨rfl, rfl⟩
  · exact ⟨drivenLows_alone delay _, by rw [wireCells_length]; simp only [frameMicros, wireOf]; omega⟩
  · rfl
  · rw [precedenceCells_eq, precedenceCells_eq, lostCell_fieldBits, precedence_toNat, precedence_toNat, ← BitVec.toNat_inj]
    omega
  · obtain ⟨hpos, hle, hsent⟩ := lostCell_sends hk
    exact (losesAt_iff _ k).mpr ⟨hpos, hle.trans_eq (by simp [precedenceCells]), hsent⟩

end

section
/-! SUPPORT. The form of the transmit queue (R142): each entry by itself, each pair of entries apart, and what the operations on a list
of entries keep of it. -/

namespace Sys2Proof.Machine

/-! ### Entries and pairs of entries -/

/-- What no change of an entry in place moves: its kind, its subject and its queued-at instant (R142, R144, R145). -/
def QEntry.place (e : QEntry) : FrameKind × Nat × Nat := (payloadKind e.payload, payloadSubject e.payload, e.stamp)

theorem QEntry.place_ext {e e' : QEntry} (hk : payloadKind e'.payload = payloadKind e.payload)
    (hs : payloadSubject e'.payload = payloadSubject e.payload) (hn : e'.stamp = e.stamp) : e'.place = e.place := by
  rw [place, place, hk, hs, hn]

/-- An entry by itself: as `EntryOk` says, and its successor has an instant of its own (R131, R144). -/
def QEntry.Sound (stamp : Nat) (e : QEntry) : Prop := EntryOk stamp e ∧ ∀ c n, e.successor = some (c, n) → e.stamp ≠ n

/-- Later instants are still to come. -/
theorem QEntry.Sound.mono {stamp new : Nat} {e : QEntry} (h : e.Sound stamp) (hle : stamp ≤ new) : e.Sound new := by
  obtain ⟨⟨hoverlaps, hstamp, hsuccessor⟩, hown⟩ := h
  refine ⟨⟨hoverlaps, hstamp.trans_le hle, fun c n hc => ?_⟩, hown⟩
  obtain ⟨hwire, hstatus, hn⟩ := hsuccessor c n hc
  exact ⟨hwire, hstatus, hn.trans_le hle⟩

/-- Two entries of one queue (R142 to R144): instants of their own, not two DEMANDs, not two STATUSes of a group, not two on the
wire. -/
structure QEntry.Apart (a b : QEntry) : Prop where
  stamps : a.stamp ≠ b.stamp
  demands : payloadKind a.payload = .demand → payloadKind b.payload ≠ .demand
  statuses : ∀ g, a.isFor .status g = true → b.isFor .status g = false
  wire : a.onWire = true → b.onWire = false
  successor : ∀ c n, a.successor = some (c, n) → b.stamp ≠ n
  successor' : ∀ c n, b.successor = some (c, n) → a.stamp ≠ n

theorem QEntry.Apart.symm {a b : QEntry} (h : a.Apart b) : b.Apart a where
  stamps := h.stamps.symm
  demands hb ha := h.demands ha hb
  statuses g hb := Bool.eq_false_iff.mpr fun ha => by simp [h.statuses g ha] at hb
  wire hb := Bool.eq_false_iff.mpr fun ha => by simp [h.wire ha] at hb
  successor := h.successor'
  successor' := h.successor

/-- Two different entries of a list whose pairs stand apart. -/
theorem QEntry.Apart.of_pairwise {q : List QEntry} (h : q.Pairwise QEntry.Apart) {a b : QEntry} (ha : a ∈ q) (hb : b ∈ q)
    (hne : a ≠ b) : a.Apart b :=
  have : Std.Symm QEntry.Apart := ⟨fun _ _ hab => hab.symm⟩
  h.forall ha hb hne

/-- The form of a queue of entries: its length, its order, its pairs and its entries (R142). -/
structure QueueForm (stamp : Nat) (q : List QEntry) : Prop where
  room : q.length ≤ 8
  order : q.Pairwise (fun a b => a.before b = true)
  apart : q.Pairwise QEntry.Apart
  entries : ∀ e ∈ q, e.Sound stamp

/-- At most one element meets a condition exactly where no two do. -/
theorem filter_length_le_one_iff {α : Type} (p : α → Bool) (l : List α) :
    (l.filter p).length ≤ 1 ↔ l.Pairwise (fun a b => p a = true → p b = false) := by
  have hfalse (m : List α) : m.Pairwise (fun _ _ => False) ↔ m.length ≤ 1 := by
    match m with
    | [] => simp
    | [x] => simp
    | x :: y :: rest => exact ⟨fun h => ((List.pairwise_cons.mp h).1 y List.mem_cons_self).elim, fun h => by simp at h⟩
  rw [← hfalse, List.pairwise_filter]
  simp

/-- `QueueOk` is the form of the queue, and what ties it to the line and to the station state. -/
theorem queueOk_iff (s : State) :
    QueueOk s ↔ QueueForm s.stamp s.txq ∧ (s.ownOnWire = true → s.line.state = .frame) ∧ (s.transmits = false → s.txq = []) := by
  constructor
  · rintro ⟨hroom, horder, hstamps, hsuccessor, hwire, hline, hdemand, hstatus, hentries, hquiet⟩
    refine ⟨⟨hroom, horder, List.pairwise_iff_getElem.mpr fun i j hi hj hij => ?_, fun e he => ⟨hentries e he, fun c n hc =>
      hsuccessor e he c n hc e he⟩⟩, hline, hquiet⟩
    have hpair (p : QEntry → Bool) (hp : (s.txq.filter p).length ≤ 1) : p s.txq[i] = true → p s.txq[j] = false :=
      List.pairwise_iff_getElem.mp ((filter_length_le_one_iff p _).mp hp) i j hi hj hij
    have hne := List.pairwise_iff_getElem.mp (List.pairwise_map.mp hstamps) i j hi hj hij
    exact {
      stamps := hne
      demands := by simpa using hpair _ hdemand
      statuses := fun g => hpair _ (hstatus g)
      wire := hpair _ hwire
      successor := fun c n hc => hsuccessor _ (List.getElem_mem hi) c n hc _ (List.getElem_mem hj)
      successor' := fun c n hc => hsuccessor _ (List.getElem_mem hj) c n hc _ (List.getElem_mem hi) }
  · rintro ⟨⟨hroom, horder, hapart, hentries⟩, hline, hquiet⟩
    refine ⟨hroom, horder, List.pairwise_map.mpr (hapart.imp fun h => h.stamps), fun e he c n hc x hx => ?_,
      (filter_length_le_one_iff _ _).mpr (hapart.imp fun h => h.wire), hline,
      (filter_length_le_one_iff _ _).mpr (hapart.imp fun h => by simpa using h.demands),
      fun g => (filter_length_le_one_iff _ _).mpr (hapart.imp fun h => h.statuses g), fun e he => (hentries e he).1, hquiet⟩
    by_cases hex : e = x
    · exact hex ▸ (hentries e he).2 c n hc
    · exact (QEntry.Apart.of_pairwise hapart he hx hex).successor c n hc

/-! ### The order (R142) -/

theorem QEntry.before_iff (a b : QEntry) :
    a.before b = true ↔ payloadClass a.payload < payloadClass b.payload
      ∨ (payloadClass a.payload = payloadClass b.payload ∧ a.stamp < b.stamp) := by
  simp [QEntry.before]

theorem QEntry.before_trans {a b c : QEntry} (h : a.before b = true) (h' : b.before c = true) : a.before c = true := by
  rw [QEntry.before_iff] at *
  omega

/-- Of two entries with instants of their own one is before the other. -/
theorem QEntry.before_total {a b : QEntry} (hne : a.stamp ≠ b.stamp) (h : ¬a.before b = true) : b.before a = true := by
  rw [QEntry.before_iff] at *
  omega

/-- The order looks at places alone. -/
theorem QEntry.before_of_place {a a' b b' : QEntry} (ha : a'.place = a.place) (hb : b'.place = b.place) : a'.before b' = a.before b := by
  simp only [QEntry.place, Prod.mk.injEq] at ha hb
  obtain ⟨hak, -, has⟩ := ha
  obtain ⟨hbk, -, hbs⟩ := hb
  rw [QEntry.before, QEntry.before, payloadClass, payloadClass, payloadClass, payloadClass, hak, has, hbk, hbs]

theorem QEntry.isFor_of_place {e e' : QEntry} (h : e'.place = e.place) (k : FrameKind) (g : Nat) : e'.isFor k g = e.isFor k g := by
  simp only [QEntry.place, Prod.mk.injEq] at h
  simp only [QEntry.isFor, h]

theorem QEntry.isFor_iff (e : QEntry) (k : FrameKind) (g : Nat) :
    e.isFor k g = true ↔ payloadKind e.payload = k ∧ payloadSubject e.payload = g := by
  simp [QEntry.isFor]

theorem insertEntry_perm (e : QEntry) (q : List QEntry) : (insertEntry e q).Perm (e :: q) := by
  obtain ⟨front, back, rfl, hinsert, -⟩ := insertEntry_split e q
  exact hinsert ▸ List.perm_middle

theorem insertEntry_order (e : QEntry) (q : List QEntry) (hne : ∀ x ∈ q, e.stamp ≠ x.stamp)
    (hq : q.Pairwise (fun a b => a.before b = true)) : (insertEntry e q).Pairwise (fun a b => a.before b = true) := by
  induction q with
  | nil => simp [insertEntry]
  | cons y ys ih =>
    obtain ⟨hy, hys⟩ := List.pairwise_cons.mp hq
    unfold insertEntry
    split
    · next hbefore =>
      refine List.pairwise_cons.mpr ⟨fun x hx => ?_, hq⟩
      rcases List.mem_cons.mp hx with rfl | hx
      · exact hbefore
      · exact QEntry.before_trans hbefore (hy x hx)
    · next hbefore =>
      refine List.pairwise_cons.mpr ⟨fun x hx => ?_, ih (fun x hx => hne x (List.mem_cons_of_mem _ hx)) hys⟩
      rcases (insertEntry_mem _ _ _).mp hx with rfl | hx
      · exact QEntry.before_total (hne y List.mem_cons_self) hbefore
      · exact hy x hx

/-! ### Operations on a queue -/

/-- An entry changed in place: kind, subject and instant stay, it does not go onto the wire, and a new successor comes with a new
instant. -/
structure QEntry.InPlace (old new : Nat) (e e' : QEntry) : Prop where
  place : e'.place = e.place
  sound : e'.Sound new
  wire : e'.onWire = true → e.onWire = true
  successor : ∀ c n, e'.successor = some (c, n) → old ≤ n ∨ ∃ c', e.successor = some (c', n)

theorem QEntry.Apart.inPlace {a b a' b' : QEntry} {old new : Nat} (h : a.Apart b) (ha : QEntry.InPlace old new a a')
    (hb : QEntry.InPlace old new b b') (hao : a.stamp < old) (hbo : b.stamp < old) : a'.Apart b' := by
  obtain ⟨hak, -, has⟩ : payloadKind a'.payload = payloadKind a.payload ∧ payloadSubject a'.payload = payloadSubject a.payload
      ∧ a'.stamp = a.stamp := by simpa [QEntry.place] using ha.place
  obtain ⟨hbk, -, hbs⟩ : payloadKind b'.payload = payloadKind b.payload ∧ payloadSubject b'.payload = payloadSubject b.payload
      ∧ b'.stamp = b.stamp := by simpa [QEntry.place] using hb.place
  refine ⟨by rw [has, hbs]; exact h.stamps, by rw [hak, hbk]; exact h.demands, fun g => ?_, fun hwire => ?_, fun c n hc => ?_,
    fun c n hc => ?_⟩
  · rw [QEntry.isFor_of_place ha.place, QEntry.isFor_of_place hb.place]
    exact h.statuses g
  · exact Bool.eq_false_iff.mpr fun hw => by simpa [hb.wire hw] using h.wire (ha.wire hwire)
  · rw [hbs]
    rcases ha.successor c n hc with hn | ⟨c', hc'⟩
    · omega
    · exact h.successor c' n hc'
  · rw [has]
    rcases hb.successor c n hc with hn | ⟨c', hc'⟩
    · omega
    · exact h.successor' c' n hc'

namespace QueueForm

variable {stamp : Nat} {q : List QEntry}

/-- Entries leave the queue. -/
theorem sublist (h : QueueForm stamp q) {q' : List QEntry} (hq : q'.Sublist q) : QueueForm stamp q' :=
  ⟨hq.length_le.trans h.room, h.order.sublist hq, h.apart.sublist hq, fun e he => h.entries e (hq.subset he)⟩

theorem nil (stamp : Nat) : QueueForm stamp [] := ⟨by simp, .nil, .nil, by simp⟩

theorem stamp_lt (h : QueueForm stamp q) {e : QEntry} (he : e ∈ q) : e.stamp < stamp := (h.entries e he).1.2.1

/-- Two entries of a queue that differ. -/
theorem pair (h : QueueForm stamp q) {a b : QEntry} (ha : a ∈ q) (hb : b ∈ q) (hne : a ≠ b) : a.Apart b :=
  QEntry.Apart.of_pairwise h.apart ha hb hne

/-- Entries are changed in place. -/
theorem map (h : QueueForm stamp q) {new : Nat} {f : QEntry → QEntry} (hf : ∀ e ∈ q, QEntry.InPlace stamp new e (f e)) :
    QueueForm new (q.map f) := by
  refine ⟨by simpa using h.room, List.pairwise_map.mpr (h.order.imp_of_mem fun ha hb hab => ?_),
    List.pairwise_map.mpr (h.apart.imp_of_mem fun ha hb hab => ?_), fun e he => ?_⟩
  · exact (QEntry.before_of_place (hf _ ha).place (hf _ hb).place).trans hab
  · exact hab.inPlace (hf _ ha) (hf _ hb) (h.stamp_lt ha) (h.stamp_lt hb)
  · obtain ⟨x, hx, rfl⟩ := List.mem_map.mp he
    exact (hf x hx).sound

/-- An entry finds its place in a queue with room (R142, R143). -/
theorem insert (h : QueueForm stamp q) {e : QEntry} (hroom : q.length < 8) (he : e.Sound stamp) (hapart : ∀ x ∈ q, e.Apart x) :
    QueueForm stamp (insertEntry e q) where
  room := by
    rw [insertEntry_length]
    omega
  order := insertEntry_order e q (fun x hx => (hapart x hx).stamps) h.order
  apart := ((insertEntry_perm e q).pairwise_iff QEntry.Apart.symm).mpr (List.pairwise_cons.mpr ⟨hapart, h.apart⟩)
  entries x hx := by
    rcases (insertEntry_mem _ _ _).mp hx with rfl | hx
    · exact he
    · exact h.entries x hx

theorem mono (h : QueueForm stamp q) {new : Nat} (hle : stamp ≤ new) : QueueForm new q :=
  ⟨h.room, h.order, h.apart, fun e he => (h.entries e he).mono hle⟩

/-- The head goes onto the wire where no frame is on it (R124). -/
theorem markHead (h : QueueForm stamp q) (hw : ∀ x ∈ q, x.onWire = false) : QueueForm stamp (markHead q) := by
  cases q with
  | nil => exact h
  | cons e es =>
    obtain ⟨he, hes⟩ := List.forall_mem_cons.mp hw
    obtain ⟨horder, hrest⟩ := List.pairwise_cons.mp h.order
    obtain ⟨hapart, hrestApart⟩ := List.pairwise_cons.mp h.apart
    obtain ⟨⟨⟨hoverlaps, hstamp, hsuccessor⟩, hown⟩, hentries⟩ := List.forall_mem_cons.mp h.entries
    simp only [Machine.markHead, he, Bool.false_eq_true, if_false]
    refine ⟨h.room, List.pairwise_cons.mpr ⟨horder, hrest⟩, List.pairwise_cons.mpr ⟨fun x hx => ?_, hrestApart⟩,
      List.forall_mem_cons.mpr ⟨⟨⟨hoverlaps, hstamp, fun c n hc => ?_⟩, hown⟩, hentries⟩⟩
    · obtain ⟨hstamps, hdemands, hstatuses, -, hnext, hnext'⟩ := hapart x hx
      exact ⟨hstamps, hdemands, hstatuses, fun _ => hes x hx, hnext, hnext'⟩
    · exact ⟨rfl, (hsuccessor c n hc).2⟩

end QueueForm
end Sys2Proof.Machine
end

section
/-! SUPPORT. `QueueOk` under the operations on the transmit queue and on the line (R123, R124, R129, R142 to R145). -/

namespace Sys2Proof.Machine

/-! ### Coalescing (R143, R144) -/

/-- A DEMAND stands for no group: its subject is 0 (Table 8-1). -/
theorem QEntry.isFor_demand (e : QEntry) : e.isFor .demand 0 = (payloadKind e.payload == .demand) := by
  unfold isFor
  cases e.payload with
  | demand items => rfl
  | _ => simp [payloadKind]

/-- A DEMAND coalesces with a waiting DEMAND. -/
theorem coalesces_demand (items : List DemandItem) (e : QEntry) :
    coalesces (.demand items) e = (!e.onWire && payloadKind e.payload == .demand) := by
  unfold coalesces
  cases e.payload with
  | demand items => simp [payloadKind]
  | _ => simp [payloadKind]

/-- No other frame coalesces. -/
theorem coalesces_other (p : Payload) (e : QEntry) (hd : payloadKind p ≠ .demand) (hs : payloadKind p ≠ .status) :
    coalesces p e = false := by
  cases p with
  | demand items => exact absurd rfl hd
  | status c => exact absurd rfl hs
  | takeover g ep => rfl
  | handback g ep => rfl
  | yield g ep a l => rfl
  | alert k i v => rfl

/-- A frame that coalesces with an entry has its kind and its subject. -/
theorem coalesces_place {p : Payload} {e : QEntry} (h : coalesces p e = true) :
    payloadKind p = payloadKind e.payload ∧ payloadSubject p = payloadSubject e.payload := by
  by_cases hd : payloadKind p = .demand
  · obtain ⟨items, rfl⟩ : ∃ items, p = .demand items := by
      cases p <;> simp [payloadKind] at hd ⊢
    rw [coalesces_demand, ← QEntry.isFor_demand, Bool.and_eq_true, QEntry.isFor_iff] at h
    obtain ⟨-, hkind, hsubject⟩ := h
    exact ⟨hkind.symm, hsubject.symm⟩
  · by_cases hs : payloadKind p = .status
    · obtain ⟨c, rfl⟩ : ∃ c, p = .status c := by
        cases p <;> simp [payloadKind] at hs ⊢
      rw [coalesces_status, QEntry.isFor_iff] at h
      exact ⟨h.1.symm, h.2.symm⟩
    · simp [coalesces_other p e hd hs] at h

/-! ### Eviction (R146) -/

/-- Of the candidates for eviction none comes after the one that is chosen. -/
theorem foldl_worse_last (es : List QEntry) (e : QEntry) : ∀ x ∈ e :: es, ¬(es.foldl worse e).before x = true := by
  induction es generalizing e with
  | nil =>
    rw [List.forall_mem_singleton, QEntry.before_iff]
    simp
  | cons y ys ih =>
    obtain ⟨hchosen, hrest⟩ := List.forall_mem_cons.mp (ih (worse e y))
    rw [List.foldl_cons]
    generalize ys.foldl worse (worse e y) = m at hchosen hrest
    obtain ⟨he, hy⟩ : ¬m.before e = true ∧ ¬m.before y = true := by
      by_cases hey : e.before y = true
      · rw [worse, if_pos hey] at hchosen
        exact ⟨fun hme => hchosen (QEntry.before_trans hme hey), hchosen⟩
      · rw [worse, if_neg hey] at hchosen
        refine ⟨hchosen, ?_⟩
        rw [QEntry.before_iff] at *
        omega
    exact List.forall_mem_cons.mpr ⟨he, List.forall_mem_cons.mpr ⟨hy, hrest⟩⟩

/-- The entry that an overflowing frame evicts waits, has a class above the frame's, and none such comes after it. -/
theorem victim_spec {p : Payload} {q : List QEntry} {v : QEntry} (h : victim p q = some v) :
    (v ∈ q ∧ v.onWire = false ∧ payloadClass p < payloadClass v.payload)
      ∧ ∀ x ∈ q, x.onWire = false → payloadClass p < payloadClass x.payload → ¬v.before x = true := by
  have hcandidate (x : QEntry) : x ∈ q.filter (fun e => !e.onWire && decide (payloadClass p < payloadClass e.payload))
      ↔ x ∈ q ∧ x.onWire = false ∧ payloadClass p < payloadClass x.payload := by simp
  unfold victim at h
  split at h
  · exact nomatch h
  · next e es hcandidates =>
    obtain rfl := Option.some.inj h
    have hmem := foldl_worse_mem e es
    have hlast := foldl_worse_last es e
    rw [← hcandidates] at hmem hlast
    exact ⟨(hcandidate _).mp hmem, fun x hx hw hp => hlast x ((hcandidate x).mpr ⟨hx, hw, hp⟩)⟩

/-! ### Entries that are new, and entries changed in place -/

/-- The entry that an offered frame makes (R143). -/
def QEntry.fresh (p : Payload) (stamp : Nat) : QEntry := ⟨p, stamp, 0, false, none⟩

theorem QEntry.fresh_sound (p : Payload) (stamp : Nat) : (QEntry.fresh p stamp).Sound (stamp + 1) :=
  ⟨⟨by simp [fresh], by simp [fresh], fun c n hc => nomatch hc⟩, fun c n hc => nomatch hc⟩

/-- A new entry stands apart from one that its frame does not coalesce with, unless that is a DEMAND on the wire. -/
theorem QEntry.fresh_apart {p : Payload} {stamp : Nat} {x : QEntry} (hx : x.Sound stamp) (hc : coalesces p x = false)
    (hd : payloadKind p = .demand → x.onWire = true → payloadKind x.payload ≠ .demand) : (QEntry.fresh p stamp).Apart x := by
  obtain ⟨⟨-, hstamp, hsuccessor⟩, -⟩ := hx
  refine ⟨hstamp.ne', fun hp hk => ?_, fun g hg => ?_, fun hw => (nomatch hw), fun c n hn => (nomatch hn), fun c n hn => ?_⟩
  · cases p with
    | demand items =>
      rw [coalesces_demand] at hc
      cases hw : x.onWire with
      | true => exact hd rfl hw hk
      | false => simp [hw, hk] at hc
    | _ => exact nomatch hp
  · cases p with
    | status c =>
      rw [coalesces_status] at hc
      obtain ⟨-, rfl⟩ := (QEntry.isFor_iff _ _ _).mp hg
      exact hc
    | _ => simp [QEntry.isFor, QEntry.fresh, payloadKind] at hg
  · exact (hsuccessor c n hn).2.2.ne'

namespace QEntry.InPlace

variable {stamp : Nat} {e : QEntry}

theorem refl {new : Nat} (he : e.Sound stamp) (hle : stamp ≤ new) : InPlace stamp new e e :=
  ⟨rfl, he.mono hle, id, fun c _ hc => .inr ⟨c, hc⟩⟩

/-- A waiting entry gets a payload of its own kind and subject. -/
theorem payload {new : Nat} (he : e.Sound stamp) (hle : stamp ≤ new) (hw : e.onWire = false) (p : Payload)
    (hk : payloadKind p = payloadKind e.payload) (hs : payloadSubject p = payloadSubject e.payload) :
    InPlace stamp new e { e with payload := p } := by
  obtain ⟨⟨hoverlaps, hstamp, hsuccessor⟩, hown⟩ := he
  have hnone (c : StatusContent) (n : Nat) (hc : e.successor = some (c, n)) : False := by simpa [hw] using (hsuccessor c n hc).1
  exact ⟨place_ext hk hs rfl, ⟨⟨hoverlaps, hstamp.trans_le hle, fun c n hc => (hnone c n hc).elim⟩, hown⟩, id,
    fun c n hc => (hnone c n hc).elim⟩

/-- A frame coalesces with an entry, or leaves it as it is (R144). -/
theorem coalesce (he : e.Sound stamp) (p : Payload) : InPlace stamp (stamp + 1) e (coalesce p stamp e) := by
  unfold Machine.coalesce
  split
  · next hc =>
    split
    · next hw =>
      split
      · next c =>
        rw [coalesces_status] at hc
        obtain ⟨⟨hoverlaps, hstamp, hsuccessor⟩, hown⟩ := he
        cases hs : e.successor with
        | none =>
          refine ⟨rfl, ⟨⟨hoverlaps, Nat.lt_succ_of_lt hstamp, fun d n hn => ?_⟩, fun d n hn => ?_⟩, id, fun d n hn => .inl ?_⟩
          all_goals
            obtain ⟨rfl, rfl⟩ : c = d ∧ stamp = n := by simpa using hn
          · exact ⟨hw, hc, by omega⟩
          · exact hstamp.ne
          · exact le_rfl
        | some held =>
          obtain ⟨-, -, hlt⟩ := hsuccessor held.1 held.2 hs
          refine ⟨rfl, ⟨⟨hoverlaps, Nat.lt_succ_of_lt hstamp, fun d n hn => ?_⟩, fun d n hn => ?_⟩, id, fun d n hn => .inr ⟨held.1, ?_⟩⟩
          all_goals
            obtain ⟨rfl, rfl⟩ : c = d ∧ held.2 = n := by simpa using hn
          · exact ⟨hw, hc, by omega⟩
          · exact hown held.1 held.2 hs
          · exact hs
      · exact refl he (Nat.le_succ _)
    · next hw =>
      obtain ⟨hk, hs⟩ := coalesces_place hc
      exact payload he (Nat.le_succ _) (Bool.eq_false_iff.mpr hw) p hk hs
  · exact refl he (Nat.le_succ _)

/-- A frame goes back from the wire to its place (R129, R144). -/
theorem putBack (he : e.Sound stamp) (overlaps : Nat → Nat) (ho : e.onWire = true → overlaps e.overlaps ≤ 2) :
    InPlace stamp stamp e (e.putBack overlaps) := by
  unfold QEntry.putBack
  split
  · next hw =>
    obtain ⟨⟨-, hstamp, hsuccessor⟩, -⟩ := he
    refine ⟨?_, ⟨⟨ho hw, hstamp, fun c n hc => (nomatch hc)⟩, fun c n hc => (nomatch hc)⟩, fun h => (nomatch h),
      fun c n hc => (nomatch hc)⟩
    cases hs : e.successor with
    | none => rfl
    | some next =>
      obtain ⟨-, hstatus, -⟩ := hsuccessor next.1 next.2 hs
      obtain ⟨hkind, hgroup⟩ := (isFor_iff _ _ _).mp hstatus
      exact place_ext hkind.symm hgroup.symm rfl
  · exact refl he le_rfl

/-- A waiting TAKEOVER is rebuilt (R145). -/
theorem rebuild (he : e.Sound stamp) (g : Nat) (epoch : Epoch) :
    InPlace stamp stamp e (if !e.onWire && e.isFor .takeover g then { e with payload := .takeover g epoch } else e) := by
  split
  · next h =>
    simp only [Bool.and_eq_true, Bool.not_eq_true', isFor_iff] at h
    obtain ⟨hw, hkind, hgroup⟩ := h
    exact payload he le_rfl hw _ hkind.symm hgroup.symm
  · exact refl he le_rfl

end QEntry.InPlace

/-! ### What the invariant sees -/

/-- From one state to another nothing changes that `QueueOk` sees: the queue, the instants, the line state and the station state. -/
structure State.QueueKept (s t : State) : Prop where
  txq : t.txq = s.txq
  stamp : t.stamp = s.stamp
  line : t.line.state = s.line.state
  state : t.ctl.state = s.ctl.state

/-- No frame of the station is on the wire. -/
theorem State.ownOnWire_eq_false_iff (s : State) : s.ownOnWire = false ↔ ∀ x ∈ s.txq, x.onWire = false := by
  simp [State.ownOnWire]

namespace QueueOk

variable {s t : State}

theorem form (h : QueueOk s) : QueueForm s.stamp s.txq := ((queueOk_iff s).mp h).1

theorem quiet (h : QueueOk s) (ht : s.transmits = false) : s.txq = [] := ((queueOk_iff s).mp h).2.2 ht

/-- On a line that is not in FRAME no frame of the station is on the wire. -/
theorem waiting (h : QueueOk s) (hl : s.line.state ≠ .frame) : ∀ x ∈ s.txq, x.onWire = false :=
  s.ownOnWire_eq_false_iff.mp (Bool.eq_false_iff.mpr fun hw => hl (((queueOk_iff s).mp h).2.1 hw))

/-- The invariant sees nothing else. (What a change leaves is found by the lemmas about its operations, `simp`'s.) -/
theorem same (h : QueueOk s) (hk : s.QueueKept t := by constructor <;> simp) : QueueOk t := by
  obtain ⟨hform, hline, hquiet⟩ := (queueOk_iff s).mp h
  have hown : t.ownOnWire = s.ownOnWire := by simp [State.ownOnWire, hk.txq]
  have htransmits : t.transmits = s.transmits := by simp [State.transmits, hk.state]
  exact (queueOk_iff t).mpr ⟨by rwa [hk.stamp, hk.txq], fun hw => hk.line.trans (hline (hown ▸ hw)),
    fun ht => hk.txq.trans (hquiet (htransmits ▸ ht))⟩

theorem of_empty (h : s.txq = []) : QueueOk s :=
  (queueOk_iff s).mpr ⟨h ▸ .nil _, fun hw => by simp [State.ownOnWire, h] at hw, fun _ => h⟩

/-- A station with its queue goes on in JOINING or RUNNING. -/
theorem transmitting (h : QueueOk s) (htxq : t.txq = s.txq) (hstamp : t.stamp = s.stamp) (hline : t.line.state = s.line.state)
    (ht : t.transmits = true) : QueueOk t := by
  obtain ⟨hform, hwire, -⟩ := (queueOk_iff s).mp h
  have hown : t.ownOnWire = s.ownOnWire := by simp [State.ownOnWire, htxq]
  exact (queueOk_iff t).mpr ⟨by rwa [hstamp, htxq], fun hw => hline.trans (hwire (hown ▸ hw)), fun hoff => by simp [ht] at hoff⟩

/-- The queue is another one of the right form, with none on the wire that was not. -/
theorem requeue (h : QueueOk s) {q : List QEntry} {stamp : Nat} (hform : QueueForm stamp q)
    (hwire : ∀ x ∈ q, x.onWire = true → ∃ y ∈ s.txq, y.onWire = true) (hempty : s.txq = [] → q = []) :
    QueueOk { s with txq := q, stamp := stamp } := by
  obtain ⟨-, hline, hquiet⟩ := (queueOk_iff s).mp h
  refine (queueOk_iff _).mpr ⟨hform, fun hw => hline ?_, fun ht => hempty (hquiet ht)⟩
  obtain ⟨x, hx, hxw⟩ := List.any_eq_true.mp hw
  exact List.any_eq_true.mpr (hwire x hx hxw)

/-- Entries leave the queue. -/
theorem sublist (h : QueueOk s) {q : List QEntry} (hq : q.Sublist s.txq) : QueueOk { s with txq := q } :=
  h.requeue (h.form.sublist hq) (fun x hx hw => ⟨x, hq.subset hx, hw⟩) fun he => List.sublist_nil.mp (he ▸ hq)

/-- Entries are changed in place. -/
theorem map (h : QueueOk s) {stamp : Nat} {f : QEntry → QEntry} (hf : ∀ e, e.Sound s.stamp → QEntry.InPlace s.stamp stamp e (f e)) :
    QueueOk { s with txq := s.txq.map f, stamp := stamp } := by
  refine h.requeue (h.form.map fun e he => hf e (h.form.entries e he)) (fun x hx hw => ?_) fun he => by simp [he]
  obtain ⟨y, hy, rfl⟩ := List.mem_map.mp hx
  exact ⟨y, hy, (hf y (h.form.entries y hy)).wire hw⟩

/-- The line takes a state while no frame of the station is on the wire, or is in FRAME. -/
theorem reline (h : QueueOk s) (l : Line) (hl : s.ownOnWire = false ∨ l.state = .frame) : QueueOk { s with line := l } := by
  obtain ⟨hform, -, hquiet⟩ := (queueOk_iff s).mp h
  refine (queueOk_iff _).mpr ⟨hform, fun hw => ?_, hquiet⟩
  rcases hl with hl | hl
  · exact absurd hw (Bool.eq_false_iff.mp hl)
  · exact hl

/-! ### Offers -/

/-- The head frame starts on an IDLE line (R124). -/
theorem startHead (h : QueueOk s) : QueueOk s.startHead := by
  unfold State.startHead
  split
  · next hidle =>
    simp only [Bool.and_eq_true, beq_iff_eq] at hidle
    obtain ⟨⟨hline, -⟩, -⟩ := hidle
    have hwaits := h.waiting (by simp [hline])
    refine (queueOk_iff _).mpr ⟨h.form.markHead hwaits, fun _ => rfl, fun ht => ?_⟩
    rw [h.quiet ht]
    rfl
  · exact h

/-- A frame enters a queue with room (R143). -/
theorem enter (h : QueueOk s) (p : Payload) (ht : s.transmits = true) (hroom : s.txq.length < 8)
    (hc : ∀ x ∈ s.txq, coalesces p x = false)
    (hd : payloadKind p = .demand → ∀ x ∈ s.txq, x.onWire = true → payloadKind x.payload ≠ .demand) : QueueOk (s.enter p) := by
  have hform : QueueForm (s.stamp + 1) (insertEntry (.fresh p s.stamp) s.txq) :=
    (h.form.mono (Nat.le_succ _)).insert hroom (QEntry.fresh_sound p s.stamp) fun x hx =>
      QEntry.fresh_apart (h.form.entries x hx) (hc x hx) fun hp => hd hp x hx
  obtain ⟨-, hline, -⟩ := (queueOk_iff s).mp h
  refine startHead ((queueOk_iff _).mpr ⟨hform, fun hw => hline ?_, fun hoff => ?_⟩)
  · obtain ⟨x, hx, hxw⟩ := List.any_eq_true.mp hw
    rcases (insertEntry_mem _ _ _).mp hx with rfl | hx
    · exact nomatch hxw
    · exact List.any_eq_true.mpr ⟨x, hx, hxw⟩
  · exact nomatch ht.symm.trans hoff

/-- A frame is offered; a DEMAND only while none is on the wire (R143, R144, R146). -/
theorem offer (h : QueueOk s) (p : Payload) (hd : payloadKind p = .demand → s.demandOnWire = false) : QueueOk (s.offer p) := by
  have hwire (hp : payloadKind p = .demand) : ∀ x ∈ s.txq, x.onWire = true → payloadKind x.payload ≠ .demand := by
    intro x hx hw hk
    have hnone := List.any_eq_false.mp (hd hp) x hx
    simp [hw, QEntry.isFor_demand, hk] at hnone
  cases ht : s.transmits with
  | false => rwa [s.offer_off p ht]
  | true =>
    cases hc : s.txq.any (coalesces p) with
    | true =>
      rw [s.offer_coalesce p ht hc]
      exact h.map fun e he => .coalesce he p
    | false =>
      have hnone : ∀ x ∈ s.txq, coalesces p x = false := by simpa using hc
      by_cases hl : s.txq.length < 8
      · rw [s.offer_room p ht hc hl]
        exact h.enter p ht hl hnone hwire
      · cases hv : victim p s.txq with
        | none =>
          rw [s.offer_refused p ht hc hl hv]
          exact h.same
        | some v =>
          rw [s.offer_evicts p v ht hc hl hv]
          have hsub := List.erase_sublist (a := v) (l := s.txq)
          obtain ⟨⟨hmem, -, -⟩, -⟩ := victim_spec hv
          have hlen : (s.txq.erase v).length < 8 := by
            have := h.form.room
            have := List.length_erase_of_mem hmem
            have := List.length_pos_of_mem hmem
            omega
          have hentered : QueueOk (State.enter { s with txq := s.txq.erase v } p) :=
            (h.sublist hsub).enter p ht hlen (fun x hx => hnone x (hsub.subset hx)) fun hp x hx => hwire hp x (hsub.subset hx)
          exact hentered.same

end QueueOk
end Sys2Proof.Machine
end

section
/-! SUPPORT. `QueueOk` at the operations of the blocks: what they offer, withdraw and rebuild (R51 to R69, R97 to R101, R112 to R114, R150
to R154). -/

namespace Sys2Proof.Machine

namespace QueueOk

variable {s : State}

/-- A frame that is no DEMAND is offered. -/
theorem offerOther (h : QueueOk s) (p : Payload) (hp : payloadKind p ≠ .demand) : QueueOk (s.offer p) :=
  h.offer p fun hd => absurd hd hp

/-- A frame is withdrawn (R145). -/
theorem withdraw (h : QueueOk s) (k : FrameKind) (g : Nat) : QueueOk (s.withdraw k g) := h.sublist List.filter_sublist

/-- A waiting TAKEOVER is rebuilt (R145). -/
theorem rebuildTakeover (h : QueueOk s) (g : Nat) (e : Epoch) : QueueOk (s.rebuildTakeover g e) :=
  h.map fun _ hx => .rebuild hx g e

/-- A run over the roles. -/
theorem forRoles (h : QueueOk s) {f : State → Nat → State} (hf : ∀ (u : State) (r : Nat), QueueOk u → QueueOk (f u r)) :
    QueueOk (s.forRoles f) := State.forRoles_keeps _ f s hf h

/-- The end of an event: a STATUS of each role that is due (R45). -/
theorem finish (h : QueueOk s) : QueueOk s.finish := by
  refine h.forRoles fun u r hu => ?_
  unfold State.flushRole
  repeat' split
  · exact hu
  · exact hu.same
  · exact (hu.same).offerOther _ nofun
  · exact hu

/-! ### The Drivership Unit (R51 to R69) -/

theorem queueTakeover (h : QueueOk s) (r : Nat) : QueueOk (s.queueTakeover r) := by
  unfold State.queueTakeover
  split
  · exact h
  · exact h.offerOther _ nofun

theorem queueHandback (h : QueueOk s) (r : Nat) : QueueOk (s.queueHandback r) := by
  unfold State.queueHandback
  repeat' split
  · exact h
  · exact h
  · exact (h.same).offerOther _ nofun

theorem forceTakeover (h : QueueOk s) (r : Nat) (mark : Forcing) : QueueOk (s.forceTakeover r mark) := (h.same).queueTakeover r

theorem claimGroup (h : QueueOk s) (r : Nat) : QueueOk (s.claimGroup r) := (h.same).queueTakeover r

theorem takeConflict (h : QueueOk s) (r : Nat) (role : Role) (n : Nat) (e : Epoch) (other : RoleKind) :
    QueueOk (s.takeConflict r role n e other) := by
  have hlose (u : State) (hu : QueueOk u) : QueueOk (u.loseConflict r role n e) := by
    unfold State.loseConflict
    split
    · exact hu.same
    · exact (hu.withdraw .yield role.cfg.group).same
  have hreported : QueueOk (if conflictReported (role.ship.epoch.getD 0) role.cfg.kind e other
      then s.post .driverConflict role.cfg.group (some n) else s) := by
    split
    · exact h.same
    · exact h
  unfold State.takeConflict
  dsimp only
  split
  · exact hreported.same
  · exact hlose _ hreported

theorem hearOther (h : QueueOk s) (r : Nat) (role : Role) (n : Nat) (e : Epoch) : QueueOk (s.hearOther r role n e) := by
  unfold State.hearOther
  repeat' split
  · exact h
  · exact ((h.withdraw .takeover role.cfg.group).same).queueHandback r
  · exact h.same

theorem acceptYield (h : QueueOk s) (r : Nat) (role : Role) (e : Epoch) (level : Nat) : QueueOk (s.acceptYield r role e level) :=
  ((h.withdraw .handback role.cfg.group).withdraw .takeover role.cfg.group).same (by constructor <;> simp [State.acceptYield])

theorem answerHandback (h : QueueOk s) (role : Role) (n : Nat) (e : Epoch) : QueueOk (s.answerHandback role n e) := by
  unfold State.answerHandback
  dsimp only
  split
  · exact h.offerOther _ nofun
  · exact h

/-- A claim ends: WATCH, and the TAKEOVER withdrawn (R63, R69). -/
theorem claimEnds (h : QueueOk s) (r g : Nat) : QueueOk ((s.enterWatch r).withdraw .takeover g) := (h.same).withdraw _ _

theorem roleFrame (h : QueueOk s) (r : Nat) (role : Role) (n : Nat) (e : Epoch) (p : Payload) :
    QueueOk (s.roleFrame r role n e p) := by
  unfold State.roleFrame
  split
  case h_1 | h_2 | h_12 | h_13 | h_14 =>
    split
    · exact h.same
    · exact h
  case h_3 | h_4 | h_5 | h_6 => exact h.takeConflict ..
  case h_7 | h_8 | h_9 | h_10 => exact h.hearOther ..
  case h_11 =>
    repeat' split
    · exact h.acceptYield ..
    · exact h
    · exact h
  case h_15 | h_16 | h_17 =>
    split
    · exact h.claimEnds ..
    · exact h
  case h_18 => exact h.answerHandback ..
  case h_19 => exact h

theorem checkTakeover (h : QueueOk s) (r : Nat) : QueueOk (s.checkTakeover r) := by
  unfold State.checkTakeover
  split
  · exact h
  · split
    · split
      · split
        · exact h
        · exact h.claimEnds ..
      · split
        · exact h.rebuildTakeover ..
        · exact h
      all_goals exact h
    · exact h

theorem driveshipTakes (h : QueueOk s) (n : Nat) (p : Payload) : QueueOk (s.driveshipTakes n p) := by
  unfold State.driveshipTakes
  repeat' split
  · exact h
  · exact h
  · exact h
  · next g e _ _ r _ _ role _ => exact ((h.roleFrame r role n e p).same).checkTakeover r

theorem roleRuns (h : QueueOk s) (r : Nat) : QueueOk (s.roleRuns r) := by
  unfold State.roleRuns
  split
  · exact h
  · split
    · split
      · exact (h.same).queueHandback r
      · exact h.same
    · split
      · exact h.claimGroup r
      · exact h
    all_goals exact h

theorem roleIsolated (h : QueueOk s) (r : Nat) : QueueOk (s.roleIsolated r) := by
  unfold State.roleIsolated
  dsimp only
  repeat' split
  · exact h
  · exact (h.same).claimEnds ..
  · next role _ _ _ => exact (h.withdraw .takeover role.cfg.group).same
  · exact h.same

theorem roleRejoined (h : QueueOk s) (r : Nat) : QueueOk (s.roleRejoined r) := by
  unfold State.roleRejoined
  dsimp only
  repeat' split
  · exact h
  · exact (h.same).queueHandback r
  · exact h.same

/-! ### The Peer Unit (R150 to R154) -/

theorem isolate (h : QueueOk s) : QueueOk s.isolate := by
  have hdeclared : QueueOk (((State.post { s with peers := { s.peers with isolated := true, isolatedAt := s.now, linkTimer := .stopped } }
      .isolated 0 (some s.peers.lastSender))).setCausesAll (fun c => { c with isolated := true })) := h.same
  exact hdeclared.forRoles fun u r hu => hu.roleIsolated r

theorem linkTakes (h : QueueOk s) (n : Nat) : QueueOk (s.linkTakes n) := by
  have hrejoin : QueueOk (s.rejoin n) := by
    unfold State.rejoin
    exact (h.same).forRoles fun u r hu => hu.roleRejoined r
  unfold State.linkTakes
  repeat' split
  · exact hrejoin
  · exact h.same
  · exact h

theorem peerTakes (h : QueueOk s) (n : Nat) (p : Payload) : QueueOk (s.peerTakes n p) := by
  have hlink : QueueOk ((s.rosterTakes n (payloadKind p)).linkTakes n) := (h.same).linkTakes n
  exact hlink.same (by constructor <;> simp [State.peerTakes])

/-! ### The Temperature Unit (R85) -/

theorem enterCritical (h : QueueOk s) (i : Nat) (v : Option Int) : QueueOk (s.enterCritical i v) := by
  unfold State.enterCritical
  dsimp only
  split
  · exact (h.same).offerOther _ nofun
  · exact h.same

theorem takeRound (h : QueueOk s) (ms : List Measurement) : QueueOk (s.takeRound ms) := by
  refine State.foldl_keeps _ _ _ s (fun u i hu => ?_) h
  unfold State.takeChannel
  dsimp only
  split
  · exact hu
  · next c _ =>
    have htaken (after : TempChannel) : QueueOk (((u.modTemp i (fun _ => after)).postHealth i c after).postWatch i c after) := hu.same
    repeat' split
    · exact (htaken _).enterCritical i _
    · exact htaken _
    · exact hu

/-! ### The Demand Unit (R97 to R101, R112 to R114) -/

/-- While a DEMAND waits none is on the wire. -/
theorem demandOnWire_of_waits (h : QueueOk s) (hw : s.demandWaits = true) : s.demandOnWire = false := by
  obtain ⟨x, hx, hxw⟩ := List.any_eq_true.mp hw
  refine List.any_eq_false.mpr fun y hy hyw => ?_
  simp only [QEntry.isFor_demand, Bool.and_eq_true, Bool.not_eq_true', beq_iff_eq] at hxw hyw
  have hne : x ≠ y := fun he => by simp [he, hyw.1] at hxw
  exact (h.form.pair hx hy hne).demands hxw.2 hyw.2

theorem postAtComputation (h : QueueOk s) : QueueOk s.postAtComputation := by
  unfold State.postAtComputation
  split
  · next hw => exact h.offer _ fun _ => h.demandOnWire_of_waits hw
  · split
    · exact h
    · next hwire =>
      split
      · exact h.offer _ fun _ => Bool.eq_false_iff.mpr hwire
      · exact h

theorem takeMonitor (h : QueueOk s) (i : Nat) : QueueOk (s.takeMonitor i) := by
  have henter (d : DemandEntry) : QueueOk (s.enterSaturated i d) := by
    unfold State.enterSaturated
    dsimp only
    split
    · exact (h.same).offerOther _ nofun
    · exact h.same
  have hleave (d : DemandEntry) : QueueOk (s.leaveSaturated i d) := by
    unfold State.leaveSaturated
    dsimp only
    split
    · exact (h.same).offerOther _ nofun
    · exact h.same
  unfold State.takeMonitor
  split
  · exact h
  · split
    · split
      · exact hleave _
      · exact h
    · exact h.same
    · split
      · exact henter _
      · exact h.same
    · exact h.same
    · exact h
    · exact h.same
    · exact h.same

theorem computeDemand (h : QueueOk s) : QueueOk s.computeDemand := by
  unfold State.computeDemand
  dsimp only
  split
  · exact h
  · have hcomputed : QueueOk (State.updateOwnClaims
        { s with demand := { s.demand with entries := s.demand.entries.map s.computeEntry, computed := true } }) :=
      h.same (by constructor <;> simp [State.updateOwnClaims])
    exact State.foldl_keeps _ _ _ _ (fun u i hu => hu.takeMonitor i) hcomputed.postAtComputation

end QueueOk
end Sys2Proof.Machine
end

section
/-! Every step keeps the transmit queue's form (R131, R142 to R144, R146). -/

open Sys2Proof Sys2Proof.Machine

namespace Sys2Proof.Machine

namespace QueueOk

variable {s : State}

/-! ### The station's own frame (R128 to R131, R148) -/

/-- After a frame has left the wire none of the station's is on it. -/
theorem dequeue_waiting (q : List QEntry) (e : QEntry) : ∀ x ∈ dequeue q e, x.onWire = false := by
  have hrest : ∀ x ∈ q.filter (fun x => !x.onWire), x.onWire = false := fun x hx => by simpa using (List.mem_filter.mp hx).2
  unfold dequeue
  dsimp only
  split
  · intro x hx
    rcases (insertEntry_mem _ _ _).mp hx with rfl | hx
    · rfl
    · exact hrest x hx
  · exact hrest

/-- The frame on the wire leaves the queue, and its successor enters in its place (R144, R148). -/
theorem unloaded (h : QueueOk s) {e : QEntry} (he : s.ownFrame = some e) : QueueOk (s.unloaded e) := by
  obtain ⟨hmem, hwire, -⟩ := h.ownFrame he
  have hrest : QueueForm s.stamp (s.txq.filter (fun x => !x.onWire)) := h.form.sublist List.filter_sublist
  have hform : QueueForm s.stamp (dequeue s.txq e) := by
    unfold dequeue
    dsimp only
    split
    · next c n hs =>
      obtain ⟨⟨-, -, hsuccessor⟩, -⟩ := h.form.entries e hmem
      obtain ⟨-, hstatus, hn⟩ := hsuccessor c n hs
      refine hrest.insert (h.room he) ⟨⟨Nat.zero_le _, hn, fun d m hd => (nomatch hd)⟩, fun d m hd => (nomatch hd)⟩ fun x hx => ?_
      obtain ⟨hx, hxw⟩ := List.mem_filter.mp hx
      have hne : e ≠ x := fun heq => by simp [← heq, hwire] at hxw
      obtain ⟨-, -, hstatuses, -, hsucc, -⟩ := h.form.pair hmem hx hne
      refine ⟨(hsucc c n hs).symm, fun hk => (nomatch hk), fun g hg => hstatuses g ?_, fun hw => (nomatch hw),
        fun d m hd => (nomatch hd), fun d m hd => ?_⟩
      · obtain ⟨-, rfl⟩ := (QEntry.isFor_iff _ _ _).mp hg
        exact hstatus
      · obtain ⟨⟨-, -, honWire⟩, -⟩ := h.form.entries x hx
        simp [(honWire d m hd).1] at hxw
    · exact hrest
  have hwaits : (s.unloaded e).ownOnWire = false := (s.unloaded e).ownOnWire_eq_false_iff.mpr (dequeue_waiting s.txq e)
  refine (queueOk_iff _).mpr ⟨hform, fun hw => (nomatch hwaits.symm.trans hw), fun ht => ?_⟩
  have hnone : s.txq = [] := h.quiet ht
  simp [hnone] at hmem

/-- The source of a transmitted frame is told (R128); a DEMAND may be followed by another (R100). -/
theorem reportTransmitted (h : QueueOk s) (hw : ∀ x ∈ s.txq, x.onWire = false) (p : Payload) : QueueOk (s.reportTransmitted p) := by
  unfold State.reportTransmitted
  split
  · next items =>
    unfold State.demandTransmitted
    dsimp only
    split
    · refine offer (h.same) _ fun _ => ?_
      exact List.any_eq_false.mpr fun x hx => by simp [hw x hx]
    · exact h.same
  · exact h.same
  · exact h.same
  · exact h.same
  · exact h
  · exact h

/-- The frame on the wire has lost contention (R129). -/
theorem loseContention (h : QueueOk s) : QueueOk s.loseContention :=
  h.map fun _ he => .putBack he _ fun _ => Nat.zero_le _

theorem enterFaulted (s : State) (cause : Cause) (item : Nat) : QueueOk (s.enterFaulted cause item) := of_empty rfl

/-- The frame on the wire has met an overlap, its third or an earlier one (R130, R131). -/
theorem meetOverlap (h : QueueOk s) {e : QEntry} (he : s.ownFrame = some e) : QueueOk (s.meetOverlap e) := by
  obtain ⟨hmem, hwire, -⟩ := h.ownFrame he
  unfold State.meetOverlap
  dsimp only
  split
  · exact enterFaulted _ _ _
  · next hfew =>
    have hcount : ∀ x ∈ s.txq, x.onWire = true → x.overlaps + 1 ≤ 2 := by
      intro x hx hxw
      by_cases hxe : x = e
      · rw [hxe]
        omega
      · simp [(h.form.pair hx hmem hxe).wire hxw] at hwire
    have hwaits : ∀ x ∈ s.txq.map (QEntry.putBack (· + 1)), x.onWire = false := by
      intro x hx
      obtain ⟨y, -, rfl⟩ := List.mem_map.mp hx
      unfold QEntry.putBack
      split
      · rfl
      · next hy => simpa using hy
    refine (queueOk_iff _).mpr ⟨h.form.map fun x hx => .putBack (h.form.entries x hx) _ (hcount x hx), fun hw => ?_, fun ht => ?_⟩
    · obtain ⟨x, hx, hxw⟩ := List.any_eq_true.mp hw
      simp [hwaits x hx] at hxw
    · have hnone : s.txq = [] := h.quiet ht
      simp [hnone] at hmem

/-! ### Frames received (R138 to R141) -/

theorem othersTake (h : QueueOk s) (n : Nat) (p : Payload) : QueueOk (s.othersTake n p) := by
  unfold State.othersTake
  split
  · next items =>
    have hclaims := s.takeClaims_claimsOnly n items
    have htaken : QueueOk (s.takeClaims n items) := h.same (by rw [hclaims]; exact ⟨rfl, rfl, rfl, rfl⟩)
    exact htaken.same (by rw [State.takeDemand_eq]; constructor <;> simp)
  · exact h.driveshipTakes n _
  · exact h.driveshipTakes n _
  · exact h.driveshipTakes n _
  · exact h.driveshipTakes n _
  · exact h

/-- A frame delivered, the blocks in either order (R140, R141, R154). -/
theorem deliver (h : QueueOk s) (n : Nat) (p : Payload) : QueueOk (s.deliver n p) := by
  have hall : QueueOk (s.deliverAll n p) := by
    have hcount : QueueOk { s with choices := s.choices + 1 } := h.same
    unfold State.deliverAll
    dsimp only
    repeat' split
    · exact (hcount.peerTakes n p).othersTake n p
    · exact (hcount.othersTake n p).peerTakes n p
    · exact (h.peerTakes n p).othersTake n p
  unfold State.deliver
  split
  · exact h
  · exact h
  · split
    · exact enterFaulted s _ _
    · exact hall
  · split
    · exact enterFaulted s _ _
    · exact hall
  · split
    · exact h
    · exact h.peerTakes n p

/-- While the station receives, the line may take any state. -/
theorem ended (h : QueueOk s) (hr : s.receiving = true) : QueueOk (s.setLine .notIdle) :=
  h.reline _ (.inl (s.ownFrame_eq_none_iff.mp (State.ownFrame_of_receiving hr)))

/-- A frame that ends at the receiver (R128, R138). -/
theorem receive (h : QueueOk s) (n : Nat) (p : Payload) : QueueOk (s.receive n p) := by
  unfold State.receive
  split
  · next hr =>
    split
    · exact ((h.ended hr).deliver n p).finish
    · exact (h.ended hr).same
  · exact h

/-- A frame that the checks discard (R139). -/
theorem discarded (h : QueueOk s) : QueueOk (if s.receiving then (s.setLine .notIdle).countBad else s) := by
  split
  · next hr => exact (h.ended hr).same
  · exact h

/-! ### Starts and the slots (R157 to R164) -/

theorem beginLoading (h : s.txq = []) (straps : Straps) : QueueOk (s.beginLoading straps) := by
  unfold State.beginLoading
  dsimp only
  split
  · exact of_empty h
  · exact enterFaulted _ _ _

theorem slotJudged (h : QueueOk s) (l : Load) (result : SlotResult) (img : Option Image) : QueueOk (s.slotJudged l result img) := by
  have hjoins (u : State) (slot : Slot) (i : Image) (hu : QueueOk u) : QueueOk (u.enterJoining slot i) := by
    rw [State.enterJoining_eq]
    exact (hu.transmitting (t := u.joined slot i) rfl rfl rfl rfl).same
  unfold State.slotJudged
  split
  · exact h.same
  · have hjudged : QueueOk { s with ctl := { s.ctl with slotB := result, load := none } } := h.same
    unfold State.chooseImage
    repeat' split
    · exact hjoins _ _ _ hjudged
    · exact hjoins _ _ _ hjudged
    · exact hjoins _ _ _ hjudged.same
    · exact hjoins _ _ _ hjudged.same
    · exact enterFaulted _ _ _
    all_goals exact hjudged

theorem slotAnswered (h : QueueOk s) (l : Load) (bytes : List Byte) (ended : Bool) : QueueOk (s.slotAnswered l bytes ended) := by
  unfold State.slotAnswered
  dsimp only
  split
  · exact h.slotJudged _ _ _
  · exact h.same

/-! ### The service port -/

/-- The end of a transaction, and the RESTART that it may bring (R170, R175). -/
theorem endTransfer (h : QueueOk s) (straps : Straps) : QueueOk (s.endTransfer straps) := by
  unfold State.endTransfer
  split
  · dsimp only
    split
    · next action _ =>
      cases action with
      | select v => exact h.same ⟨rfl, rfl, rfl, rfl⟩
      | takeNotice => exact h.same ⟨rfl, rfl, rfl, rfl⟩
      | clearLatches => exact h.same ⟨rfl, rfl, rfl, rfl⟩
      | restart => exact beginLoading rfl straps
    · exact h.same
  · exact h

theorem bringBytes (h : QueueOk s) (bytes : List Byte) : QueueOk (s.bringBytes bytes) := h.same ⟨rfl, rfl, rfl, rfl⟩

/-- A whole write transaction. -/
theorem portWrite (h : QueueOk s) (straps : Straps) (bytes : List Byte) : QueueOk (s.portWrite straps bytes) := by
  unfold State.portWrite
  split
  · exact ((h.endTransfer _).bringBytes bytes).endTransfer straps
  · exact h

/-! ### Every command -/

/-- An expiry keeps what its effect keeps. -/
theorem onExpiry (h : QueueOk s) (timer : Timer) (k : State → State) (hk : ∀ u : State, QueueOk u → QueueOk (k u)) :
    QueueOk (Machine.onExpiry timer k s) := by
  unfold Machine.onExpiry
  split
  · exact hk _ h.same
  · exact h
  · exact h

/-- Every command keeps the transmit queue's form. -/
theorem exec {s t : State} (h : QueueOk s) (c : Instr) (he : exec c s = .next t) : QueueOk t := by
  cases c
  all_goals (injection he with he; subst he)
  -- Starts and slots
  case resetHeldEntry delivered => exact of_empty rfl
  case resetHeldEnd straps =>
    split
    · next hheld =>
      have hnone : s.txq = [] := h.quiet (by simp [State.transmits, hheld])
      refine beginLoading ?_ straps
      exact hnone
    all_goals exact h
  case memoryAnswerTimeout =>
    split
    · exact h
    · exact h.onExpiry _ _ fun u hu => hu.slotJudged ..
  case slotReadComplete bytes status ended =>
    split
    · exact h
    · next l _ =>
      dsimp only
      generalize (if l.ready then l else l.queried status) = l'
      split
      · exact h.slotAnswered ..
      · exact h.same ⟨rfl, rfl, rfl, rfl⟩
  case joinWindowExpiry =>
    refine h.onExpiry _ _ fun u hu => finish (forRoles ?_ fun v r hv => hv.roleRuns r)
    exact hu.transmitting rfl rfl rfl rfl
  -- A round
  case roundComplete ms =>
    refine h.onExpiry _ _ fun u hu => finish ?_
    have hround : QueueOk (State.takeRound { u with roundTimer := .running (u.now + 250) } ms) := takeRound (hu.same) ms
    split
    · exact hround.computeDemand
    · exact hround
  -- Timers that offer frames
  case criticalAlertRepeatExpiry i =>
    split
    · exact h
    · refine h.onExpiry _ _ fun u hu => finish ?_
      split
      · exact hu.same
      · exact (hu.same).offerOther _ nofun
  case silenceTimerExpiry r =>
    split
    · exact h
    · refine h.onExpiry _ _ fun u hu => ?_
      split
      · exact (hu.claimGroup r).finish
      · exact hu.same
      all_goals exact hu
  case otherSilenceExpiry r =>
    split
    · exact h
    · next role _ =>
      have hforced (u : State) (hu : QueueOk u) : QueueOk ((u.withdraw .handback role.cfg.group).forceTakeover r .silence).finish :=
        ((hu.withdraw ..).forceTakeover r .silence).finish
      refine h.onExpiry _ _ fun u hu => ?_
      dsimp only
      split
      · exact hu.same
      · exact hforced _ hu.same
      · split
        · exact hforced _ hu.same
        · exact hu.same
      all_goals exact hu.same
  case displacedHoldExpiry r =>
    split
    · exact h
    · exact h.onExpiry _ _ fun u hu => ((hu.same).queueHandback r).finish
  case handbackWaitExpiry r =>
    split
    · exact h
    · refine h.onExpiry _ _ fun u hu => finish ?_
      repeat' split
      · exact (hu.same).queueTakeover r
      · exact (hu.same).queueHandback r
      · exact (hu.same).forceTakeover r _
  case refreshTimerExpiry =>
    refine h.onExpiry _ _ fun u hu => finish ?_
    split
    · exact hu.same
    · next hwire => exact offer (hu.same) _ fun _ => Bool.eq_false_iff.mpr hwire
  case saturationAlertRepeatExpiry g =>
    repeat' split
    · exact h
    · exact h
    · refine h.onExpiry _ _ fun u hu => finish ?_
      split
      · exact hu.same
      · exact (hu.same).offerOther _ nofun
  case linkSilenceExpiry =>
    refine h.onExpiry _ _ fun u hu => ?_
    repeat' split
    · exact hu.same
    · exact hu.isolate.finish
    · exact hu
  -- Frames and the line
  case demandFrame n items => exact h.receive n _
  case statusFrame n content => exact h.receive n _
  case takeoverFrame n g e => exact h.receive n _
  case handbackFrame n g e => exact h.receive n _
  case yieldFrame n g e a l => exact h.receive n _
  case alertFrame n k i v => exact h.receive n _
  case badFrameReceived frame =>
    split
    · exact h.receive _ _
    · exact h.discarded
  case pulseError pulse =>
    split
    · split
      · next e hown => exact h.meetOverlap hown
      · exact h.discarded
    · exact h
  case contentionLoss cell =>
    repeat' split
    · exact h.loseContention
    · exact h
    · exact h
  case overlap mismatch =>
    split
    · next e hown =>
      split
      · exact h.meetOverlap hown
      · exact h
    · exact h
  case frameTransmitted =>
    split
    · exact h
    · next e hown => exact ((h.unloaded hown).reportTransmitted (dequeue_waiting s.txq e) e.payload).finish
  case lineIdle peerFirst =>
    have hidles (hl : s.line.state ≠ .frame) : QueueOk (if peerFirst = true then State.setLine { s with line := ⟨.idle, false⟩ } .frame
        else State.startHead { s with line := ⟨.idle, false⟩ }) := by
      have hwaits := s.ownOnWire_eq_false_iff.mpr (h.waiting hl)
      split
      · exact h.reline ⟨.frame, false⟩ (.inr rfl)
      · exact (h.reline ⟨.idle, false⟩ (.inl hwaits)).startHead
    split
    · exact h
    · next hl _ => exact hidles (by simp [hl])
    · next hl _ => exact hidles (by simp [hl])
    · exact h
    · exact h
  case startMark =>
    split
    · exact h.reline _ (.inr rfl)
    · exact h
  case lineStuck =>
    split
    · next hw =>
      have hstuck (u : State) (hu : QueueOk u) (htxq : u.txq = s.txq) : QueueOk { u with line := ⟨.stuck, true⟩ } :=
        hu.reline _ (.inl (by rw [State.ownOnWire, htxq]; exact hw.2))
      have hcounted : QueueOk { (if s.line.state = .frame then s.countBad else s) with line := ⟨.stuck, true⟩ } := by
        split
        · exact hstuck _ h.same rfl
        · exact hstuck _ h rfl
      dsimp only
      split
      · exact hcounted
      · exact hcounted.same
    · exact h
  -- The service port
  case restart | takeNotice | clearLatches | stationView | channelView | fanView | roleView | claimsView | groupviewView | rosterView
      | demandView | satboardView | noticeView | countsView => exact h.portWrite _ _
  case writeRefused address bytes ended =>
    dsimp only
    repeat' split
    · exact (h.bringBytes bytes).endTransfer _
    · exact h.bringBytes bytes
    · exact h.endTransfer _
  case readTransaction address count =>
    dsimp only
    split
    · exact (h.endTransfer _).same ⟨rfl, rfl, rfl, rfl⟩
    · exact h.endTransfer _
  -- Commands that leave queue and line but for the end of their event
  case claimExpiry r n =>
    repeat' split
    · exact h
    · exact h
    · exact h
    · exact h
    · exact finish h.same
  case joinGraceEnd r =>
    split
    · exact h
    · next role _ =>
      refine h.onExpiry _ _ fun u hu => finish ?_
      have hreported : QueueOk (u.reportAwaited r role) := by
        have hmarked (f : ClaimTable → ClaimTable) : QueueOk (u.modClaims r f) := hu.same
        exact State.foldl_keeps _ _ _ _ (fun v x hv => hv.same) (hmarked _)
      exact hreported.same
  case peakExpiry | tachMeasurement | stopDelayExpiry | spinUpExpiry | statusTimerExpiry =>
    split
    · exact h
    · exact h.onExpiry _ _ fun u hu => finish hu.same
  case rampTimerExpiry r =>
    repeat' split
    · exact h
    · exact h
    · exact finish h.same
    · exact finish h.same
  case viewStale | boardRenewalExpiry | rosterSilent | rosterLoss =>
    refine h.same ?_
    repeat' split
    all_goals constructor <;> simp

end QueueOk
end Sys2Proof.Machine

/-- Settles O6: what is offered, withdrawn, put back and removed keeps the entries in their order and apart (`QueueForm`), and a frame
goes onto the wire and leaves it with the line. -/
theorem stepKeepsQueue : Obligations.StepKeepsQueue := by
  intro s t hs h
  unfold step at h
  split at h
  · injection h with h
    exact h ▸ hs.same
  · next c rest _ =>
    have hrest : QueueOk { s with pending := rest } := hs.same
    exact hrest.exec c h

end

section
/-! A frame offered to the transmit queue (R68, R124, R142 to R147). -/

open Sys2Proof Sys2Proof.Machine

namespace Sys2Proof.Machine

/-! ### Coalescing (R144) -/

/-- A DEMAND replaces the content of a waiting DEMAND. -/
theorem coalesce_demand (items : List DemandItem) (stamp : Nat) (e : QEntry) :
    coalesce (.demand items) stamp e =
      if payloadKind e.payload = .demand ∧ e.onWire = false then { e with payload := .demand items } else e := by
  by_cases h : payloadKind e.payload = .demand ∧ e.onWire = false
  · rw [if_pos h]
    unfold coalesce
    rw [if_pos (by simp [coalesces_demand, h]), if_neg (by simp [h])]
  · rw [if_neg h]
    unfold coalesce
    rw [if_neg (by simpa [coalesces_demand, and_comm] using h)]

/-- A STATUS replaces the content of the waiting STATUS of its group, or is held as the successor of the one on the wire. -/
theorem coalesce_status (c : StatusContent) (stamp : Nat) (e : QEntry) :
    coalesce (.status c) stamp e =
      if e.isFor .status c.group then
        (if e.onWire then { e with successor := some (c, (e.successor.map (·.2)).getD stamp) } else { e with payload := .status c })
      else e := by
  rw [coalesce, coalesces_status]

/-- An entry does not coalesce where no DEMAND waits and no STATUS stands for the group. -/
theorem coalesces_none {s : State} {p : Payload} (hd : payloadKind p = .demand → s.demandWaits = false)
    (hs : ∀ c, p = .status c → ∀ e ∈ s.txq, e.isFor .status c.group = false) : s.txq.any (coalesces p) = false := by
  refine List.any_eq_false.mpr fun e he hc => ?_
  cases p with
  | demand items =>
    have hwaits := List.any_eq_false.mp (hd rfl) e he
    rw [QEntry.isFor_demand, ← coalesces_demand items] at hwaits
    exact hwaits hc
  | status c => simp [coalesces_status, hs c rfl e he] at hc
  | takeover g ep => exact nomatch hc
  | handback g ep => exact nomatch hc
  | yield g ep a l => exact nomatch hc
  | alert k i v => exact nomatch hc

/-! ### A place in the queue (R142, R143) -/

/-- The newest entry comes after every entry of its class and of the classes before it, and before the others. -/
theorem insertEntry_fresh {q : List QEntry} {stamp : Nat} (p : Payload) (horder : q.Pairwise (fun a b => a.before b = true))
    (hstamps : ∀ x ∈ q, x.stamp < stamp) :
    ∃ front back, q = front ++ back ∧ insertEntry (.fresh p stamp) q = front ++ .fresh p stamp :: back
      ∧ (∀ x ∈ front, payloadClass x.payload ≤ payloadClass p) ∧ ∀ x ∈ back, payloadClass p < payloadClass x.payload := by
  obtain ⟨front, back, rfl, hinsert, hfront, hhead⟩ := insertEntry_split (.fresh p stamp) q
  obtain ⟨-, hback, -⟩ := List.pairwise_append.mp horder
  refine ⟨front, back, rfl, hinsert, fun x hx => ?_, fun x hx => ?_⟩
  · have hnot := Bool.eq_false_iff.mp (hfront x hx)
    rw [Ne, QEntry.before_iff] at hnot
    simp only [QEntry.fresh] at hnot
    omega
  · have hbefore : (QEntry.fresh p stamp).before x = true := by
      cases back with
      | nil => exact nomatch hx
      | cons y ys =>
        have hy := hhead y rfl
        rcases List.mem_cons.mp hx with rfl | hx
        · exact hy
        · exact QEntry.before_trans hy ((List.pairwise_cons.mp hback).1 x hx)
    have hx := hstamps x (List.mem_append_right _ hx)
    simp only [QEntry.before_iff, QEntry.fresh] at hbefore
    omega

namespace State

/-- A frame enters the queue, and its head starts on an IDLE line (R124, R143). -/
theorem enter_eq (s : State) (p : Payload) (ht : s.transmits = true) :
    s.enter p = { s with
      stamp := s.stamp + 1
      txq := if s.line.state = .idle then markHead (insertEntry (.fresh p s.stamp) s.txq) else insertEntry (.fresh p s.stamp) s.txq
      line := if s.line.state = .idle then { s.line with state := .frame } else s.line } := by
  let u : State := { s with txq := insertEntry (.fresh p s.stamp) s.txq, stamp := s.stamp + 1 }
  have hwaits : u.txq.any (fun e => !e.onWire) = true :=
    List.any_eq_true.mpr ⟨.fresh p s.stamp, (insertEntry_mem _ _ _).mpr (.inl rfl), rfl⟩
  have htu : u.transmits = true := ht
  show u.startHead = _
  unfold startHead
  rw [hwaits, htu]
  by_cases hl : s.line.state = .idle
  · simp [u, hl]
  · simp [u, hl]

/-- The place of a frame that enters, and all that it changes. -/
theorem enter_placed {s : State} (p : Payload) (ht : s.transmits = true) (horder : s.txq.Pairwise (fun a b => a.before b = true))
    (hstamps : ∀ x ∈ s.txq, x.stamp < s.stamp) :
    ∃ before after, s.txq = before ++ after ∧ (∀ e ∈ before, payloadClass e.payload ≤ payloadClass p)
      ∧ (∀ e ∈ after, payloadClass p < payloadClass e.payload)
      ∧ s.enter p = { s with
        stamp := s.stamp + 1
        txq := if s.line.state = .idle then markHead (before ++ .fresh p s.stamp :: after) else before ++ .fresh p s.stamp :: after
        line := if s.line.state = .idle then { s.line with state := .frame } else s.line } := by
  obtain ⟨front, back, hq, hinsert, hfront, hback⟩ := insertEntry_fresh p horder hstamps
  exact ⟨front, back, hq, hfront, hback, hinsert ▸ s.enter_eq p ht⟩

/-! ### A discard (R68, R146, R147) -/

/-- A discard posts TX_OVERFLOW and is told to the frame's role. -/
theorem discard_eq (s : State) (p : Payload) (h : (s.roles.map (·.cfg.group)).Nodup) :
    s.discard p = { s with notices := (s.postOverflow p).notices, roles := s.roles.map (toldOfDiscard s p) } := by
  have htold := (s.postOverflow p).reportDiscard_told p (by simpa using h)
  exact htold

end State

/-- Of a queue without two entries of one instant the waiting entry that is last of the highest class is the one evicted. -/
theorem victim_eq {q : List QEntry} {stamp : Nat} {p : Payload} {v : QEntry} (hform : QueueForm stamp q) (hv : v ∈ q)
    (hw : v.onWire = false) (hp : payloadClass p < payloadClass v.payload)
    (hlast : ∀ e ∈ q, e.onWire = false → payloadClass e.payload ≤ payloadClass v.payload
      ∧ (payloadClass e.payload = payloadClass v.payload → e.stamp ≤ v.stamp)) : victim p q = some v := by
  cases h : victim p q with
  | none =>
    unfold victim at h
    split at h
    · next hnone =>
      have hmem : v ∈ q.filter (fun e => !e.onWire && decide (payloadClass p < payloadClass e.payload)) := by simp [hv, hw, hp]
      simp [hnone] at hmem
    · exact nomatch h
  | some m =>
    obtain ⟨⟨hm, hmw, hmp⟩, hnone⟩ := victim_spec h
    have hnot := hnone v hv hw hp
    obtain ⟨hclass, hstamp⟩ := hlast m hm hmw
    rw [QEntry.before_iff] at hnot
    have heq : m.stamp = v.stamp := by omega
    by_contra hne
    exact (hform.pair hm hv fun hmv => hne (hmv ▸ rfl)).stamps heq

/-- No entry gives way where no waiting one has a higher class. -/
theorem victim_none {q : List QEntry} {p : Payload} (h : ∀ e ∈ q, e.onWire = true ∨ payloadClass e.payload ≤ payloadClass p) :
    victim p q = none := by
  cases hv : victim p q with
  | none => rfl
  | some v =>
    obtain ⟨⟨hmem, hw, hp⟩, -⟩ := victim_spec hv
    rcases h v hmem with hwire | hclass
    · simp [hw] at hwire
    · omega

end Sys2Proof.Machine

/-- Settles O56, by what becomes of the frame: it coalesces (`coalesce_demand`, `coalesce_status`), takes its place
(`State.enter_placed`), is refused (`victim_none`), or takes the place of another (`victim_eq`). -/
theorem queueTakesFrame : Obligations.QueueTakesFrame := by
  intro s p h t value overflow
  have hoverflow (f : Payload) : (s.postOverflow f).notices = overflow f := by cases f <;> rfl
  refine ⟨s.offer_off p, fun ht => ⟨fun items hp hw => ?_, fun c hp hs => ?_, ?_⟩⟩
  · have hany : s.txq.any (coalesces p) = true := by
      obtain ⟨e, he, hew⟩ := List.any_eq_true.mp hw
      rw [QEntry.isFor_demand, ← coalesces_demand items, ← hp] at hew
      exact List.any_eq_true.mpr ⟨e, he, hew⟩
    rw [show t = _ from s.offer_coalesce p ht hany, hp]
    simp only [funext (coalesce_demand items s.stamp)]
  · have hany : s.txq.any (coalesces p) = true := by
      obtain ⟨e, he, hec⟩ := hs
      exact List.any_eq_true.mpr ⟨e, he, by rw [hp, coalesces_status, hec]⟩
    rw [show t = _ from s.offer_coalesce p ht hany, hp]
    simp only [funext (coalesce_status c s.stamp)]
  · intro hd hs new
    have hc := coalesces_none hd hs
    refine ⟨fun hl => ?_, fun hl hgroups hlow => ?_, fun hl hgroups v hv hvw hvp hlast => ?_⟩
    · rw [show t = _ from s.offer_room p ht hc hl]
      exact State.enter_placed p ht h.form.order fun x hx => h.form.stamp_lt hx
    · rw [show t = _ from s.offer_refused p ht hc (by omega) (victim_none hlow), s.discard_eq p hgroups, hoverflow]
    · have hsub := List.erase_sublist (a := v) (l := s.txq)
      let u : State := { s with txq := s.txq.erase v }
      obtain ⟨before, after, hq, hbefore, hafter, hentered⟩ := State.enter_placed (s := u) p ht (h.form.order.sublist hsub)
        fun x hx => h.form.stamp_lt (hsub.subset hx)
      refine ⟨before, after, hq, hbefore, hafter, ?_⟩
      rw [show t = _ from s.offer_evicts p v ht hc (by omega) (victim_eq h.form hv hvw hvp hlast), ← hoverflow, hentered]
      exact State.discard_eq _ _ hgroups

end

section
/-! STATUS, ALERT, DEMAND and HANDBACK transmitted (R58, R100, R144, R148), and frames that reach no block (R139 to R141). -/

open Sys2Proof Sys2Proof.Machine

namespace Sys2Proof.Machine

/-- A frame that ends at the receiver (R128, R138). -/
theorem exec_frameCommand_receive (s : State) (n : Nat) (p : Payload) : exec (frameCommand n p) s = .next (s.receive n p) := by
  cases p <;> rfl

namespace State

/-- The event of a transmitted frame ends with what its source does, where that leaves no STATUS due. -/
theorem exec_frameTransmitted_settled {s : State} {q : QEntry} (hq : s.ownFrame = some q)
    (h : Settled ((s.unloaded q).reportTransmitted q.payload)) :
    exec .frameTransmitted s = .next ((s.unloaded q).reportTransmitted q.payload) := by
  rw [exec_frameTransmitted s q hq, finish_settled _ h]

/-- A DEMAND transmitted makes no STATUS due (R100). -/
theorem settled_demandTransmitted {s : State} (h : Settled s) (items : List DemandItem) : Settled (s.demandTransmitted items) := by
  unfold demandTransmitted
  dsimp only
  split
  · exact settled_offer (settled_of_roles (by rfl) h) _
  · exact settled_of_roles (by rfl) h

/-- A HANDBACK transmitted starts the handback wait of a primary in RECLAIM whose forcing mark is clear (R58). -/
theorem handbackTransmitted_eq {s : State} {g r : Nat} {role : Role} (hi : s.roleIndex g = some r) (hr : s.roles[r]? = some role) :
    s.handbackTransmitted g =
      if role.ship.machine = .reclaim ∧ role.ship.forcing = .clear
      then s.modShip r (fun sh => { sh with wait := s.startFreezable 1000 }) else s := by
  unfold handbackTransmitted
  rw [hi]
  dsimp only
  split
  · next hwaits =>
    unfold modShip modRole
    rw [modify_congr_get]
    intro x hx
    obtain rfl := Option.some.inj (hr.symm.trans hx)
    exact congrArg (fun sh => { role with ship := sh }) (if_pos hwaits)
  · next hnone => exact s.modShip_of_same r _ role hr (if_neg hnone)

/-- A valid frame ends with what its delivery leaves, where that leaves no STATUS due (R138). -/
theorem receive_settled {s : State} {n : Nat} {p : Payload} (hr : s.receiving = true) (hn : stationOk n = true) (hp : p.wf = true)
    (h : Settled ((s.setLine .notIdle).deliver n p)) : s.receive n p = (s.setLine .notIdle).deliver n p := by
  rw [receive, if_pos hr, if_pos (by simp [hn, hp]), finish_settled _ h]

/-- A valid frame with the own number faults the station in JOINING and RUNNING (R141). -/
theorem deliver_own {s : State} {n : Nat} (p : Payload) (hown : s.ctl.station = some n) (ht : s.transmits = true) :
    s.deliver n p = s.enterFaulted .duplicateStation 0 := by
  unfold transmits at ht
  unfold deliver
  cases hs : s.ctl.state <;> simp [hs] at ht
  · exact if_pos hown
  · exact if_pos hown

end State
end Sys2Proof.Machine

/-- Settles O41: the frame leaves the queue (`State.unloaded`), and what its source does then makes no STATUS due. -/
theorem frameLeavesQueue : Obligations.FrameLeavesQueue := by
  intro s q hq hs rest s'
  have hunloaded : s.unloaded q = s' := by
    unfold State.unloaded dequeue
    cases hn : q.successor <;> simp only [s', rest, hn] <;> rfl
  have hsettled : Settled s' := settled_of_roles (s := s) rfl hs
  have hexec (p : Payload) (hp : q.payload = p) (h : Settled (s'.reportTransmitted p)) :
      exec .frameTransmitted s = .next (s'.reportTransmitted p) := by
    subst hp
    rw [← hunloaded] at h ⊢
    exact State.exec_frameTransmitted_settled hq h
  refine ⟨fun c hp => hexec _ hp hsettled, fun k n v hp => hexec _ hp hsettled, ?_, fun g e r role hp hi hr => ?_⟩
  · intro items hp d
    exact hexec _ hp (State.settled_demandTransmitted hsettled items)
  · have htold : s'.reportTransmitted (.handback g e) = _ := State.handbackTransmitted_eq (s := s') hi hr
    rw [hexec _ hp (by rw [htold]; split; exacts [settled_modShip s' r _ hsettled, hsettled]), htold]
    rfl

/-- Settles O49: each frame by the delivery of the station state, which leaves no STATUS due. -/
theorem frameNotDelivered : Obligations.FrameNotDelivered := by
  intro s n p hr hs s'
  have hsettled : Settled s' := settled_of_roles (s := s) rfl hs
  have hdelivered (hn : stationOk n = true) (hp : p.wf = true) (t : State) (ht : State.deliver s' n p = t) (hst : Settled t) :
      exec (frameCommand n p) s = .next t := by
    rw [exec_frameCommand_receive, State.receive_settled hr hn hp (ht ▸ hst)]
    exact congrArg _ ht
  refine ⟨fun hn hp hown ht => ?_, fun hn hp hown hf => ?_, fun hn hp hl => ?_, fun hbad => ?_⟩
  · exact hdelivered hn hp _ (State.deliver_own (s := s') p hown ht) (settled_enterFaulted _ _ _)
  · refine hdelivered hn hp _ ?_ hsettled
    simp [State.deliver, s', hf, hown]
  · refine hdelivered hn hp _ ?_ hsettled
    simp [State.deliver, s', hl]
  · rw [exec_frameCommand_receive, State.receive, if_pos hr, if_neg (by simp [hbad])]
    rfl

end

section
/-! SUPPORT. The Peer Unit's record when an isolation begins and ends (R152 to R154), and what it hears of stations. -/

namespace Sys2Proof.Machine

namespace State

/-- An isolation that begins marks it with its instant, and stops the link silence timer (R153). -/
theorem isolate_peers (s : State) :
    s.isolate.peers = { s.peers with isolated := true, isolatedAt := s.now, linkTimer := .stopped } :=
  (forRoles_same (·.peers) _ _ fun u r => by simp).trans (by simp)

/-- An isolation that ends restarts the link silence timer (R154). -/
theorem rejoin_peers (s : State) (n : Nat) :
    (s.rejoin n).peers = { s.peers with isolated := false, linkTimer := .running (s.now + s.isolationMs) } :=
  (forRoles_same (·.peers) _ _ fun u r => by simp).trans (by simp [restartLink, isolationMs])

/-- A frame in JOINING or RUNNING restarts the link silence timer and leaves the station out of isolation (R152, R154). -/
theorem linkTakes_peers (s : State) (n : Nat) (ht : s.transmits = true) :
    (s.linkTakes n).peers = { s.peers with isolated := false, linkTimer := .running (s.now + s.isolationMs) } := by
  unfold linkTakes
  rw [if_pos ht]
  split
  · exact rejoin_peers s n
  · next hi =>
    have hconnected : s.peers.isolated = false := by simpa using hi
    simp [restartLink, ← hconnected]

end State
end Sys2Proof.Machine
end

section
/-! SUPPORT. The stations in the Peer Unit's lists (R116, R120, R149): what the invariant sees of them, and what adds one and takes one
away. -/

namespace Sys2Proof.Machine

/-! ### Lists of peers -/

/-- A change of every element that a projection does not see leaves the projections of a list. -/
theorem map_map_of_same {α β : Type} (g : α → β) (f : α → α) (l : List α) (h : ∀ x, g (f x) = g x) : (l.map f).map g = l.map g := by
  rw [List.map_map]
  exact List.map_congr_left fun x _ => h x

/-- Some of the peers of a list. -/
theorem PeerList.sublist {own : Option Nat} {l l' : List Nat} (h : PeerList own l) (hl : l'.Sublist l) : PeerList own l' := by
  obtain ⟨hnodup, hpeers⟩ := h
  exact ⟨hnodup.sublist hl, fun n hn => hpeers n (hl.subset hn)⟩

/-- A list of peers and one more that it does not hold. -/
theorem PeerList.append {own : Option Nat} {l : List Nat} {n : Nat} (h : PeerList own l) (hn : stationOk n = true) (hown : own ≠ some n)
    (hnew : n ∉ l) : PeerList own (l ++ [n]) := by
  obtain ⟨hnodup, hpeers⟩ := h
  refine ⟨hnodup.append (List.nodup_singleton n) (by simpa using hnew), fun m hm => ?_⟩
  rcases List.mem_append.mp hm with hm | hm
  · exact hpeers m hm
  · rw [List.mem_singleton.mp hm]
    exact ⟨hn, hown⟩

theorem PeerList.nil (own : Option Nat) : PeerList own [] := ⟨List.nodup_nil, fun _ hn => nomatch hn⟩

/-- From one state to another the Peer Unit's lists hold the same stations, and the station is the same. -/
structure State.PeersKept (s t : State) : Prop where
  station : t.ctl.station = s.ctl.station
  held : t.ctl.state = .resetHeld → s.ctl.state = .resetHeld
  roster : t.peers.roster.map (·.station) = s.peers.roster.map (·.station)
  board : t.peers.board.map (·.map (·.station)) = s.peers.board.map (·.map (·.station))
  critPeers : t.peers.critPeers.map (·.station) = s.peers.critPeers.map (·.station)

/-- A station hears another one outside RESET_HELD (R122, R138, R140). -/
structure State.Hears (s : State) (n : Nat) : Prop where
  started : s.ctl.state ≠ .resetHeld
  station : stationOk n = true
  other : s.ctl.station ≠ some n

/-- The Peer Unit's lists are empty. -/
def PeerUnit.NoPeers (p : PeerUnit) : Prop := p.roster = [] ∧ (∀ ms ∈ p.board, ms = []) ∧ p.critPeers = []

theorem State.Hears.same {s t : State} {n : Nat} (h : s.Hears n) (hctl : t.ctl = s.ctl := by simp) : t.Hears n := by
  obtain ⟨hstarted, hstation, hother⟩ := h
  exact ⟨hctl ▸ hstarted, hstation, hctl ▸ hother⟩

/-! ### What the operations leave of the lists -/

namespace State

theorem linkTakes_lists (s : State) (n : Nat) :
    (s.linkTakes n).peers.roster = s.peers.roster ∧ (s.linkTakes n).peers.board = s.peers.board
      ∧ (s.linkTakes n).peers.critPeers = s.peers.critPeers := by
  cases ht : s.transmits with
  | true => simp [linkTakes_peers s n ht]
  | false => simp [linkTakes, ht]

theorem peersKept_linkTakes (s : State) (n : Nat) : s.PeersKept (s.linkTakes n) := by
  obtain ⟨hroster, hboard, hcrit⟩ := s.linkTakes_lists n
  exact ⟨by simp, by simp, by rw [hroster], by rw [hboard], by rw [hcrit]⟩

theorem peersKept_post (s : State) (k : NoticeKind) (n : Nat) (v : Option Int) : s.PeersKept (s.post k n v) := ⟨rfl, id, rfl, rfl, rfl⟩

theorem PeersKept.refl (s : State) : s.PeersKept s := ⟨rfl, id, rfl, rfl, rfl⟩

theorem takeDemand_peers (s : State) (n : Nat) (items : List DemandItem) : (s.takeDemand n items).peers = s.peers := by
  obtain ⟨-, -, -, -, -, hpeers, -⟩ := s.takeDemand_frame n items
  exact hpeers

@[simp] theorem othersTake_peers (s : State) (n : Nat) (p : Payload) : (s.othersTake n p).peers = s.peers := by
  cases p with
  | demand items => exact s.takeDemand_peers n items
  | status c => simp [othersTake]
  | takeover g e => simp [othersTake]
  | handback g e => simp [othersTake]
  | yield g e a l => simp [othersTake]
  | alert k i v => rfl

@[simp] theorem othersTake_ctl (s : State) (n : Nat) (p : Payload) : (s.othersTake n p).ctl = s.ctl := by
  cases p <;> simp [othersTake]

@[simp] theorem takeRound_peers (s : State) (ms : List Measurement) : (s.takeRound ms).peers = s.peers := by
  refine foldl_same (·.peers) _ _ s fun u i => ?_
  unfold takeChannel
  dsimp only
  repeat' split
  all_goals simp

@[simp] theorem updateOwnClaims_peers (s : State) : s.updateOwnClaims.peers = s.peers := by simp [updateOwnClaims]

@[simp] theorem computeDemand_peers (s : State) : s.computeDemand.peers = s.peers := by
  have hpost (u : State) : u.postAtComputation.peers = u.peers := by
    unfold postAtComputation
    repeat' split
    all_goals simp
  have hmonitors (u : State) : u.takeMonitors.peers = u.peers := by
    refine foldl_same (·.peers) _ _ u fun v i => ?_
    unfold takeMonitor enterSaturated leaveSaturated
    dsimp only
    repeat' split
    all_goals simp
  unfold computeDemand
  dsimp only
  split
  · rfl
  · simp [hpost, hmonitors]

@[simp] theorem computeDemand_ctl (s : State) : s.computeDemand.ctl = s.ctl := by
  unfold computeDemand
  dsimp only
  split
  · rfl
  · simp

@[simp] theorem reportTransmitted_peers (s : State) (p : Payload) : (s.reportTransmitted p).peers = s.peers := by
  unfold reportTransmitted demandTransmitted
  dsimp only
  repeat' split
  all_goals simp

@[simp] theorem reportAwaited_peers (s : State) (r : Nat) (role : Role) : (s.reportAwaited r role).peers = s.peers :=
  foldl_same (·.peers) _ _ _ fun _ _ => rfl

end State
end Sys2Proof.Machine
end

section
/-! SUPPORT. The invariant of the Peer Unit's lists at every event that acts on them or on the own station number (R116, R117, R120,
R149 to R151). -/

namespace Sys2Proof.Machine

namespace PeersOk

variable {s t : State}

theorem roster (h : PeersOk s) : PeerList s.ctl.station (s.peers.roster.map (·.station)) :=
  have ⟨hroster, _⟩ := h; hroster

theorem boardLength (h : PeersOk s) : s.peers.board.length = 16 :=
  have ⟨_, hlength, _⟩ := h; hlength

theorem board (h : PeersOk s) : ∀ ms ∈ s.peers.board, PeerList s.ctl.station (ms.map (·.station)) :=
  have ⟨_, _, hboard, _⟩ := h; hboard

theorem critPeers (h : PeersOk s) : PeerList s.ctl.station (s.peers.critPeers.map (·.station)) :=
  have ⟨_, _, _, hcrit, _⟩ := h; hcrit

theorem held (h : PeersOk s) : s.ctl.state = .resetHeld → s.peers.NoPeers :=
  have ⟨_, _, _, _, hheld⟩ := h; hheld

/-- No station is added to a list. -/
theorem of_sublists (h : PeersOk s) (hstation : t.ctl.station = s.ctl.station) (hheld : t.ctl.state = .resetHeld → s.ctl.state = .resetHeld)
    (hroster : (t.peers.roster.map (·.station)).Sublist (s.peers.roster.map (·.station)))
    (hlength : t.peers.board.length = s.peers.board.length)
    (hboard : ∀ ms ∈ t.peers.board, ∃ old ∈ s.peers.board, (ms.map (·.station)).Sublist (old.map (·.station)))
    (hcrit : (t.peers.critPeers.map (·.station)).Sublist (s.peers.critPeers.map (·.station))) : PeersOk t := by
  refine ⟨hstation ▸ h.roster.sublist hroster, hlength.trans h.boardLength, fun ms hms => ?_, hstation ▸ h.critPeers.sublist hcrit,
    fun ht => ?_⟩
  · obtain ⟨old, hold, hsub⟩ := hboard ms hms
    exact hstation ▸ (h.board old hold).sublist hsub
  · obtain ⟨hnone, hempty, hcalm⟩ := h.held (hheld ht)
    refine ⟨by simpa [hnone] using hroster, fun ms hms => ?_, by simpa [hcalm] using hcrit⟩
    obtain ⟨old, hold, hsub⟩ := hboard ms hms
    simpa [hempty old hold] using hsub

/-- The invariant sees nothing else. (What a change leaves is found by the lemmas about its operations, `simp`'s.) -/
theorem same (h : PeersOk s) (hk : s.PeersKept t := by constructor <;> simp) : PeersOk t := by
  refine h.of_sublists hk.station hk.held (by rw [hk.roster]) (by simpa using congrArg List.length hk.board) (fun ms hms => ?_)
    (by rw [hk.critPeers])
  have hmem := List.mem_map_of_mem (f := fun l : List Member => l.map (·.station)) hms
  rw [hk.board] at hmem
  obtain ⟨old, hold, he⟩ := List.mem_map.mp hmem
  exact ⟨old, hold, by rw [he]⟩

/-- The lists are empty, whatever the own station (R116, R120, R149). -/
theorem of_noPeers (hlength : s.peers.board.length = 16) (h : s.peers.NoPeers) : PeersOk s := by
  obtain ⟨hroster, hboard, hcrit⟩ := h
  exact ⟨by rw [hroster]; exact .nil _, hlength, fun ms hms => by rw [hboard ms hms]; exact .nil _, by rw [hcrit]; exact .nil _,
    fun _ => ⟨hroster, hboard, hcrit⟩⟩

/-! ### Frames (R116, R117, R120, R150) -/

/-- The sender of a frame is in the roster, or comes to its end (R150). -/
theorem rosterTakes (h : PeersOk s) {n : Nat} (hn : s.Hears n) (k : FrameKind) : PeersOk (s.rosterTakes n k) := by
  unfold State.rosterTakes
  split
  · exact h.same ⟨rfl, id, map_map_of_same _ _ _ fun e => by split <;> rfl, rfl, rfl⟩
  · next hnew =>
    have hlist := h.roster.append hn.station hn.other (by simpa using hnew)
    refine ⟨?_, h.boardLength, h.board, h.critPeers, fun hheld => absurd hheld hn.started⟩
    simpa [rosterAppended] using hlist

/-- An ALERT SATURATION: the sender is in the set of the group, or comes to its end (R116). -/
theorem takeSaturation (h : PeersOk s) {n : Nat} (hn : s.Hears n) (g : Nat) : PeersOk (s.takeSaturation n g) := by
  unfold State.takeSaturation
  dsimp only
  split
  · exact h.same ⟨rfl, id, rfl, map_modify_of_same _ _ _ _ fun ms => map_map_of_same _ _ ms fun m => by split <;> rfl, rfl⟩
  · next hnew =>
    refine ⟨h.roster, by simpa [State.modBoard] using h.boardLength, forall_mem_of_get g (fun q ms hne hq => ?_) fun ms hg => ?_, h.critPeers,
      fun hheld => absurd hheld hn.started⟩
    · exact h.board ms (List.mem_of_getElem? (i := q) (by simpa [State.modBoard, Ne.symm hne] using hq))
    · obtain ⟨old, hold, rfl⟩ : ∃ old, s.peers.board[g]? = some old ∧ old ++ [⟨n, s.now + 15000⟩] = ms := by
        simpa [State.modBoard] using hg
      have hfresh : n ∉ old.map (·.station) := by simpa [hold] using hnew
      have hlist := (h.board old (List.mem_of_getElem? hold)).append hn.station hn.other hfresh
      simpa using hlist

/-- An ALERT CRITICAL: the sender is in the critical-peer list, or comes to its end (R120). -/
theorem takeCritical (h : PeersOk s) {n : Nat} (hn : s.Hears n) (ch : Nat) (v : Int) : PeersOk (s.takeCritical n ch v) := by
  have hlist : PeerList s.ctl.station ((critAfter s.peers.critPeers n ch v (s.enclosure.contains n)).map (·.station)) := by
    unfold critAfter
    split
    · rw [map_map_of_same _ _ _ fun e => by split <;> rfl]
      exact h.critPeers
    · next hnew => simpa using h.critPeers.append hn.station hn.other (by simpa using hnew)
  unfold State.takeCritical
  dsimp only
  split
  · exact ⟨h.roster, h.boardLength, h.board, hlist, fun hheld => absurd hheld hn.started⟩
  · exact ⟨h.roster, h.boardLength, h.board, hlist, fun hheld => absurd hheld hn.started⟩

/-- A member leaves the set of a group (R117). -/
theorem dropMember (h : PeersOk s) (n g : Nat) : PeersOk (s.dropMember n g) := by
  refine h.of_sublists rfl id (List.Sublist.refl _) (by simp [State.dropMember, State.modBoard])
    (forall_mem_of_get g (fun q ms hne hq => ?_) fun ms hg => ?_) (List.Sublist.refl _)
  · have hsame : s.peers.board[q]? = some ms := by simpa [State.dropMember, State.modBoard, Ne.symm hne] using hq
    exact ⟨ms, List.mem_of_getElem? hsame, List.Sublist.refl _⟩
  · obtain ⟨old, hold, rfl⟩ : ∃ old, s.peers.board[g]? = some old ∧ old.filter (fun m => m.station != n) = ms := by
      simpa [State.dropMember, State.modBoard] using hg
    exact ⟨old, List.mem_of_getElem? hold, List.filter_sublist.map _⟩

/-- A station leaves every set (R117, R151). -/
theorem dropStation (h : PeersOk s) (n : Nat) : PeersOk (s.dropStation n) := by
  refine h.of_sublists rfl id (List.Sublist.refl _) (by simp [State.dropStation]) (fun ms hms => ?_) (List.Sublist.refl _)
  obtain ⟨old, hold, rfl⟩ := List.mem_map.mp hms
  exact ⟨old, hold, List.filter_sublist.map _⟩

/-- A station leaves the roster (R151). -/
theorem leaveRoster (h : PeersOk s) (n : Nat) :
    PeersOk { s with peers := { s.peers with roster := s.peers.roster.filter (fun e => e.station != n) } } :=
  h.of_sublists rfl id (List.filter_sublist.map _) rfl (fun ms hms => ⟨ms, hms, List.Sublist.refl _⟩) (List.Sublist.refl _)

/-- The content of a frame: views, board and critical-peer list (R106, R116, R120). -/
theorem peerContent (h : PeersOk s) {n : Nat} (hn : s.Hears n) (p : Payload) : PeersOk (s.peerContent n p) := by
  unfold State.peerContent
  split
  · split
    · unfold State.takeView
      split
      · exact h.same ⟨rfl, id, rfl, rfl, rfl⟩
      · exact h
    · exact h
  · exact h.takeCritical hn _ _
  · split
    · exact h.takeSaturation hn _
    · exact h
  · split
    · exact h.dropMember n _
    · exact h
  all_goals exact h

theorem peerTakes (h : PeersOk s) {n : Nat} (hn : s.Hears n) (p : Payload) : PeersOk (s.peerTakes n p) :=
  ((h.rosterTakes hn _).same (State.peersKept_linkTakes _ n)).peerContent hn.same p

theorem othersTake (h : PeersOk s) (n : Nat) (p : Payload) : PeersOk (s.othersTake n p) := h.same

/-- The station enters FAULTED: the board is emptied (R117, R120). -/
theorem enterFaulted (h : PeersOk s) (cause : Cause) (item : Nat) : PeersOk (s.enterFaulted cause item) := by
  have hstops (u : State) : (u.forRoles State.stopActing).peers = u.peers ∧ (u.forRoles State.stopActing).ctl = u.ctl :=
    ⟨State.forRoles_same (·.peers) _ u fun v r => by simp, State.forRoles_same (·.ctl) _ u fun v r => by simp⟩
  have hkept : (s.enterFaulted cause item).peers = { s.peers with board := List.replicate 16 [], linkTimer := .stopped }
      ∧ (s.enterFaulted cause item).ctl.station = s.ctl.station ∧ (s.enterFaulted cause item).ctl.state = .faulted := by
    simp [State.enterFaulted, State.blocksFault, hstops]
  obtain ⟨hpeers, hstation, hstate⟩ := hkept
  refine ⟨?_, by rw [hpeers]; rfl, fun ms hms => ?_, ?_, fun hheld => ?_⟩
  · rw [hpeers, hstation]; exact h.roster
  · rw [hpeers] at hms
    rw [List.eq_of_mem_replicate hms]
    exact .nil _
  · rw [hpeers, hstation]; exact h.critPeers
  · simp [hstate] at hheld

/-- A frame delivered, the blocks in either order (R140, R141, R154). -/
theorem deliver (h : PeersOk s) {n : Nat} (hn : stationOk n = true) (p : Payload) : PeersOk (s.deliver n p) := by
  have hall (hears : s.Hears n) : PeersOk (s.deliverAll n p) := by
    have hcount : PeersOk { s with choices := s.choices + 1 } := h.same
    unfold State.deliverAll
    dsimp only
    repeat' split
    · exact (hcount.peerTakes hears.same p).othersTake n p
    · exact (hcount.othersTake n p).peerTakes hears.same p
    · exact (h.peerTakes hears p).othersTake n p
  unfold State.deliver
  split
  · exact h
  · exact h
  · next hs =>
    split
    · exact h.enterFaulted _ _
    · next hown => exact hall ⟨by simp [hs], hn, hown⟩
  · next hs =>
    split
    · exact h.enterFaulted _ _
    · next hown => exact hall ⟨by simp [hs], hn, hown⟩
  · next hs =>
    split
    · exact h
    · next hown => exact h.peerTakes ⟨by simp [hs], hn, hown⟩ p

theorem finish (h : PeersOk s) : PeersOk s.finish := h.same

/-- A frame that ends at the receiver (R128, R138). -/
theorem receive (h : PeersOk s) (n : Nat) (p : Payload) : PeersOk (s.receive n p) := by
  have hline : PeersOk (s.setLine .notIdle) := h.same
  unfold State.receive
  split
  · split
    · next hvalid =>
      have ⟨hn, _⟩ := Bool.and_eq_true_iff.mp hvalid
      exact (hline.deliver hn p).finish
    · exact hline.same
  · exact h

/-- A frame that the checks discard (R139). -/
theorem discarded (h : PeersOk s) : PeersOk (if s.receiving then (s.setLine .notIdle).countBad else s) := by
  split
  · exact h.same
  · exact h

/-- An overlap, and the fault that a third one is (R130, R131). -/
theorem meetOverlap (h : PeersOk s) (e : QEntry) : PeersOk (s.meetOverlap e) := by
  have hline : PeersOk (s.setLine .notIdle) := h.same
  unfold State.meetOverlap
  dsimp only
  split
  · exact hline.enterFaulted _ _
  · exact hline.same ⟨rfl, id, rfl, rfl, rfl⟩

/-! ### Starts and the slots (R157 to R164) -/

/-- LOADING begins: the own station number is read while the lists are empty (R160). -/
theorem beginLoading (hlength : s.peers.board.length = 16) (h : s.peers.NoPeers) (straps : Straps) : PeersOk (s.beginLoading straps) := by
  have hloading (c : Control) : PeersOk { s with ctl := c } := of_noPeers hlength h
  unfold State.beginLoading
  dsimp only
  split
  · exact hloading _
  · exact (hloading _).enterFaulted _ _

/-- The lists at a start. -/
theorem noPeers_reset : PeerUnit.reset.NoPeers := ⟨rfl, fun _ hms => List.eq_of_mem_replicate hms, rfl⟩

theorem resetHeld (s : State) (delivered : Nat) : PeersOk (s.resetHeld delivered) := of_noPeers rfl noPeers_reset

theorem restart (s : State) (straps : Straps) : PeersOk (s.restart straps) := by
  refine beginLoading ?_ ?_ straps
  · rfl
  · exact noPeers_reset

/-- The station enters JOINING with its lists as they are (R164). -/
theorem enterJoining (h : PeersOk s) (slot : Slot) (img : Image) : PeersOk (s.enterJoining slot img) := by
  have hjoined : PeersOk (s.joined slot img) := h.same ⟨rfl, fun hj => (nomatch hj), rfl, rfl, rfl⟩
  rw [State.enterJoining_eq]
  exact hjoined.same

/-- A slot is judged (R161, R163). -/
theorem slotJudged (h : PeersOk s) (l : Load) (result : SlotResult) (img : Option Image) : PeersOk (s.slotJudged l result img) := by
  unfold State.slotJudged
  split
  · exact h.same ⟨rfl, id, rfl, rfl, rfl⟩
  · have hjudged : PeersOk { s with ctl := { s.ctl with slotB := result, load := none } } := h.same ⟨rfl, id, rfl, rfl, rfl⟩
    have hposted (k : NoticeKind) (i : Nat) (v : Option Int) :
        PeersOk (State.post { s with ctl := { s.ctl with slotB := result, load := none } } k i v) := hjudged.same
    unfold State.chooseImage
    repeat' split
    · exact hjudged.enterJoining _ _
    · exact hjudged.enterJoining _ _
    · exact (hposted ..).enterJoining _ _
    · exact (hposted ..).enterJoining _ _
    · exact hjudged.enterFaulted _ _
    all_goals exact hjudged

theorem slotAnswered (h : PeersOk s) (l : Load) (bytes : List Byte) (ended : Bool) : PeersOk (s.slotAnswered l bytes ended) := by
  unfold State.slotAnswered
  dsimp only
  split
  · exact h.slotJudged l _ _
  · exact h.same ⟨rfl, id, rfl, rfl, rfl⟩

/-! ### The service port -/

/-- The end of a transaction, and the RESTART that it may bring (R170, R175). -/
theorem endTransfer (h : PeersOk s) (straps : Straps) : PeersOk (s.endTransfer straps) := by
  unfold State.endTransfer
  split
  · dsimp only
    split
    · next action _ =>
      cases action with
      | restart => exact restart _ straps
      | select v => exact h.same ⟨rfl, id, rfl, rfl, rfl⟩
      | takeNotice => exact h.same ⟨rfl, id, rfl, rfl, rfl⟩
      | clearLatches => exact h.same ⟨rfl, id, rfl, rfl, rfl⟩
    · exact h.same ⟨rfl, id, rfl, rfl, rfl⟩
  · exact h

theorem bringBytes (h : PeersOk s) (bytes : List Byte) : PeersOk (s.bringBytes bytes) := h.same ⟨rfl, id, rfl, rfl, rfl⟩

/-- A whole write transaction. -/
theorem portWrite (h : PeersOk s) (straps : Straps) (bytes : List Byte) : PeersOk (s.portWrite straps bytes) := by
  unfold State.portWrite
  split
  · exact ((h.endTransfer _).bringBytes bytes).endTransfer straps
  · exact h

end PeersOk
end Sys2Proof.Machine
end

section
/-! Every step keeps the Peer Unit's lists (R116, R117, R120, R149 to R151). -/

open Sys2Proof Sys2Proof.Machine

namespace Sys2Proof.Machine

namespace PeersOk

/-- An expiry keeps what its effect keeps. -/
theorem onExpiry {s : State} (h : PeersOk s) (timer : Timer) (k : State → State) (hk : ∀ u : State, PeersOk u → PeersOk (k u)) :
    PeersOk (onExpiry timer k s) := by
  unfold Machine.onExpiry
  split
  · exact hk _ h.same
  · exact h
  · exact h

/-- An expiry of a timer whose effect leaves the lists. -/
theorem quietExpiry {s : State} (h : PeersOk s) (timer : Timer) (k : State → State) (hk : ∀ u : State, u.PeersKept (k u)) :
    PeersOk (Machine.onExpiry timer k s) := h.onExpiry timer k fun u hu => hu.same (hk u)

/-- Every command keeps the lists. -/
theorem exec {s t : State} (h : PeersOk s) (c : Instr) (he : exec c s = .next t) : PeersOk t := by
  cases c
  all_goals (injection he with he; subst he)
  -- Starts and slots
  case resetHeldEntry delivered => exact resetHeld s delivered
  case resetHeldEnd straps =>
    split
    · next hheld =>
      refine beginLoading ?_ ?_ straps
      · exact h.boardLength
      · exact h.held hheld
    all_goals exact h
  case memoryAnswerTimeout =>
    split
    · exact h
    · next l _ => exact h.onExpiry _ _ fun u hu => hu.slotJudged l _ _
  case slotReadComplete bytes status ended =>
    split
    · exact h
    · next l _ =>
      dsimp only
      generalize (if l.ready then l else l.queried status) = l'
      split
      · exact h.slotAnswered _ bytes ended
      · exact h.same ⟨rfl, id, rfl, rfl, rfl⟩
  case joinWindowExpiry =>
    have hroles (v : State) : (v.forRoles State.roleRuns).peers = v.peers ∧ (v.forRoles State.roleRuns).ctl = v.ctl :=
      ⟨State.forRoles_same (·.peers) _ v fun u r => by simp, State.forRoles_same (·.ctl) _ v fun u r => by simp⟩
    refine h.quietExpiry _ _ fun u => ?_
    constructor <;> simp [hroles]
  -- The roster and the board
  case boardRenewalExpiry g n =>
    split
    · exact h
    · exact (h.same (by constructor <;> simp)).dropMember n g
  case rosterSilent n =>
    repeat' split
    · exact h
    · exact h
    · exact h.same ⟨rfl, id, map_map_of_same _ _ _ fun e => by split <;> rfl, rfl, rfl⟩
  case rosterLoss n =>
    split
    · exact h
    · next e _ =>
      have hlate : PeersOk (s.until (e.heardAt + 30000)) := h.same
      have hposted := (hlate.leaveRoster n).same (State.peersKept_post _ .peerLost n (some (e.lastHeard : Int)))
      exact hposted.dropStation n
  -- Frames and the line
  case demandFrame n items => exact h.receive n _
  case statusFrame n content => exact h.receive n _
  case takeoverFrame n g e => exact h.receive n _
  case handbackFrame n g e => exact h.receive n _
  case yieldFrame n g e a l => exact h.receive n _
  case alertFrame n k i v => exact h.receive n _
  case badFrameReceived frame =>
    split
    · exact h.receive _ _
    · exact h.discarded
  case pulseError pulse =>
    split
    · split
      · exact h.meetOverlap _
      · exact h.discarded
    · exact h
  case overlap mismatch =>
    repeat' split
    · exact h.meetOverlap _
    · exact h
    · exact h
  -- The service port
  case restart | takeNotice | clearLatches | stationView | channelView | fanView | roleView | claimsView | groupviewView | rosterView
      | demandView | satboardView | noticeView | countsView => exact h.portWrite _ _
  case writeRefused address bytes ended =>
    dsimp only
    repeat' split
    · exact (h.bringBytes bytes).endTransfer _
    · exact h.bringBytes bytes
    · exact h.endTransfer _
  case readTransaction address count =>
    dsimp only
    split
    · exact (h.endTransfer _).same ⟨rfl, id, rfl, rfl, rfl⟩
    · exact h.endTransfer _
  -- The other commands leave the lists
  case roundComplete ms =>
    refine h.quietExpiry _ _ fun u => ?_
    dsimp only
    split <;> constructor <;> simp
  case claimExpiry | rampTimerExpiry =>
    refine h.same ?_
    repeat' split
    all_goals constructor <;> simp
  case joinGraceEnd | peakExpiry | tachMeasurement | stopDelayExpiry | spinUpExpiry | statusTimerExpiry | displacedHoldExpiry =>
    split
    · exact h
    · exact h.quietExpiry _ _ fun u => by constructor <;> simp
  case criticalAlertRepeatExpiry =>
    split
    · exact h
    · refine h.quietExpiry _ _ fun u => ?_
      dsimp only
      split <;> constructor <;> simp
  case silenceTimerExpiry | otherSilenceExpiry | handbackWaitExpiry =>
    split
    · exact h
    · refine h.quietExpiry _ _ fun u => ?_
      repeat' split
      all_goals constructor <;> simp
  case refreshTimerExpiry =>
    refine h.quietExpiry _ _ fun u => ?_
    dsimp only
    split <;> constructor <;> simp
  case saturationAlertRepeatExpiry g =>
    repeat' split
    · exact h
    · exact h
    · refine h.quietExpiry _ _ fun u => ?_
      dsimp only
      split <;> constructor <;> simp
  case linkSilenceExpiry =>
    refine h.quietExpiry _ _ fun u => ?_
    repeat' split
    · exact ⟨rfl, id, rfl, rfl, rfl⟩
    · constructor <;> simp [State.isolate_peers]
    · exact .refl u
  case viewStale | lineStuck | contentionLoss | startMark =>
    refine h.same ?_
    repeat' split
    all_goals exact ⟨rfl, id, rfl, rfl, rfl⟩
  case lineIdle peerFirst =>
    refine h.same ?_
    repeat' split
    all_goals constructor <;> simp
  case frameTransmitted =>
    refine h.same ?_
    split
    · exact .refl s
    · constructor <;> simp

end PeersOk
end Sys2Proof.Machine

/-- Settles O11: frames alone add a station, each one that is heard and not listed; only a start reads another own number. -/
theorem stepKeepsPeers : Obligations.StepKeepsPeers := by
  intro s t hs h
  unfold step at h
  split at h
  · injection h with h
    exact h ▸ hs.same ⟨rfl, id, rfl, rfl, rfl⟩
  · next c rest _ =>
    have hrest : PeersOk { s with pending := rest } := hs.same ⟨rfl, id, rfl, rfl, rfl⟩
    exact hrest.exec c h

end

section
/-! SUPPORT. The beginning of an isolation at the drives, the role records and the transmit queue (R43, R69, R153). -/

namespace Sys2Proof.Machine

/-! ### The drives (R43) -/

@[simp] theorem Drive.flushed_causes (now : Nat) (d : Drive) : (d.flushed now).causes = d.causes := by
  unfold Drive.flushed; repeat' split
  all_goals rfl

/-- A drive at the beginning of an isolation: ISOLATED joins its causes, a driven one that was not in FAILSAFE is in it at 100, and a
released one stays released (R43). -/
structure Drive.FailsSafe (old new : Drive) : Prop where
  isolated : new.causes.isolated = true
  driven : old.causes.isolated = false → old.state ≠ .released → old.state ≠ .failsafe → new.state = .failsafe ∧ new.level = 100
  released : old.state = .released → new.state = .released

theorem Drive.setCauses_failsSafe (now : Nat) (cfg : RoleCfg) (d : Drive) :
    d.FailsSafe (d.setCauses now cfg { d.causes with isolated := true }) := by
  refine ⟨by simp, fun hnew hdriven hfree => ?_, (Drive.setCauses_released _ _ _ _).mpr⟩
  have hchange : { d.causes with isolated := true } ≠ d.causes := fun he => by simpa [hnew] using congrArg Causes.isolated he
  obtain ⟨-, henters, -⟩ := d.setCauses_taken now cfg { d.causes with isolated := true }
  rw [henters (by simpa using hchange) hdriven hfree (by simp [Causes.empty])]
  exact ⟨rfl, rfl⟩

/-- A condition that the channels then give changes nothing of that (R31). -/
theorem Drive.FailsSafe.takeCondition {old new : Drive} (h : old.FailsSafe new) (now : Nat) (cfg : RoleCfg) (c : Condition) :
    old.FailsSafe (new.takeCondition now cfg c) := by
  refine ⟨by simpa using h.isolated, fun hnew hdriven hfree => ?_, fun hr => ?_⟩
  · obtain ⟨hstate, hlevel⟩ := h.driven hnew hdriven hfree
    obtain ⟨hstays, -, -⟩ := Drive.setCauses_taken now cfg { new.causes with groupFailed := c == Condition.failed }
      { new with condition := c, statusDue := true }
    rw [Drive.takeCondition, hstays (.inr (.inr ⟨hstate, by simp [Causes.empty, h.isolated]⟩))]
    exact ⟨hstate, hlevel⟩
  · exact (Drive.setCauses_released _ _ _ _).mpr (h.released hr)

/-! ### The role records (R69) -/

/-- A role record whose timers stand frozen. -/
def Ship.frozen (now : Nat) (sh : Ship) : Ship :=
  { sh with silence := sh.silence.freeze now, otherSilence := sh.otherSilence.freeze now, wait := sh.wait.freeze now }

/-- A role record at the beginning of an isolation: its timers stand frozen, and a TAKEOVER that is not on the wire is given up, in
CLAIMING for WATCH, in RECLAIM with the forcing mark and the attempt count. -/
def Ship.isolated (now takeoverMs : Nat) (onWire : Bool) (sh : Ship) : Ship :=
  if sh.machine = .claiming ∧ onWire = false then { sh.frozen now with machine := .watch, silence := .frozen takeoverMs }
  else if sh.machine = .reclaim ∧ sh.forcing ≠ .clear ∧ onWire = false then { sh.frozen now with forcing := .clear, attempts := 0 }
  else sh.frozen now

namespace Ship

variable (now ms : Nat) (onWire : Bool) (sh : Ship)

/-- The other-silence timer and the handback wait stand frozen in every case. -/
theorem isolated_timers : (sh.isolated now ms onWire).otherSilence = sh.otherSilence.freeze now
    ∧ (sh.isolated now ms onWire).wait = sh.wait.freeze now := by
  unfold isolated
  repeat' split
  all_goals exact ⟨rfl, rfl⟩

/-- A role that gives no claim up stays in its state, with its silence timer frozen. -/
theorem isolated_goesOn (h : ¬(sh.machine = .claiming ∧ onWire = false)) :
    (sh.isolated now ms onWire).machine = sh.machine ∧ (sh.isolated now ms onWire).silence = sh.silence.freeze now := by
  unfold isolated
  rw [if_neg h]
  split <;> exact ⟨rfl, rfl⟩

/-- A standby that gives its claim up goes back to WATCH with a full silence time. -/
theorem isolated_claiming (hm : sh.machine = .claiming) :
    (sh.isolated now ms false).machine = .watch ∧ (sh.isolated now ms false).silence = .frozen ms := by
  simp [isolated, hm]

/-- A primary that gives its forced TAKEOVER up is no longer forcing. -/
theorem isolated_forcing (hm : sh.machine = .reclaim) (hf : sh.forcing ≠ .clear) :
    (sh.isolated now ms false).forcing = .clear ∧ (sh.isolated now ms false).attempts = 0 := by
  simp [isolated, hm, hf]

end Ship

namespace State

theorem waits_eq_false_iff (s : State) (k : FrameKind) (g : Nat) :
    s.waits k g = false ↔ ∀ x ∈ s.txq, x.onWire = false → x.isFor k g = false := by
  simp [waits]

/-- A withdrawal leaves what is on the wire (R145). -/
theorem withdraw_onWireFor (s : State) (k k' : FrameKind) (g g' : Nat) : (s.withdraw k g).onWireFor k' g' = s.onWireFor k' g' := by
  simp only [onWireFor, withdraw, List.any_filter]
  refine congrArg s.txq.any (funext fun x => ?_)
  cases x.onWire <;> simp

/-- The beginning of an isolation at one role, its TAKEOVER given up or not. -/
theorem roleIsolated_eq (s : State) (r : Nat) (role : Role) (h : s.roles[r]? = some role) (hi : s.peers.isolated = true) :
    s.roleIsolated r =
      (if s.onWireFor .takeover role.cfg.group = false ∧ (role.ship.machine = .claiming ∨ role.ship.machine = .reclaim ∧ role.ship.forcing ≠ .clear)
        then s.withdraw .takeover role.cfg.group else s).modShip r
        (fun sh => sh.isolated s.now s.takeoverMs (s.onWireFor .takeover role.cfg.group)) := by
  have hship (u : State) (hu : u.roles = s.roles) (f : Ship → Ship)
      (hf : f role.ship = role.ship.isolated s.now s.takeoverMs (s.onWireFor .takeover role.cfg.group)) :
      u.modShip r f = u.modShip r (fun sh => sh.isolated s.now s.takeoverMs (s.onWireFor .takeover role.cfg.group)) := by
    unfold modShip modRole
    rw [modify_congr_get]
    intro x hx
    obtain rfl := Option.some.inj ((hu ▸ h).symm.trans hx)
    rw [hf]
  unfold roleIsolated
  rw [h]
  dsimp only
  split
  · next hclaims =>
    obtain ⟨hm, hw⟩ := hclaims
    rw [if_pos ⟨hw, .inl hm⟩, enterWatch, modShip_modShip, modShip_withdraw]
    refine hship (s.withdraw .takeover role.cfg.group) rfl _ ?_
    simp [Ship.isolated, hm, hw, startFreezable, hi, Ship.frozen, takeoverMs]
  · next hclaims =>
    split
    · next hforces =>
      obtain ⟨hm, hf, hw⟩ := hforces
      rw [if_pos ⟨hw, .inr ⟨hm, hf⟩⟩, modShip_withdraw, modShip_modShip]
      refine hship (s.withdraw .takeover role.cfg.group) rfl _ ?_
      simp [Ship.isolated, hm, hw, hf, Ship.frozen]
    · next hforces =>
      rw [if_neg (by tauto)]
      refine hship s rfl _ ?_
      rw [Ship.isolated, if_neg hclaims, if_neg hforces]
      rfl

theorem roleIsolated_none (s : State) (r : Nat) (h : s.roles[r]? = none) : s.roleIsolated r = s := by simp [roleIsolated, h]

/-- The role's record alone changes (R69). -/
theorem roleIsolated_get_self (s : State) (r : Nat) (role : Role) (h : s.roles[r]? = some role) (hi : s.peers.isolated = true) :
    (s.roleIsolated r).roles[r]? =
      some { role with ship := role.ship.isolated s.now s.takeoverMs (s.onWireFor .takeover role.cfg.group) } := by
  rw [roleIsolated_eq s r role h hi]
  refine modShip_get _ r _ role ?_
  split <;> exact h

theorem roleIsolated_get_other (s : State) (r q : Nat) (h : q ≠ r) : (s.roleIsolated r).roles[q]? = s.roles[q]? := by
  unfold roleIsolated
  dsimp only
  repeat' split
  all_goals simp [enterWatch, Ne.symm h]

theorem roleIsolated_length (s : State) (r : Nat) : (s.roleIsolated r).roles.length = s.roles.length := by
  unfold roleIsolated
  dsimp only
  repeat' split
  all_goals simp [enterWatch]

/-- Of the transmit queue waiting TAKEOVER frames of the role's group are withdrawn, or nothing. -/
theorem roleIsolated_txq (s : State) (r : Nat) :
    (s.roleIsolated r).txq = s.txq ∨ ∃ g, (s.roleIsolated r).txq = (s.withdraw .takeover g).txq := by
  unfold roleIsolated
  dsimp only
  repeat' split
  · exact .inl rfl
  · exact .inr ⟨_, rfl⟩
  · exact .inr ⟨_, rfl⟩
  · exact .inl rfl

theorem roleIsolated_sublist (s : State) (r : Nat) : (s.roleIsolated r).txq.Sublist s.txq := by
  rcases s.roleIsolated_txq r with h | ⟨g, h⟩ <;> rw [h]
  exact List.filter_sublist

theorem roleIsolated_onWireFor (s : State) (r : Nat) (k : FrameKind) (g : Nat) : (s.roleIsolated r).onWireFor k g = s.onWireFor k g := by
  rcases s.roleIsolated_txq r with h | ⟨g', h⟩
  · rw [onWireFor, h, onWireFor]
  · rw [onWireFor, h]
    exact s.withdraw_onWireFor .takeover k g' g

/-- No frame begins to wait. -/
theorem roleIsolated_waits (s : State) (r : Nat) (k : FrameKind) (g : Nat) (h : s.waits k g = false) :
    (s.roleIsolated r).waits k g = false := by
  rw [waits_eq_false_iff] at h ⊢
  exact fun x hx => h x ((s.roleIsolated_sublist r).subset hx)

/-- A role that gives its TAKEOVER up has none waiting (R69). -/
theorem roleIsolated_givesUp (s : State) (r : Nat) (role : Role) (h : s.roles[r]? = some role) (hi : s.peers.isolated = true)
    (hw : s.onWireFor .takeover role.cfg.group = false)
    (hm : role.ship.machine = .claiming ∨ role.ship.machine = .reclaim ∧ role.ship.forcing ≠ .clear) :
    (s.roleIsolated r).waits .takeover role.cfg.group = false := by
  rw [roleIsolated_eq s r role h hi, if_pos ⟨hw, hm⟩, waits_eq_false_iff]
  exact s.withdraw_removes .takeover role.cfg.group

/-! ### A change of causes at every role -/

/-- A role after a change of all sets of causes: its drive has taken it, and then a new condition where its channels give one (R31). -/
theorem setCausesAll_get (s : State) (r : Nat) (role : Role) (f : Causes → Causes) (h : s.roles[r]? = some role) :
    ∃ d, (s.setCausesAll f).roles[r]? = some { role with drive := d }
      ∧ (d = role.drive.setCauses s.now role.cfg (f role.drive.causes)
        ∨ ∃ c, d = (role.drive.setCauses s.now role.cfg (f role.drive.causes)).takeCondition s.now role.cfg c) := by
  obtain ⟨u, hnow, hu, he⟩ := forRoles_get (fun u => u.now = s.now)
    (fun s r => s.driveEvent r (fun cfg d => d.setCauses s.now cfg (f d.causes)))
    (fun v r q hne => driveEvent_get_other v r q _ hne) (fun v r hv => by simpa using hv) s rfl r (List.getElem?_eq_some_iff.mp h).1
  refine ⟨_, he.trans (driveEvent_get_self u r _ role (hu.trans h)), ?_⟩
  rw [hnow]
  dsimp only
  split
  · exact .inl rfl
  · exact .inr ⟨_, rfl⟩

/-- The roles after a change of all sets of causes are as many as before. -/
theorem setCausesAll_length (s : State) (f : Causes → Causes) : (s.setCausesAll f).roles.length = s.roles.length :=
  forRoles_same (·.roles.length) _ s fun u x => driveEvent_length u x _

end State

/-! ### The whole station (R153) -/

/-- A role after an isolation has begun: its drive is in FAILSAFE or stays released, its timers stand frozen, and it has given a waiting
TAKEOVER up. -/
structure State.RoleIsolated (s t : State) (r : Nat) (role : Role) : Prop where
  get : ∃ d, t.roles[r]? = some { role with
      drive := d, ship := role.ship.isolated s.now s.takeoverMs (s.onWireFor .takeover role.cfg.group) } ∧ role.drive.FailsSafe d
  givesUp : s.onWireFor .takeover role.cfg.group = false →
    role.ship.machine = .claiming ∨ role.ship.machine = .reclaim ∧ role.ship.forcing ≠ .clear → t.waits .takeover role.cfg.group = false

namespace State

/-- The station that is ISOLATED, with the cause in every role's set, before its role records are frozen. -/
def isolationCaused (s : State) : State :=
  (({ s with peers := { s.peers with isolated := true, isolatedAt := s.now, linkTimer := .stopped } } : State).post
    .isolated 0 (some s.peers.lastSender)).setCausesAll (fun c => { c with isolated := true })

theorem isolate_eq (s : State) : s.isolate = s.isolationCaused.forRoles roleIsolated := rfl

theorem isolationCaused_kept (s : State) :
    s.isolationCaused.peers.isolated = true ∧ s.isolationCaused.now = s.now ∧ s.isolationCaused.timing = s.timing
      ∧ s.isolationCaused.txq = s.txq ∧ s.isolationCaused.roles.length = s.roles.length
      ∧ s.isolationCaused.notices = s.notices.push s.timeBase .isolated 0 (some (s.peers.lastSender : Int)) := by
  refine ⟨?_, ?_, ?_, ?_, ?_, ?_⟩
  · simp [isolationCaused]
  · simp [isolationCaused]
  · simp [isolationCaused]
  · simp [isolationCaused]
  · exact setCausesAll_length _ _
  · simp [isolationCaused, post, timeBase]

theorem isolate_role (s : State) (r : Nat) (role : Role) (h : s.roles[r]? = some role) : s.RoleIsolated s.isolate r role := by
  obtain ⟨hisolated, hnow, htiming, htxq, -, -⟩ := s.isolationCaused_kept
  obtain ⟨d, hd, htaken⟩ : ∃ d, s.isolationCaused.roles[r]? = some { role with drive := d } ∧ role.drive.FailsSafe d := by
    obtain ⟨d, hget, hcases⟩ := setCausesAll_get
      (({ s with peers := { s.peers with isolated := true, isolatedAt := s.now, linkTimer := .stopped } } : State).post
        .isolated 0 (some s.peers.lastSender)) r role (fun c => { c with isolated := true }) h
    refine ⟨d, hget, ?_⟩
    rcases hcases with rfl | ⟨c, rfl⟩
    · exact Drive.setCauses_failsSafe ..
    · exact (Drive.setCauses_failsSafe ..).takeCondition ..
  obtain ⟨before, after, he, hb, ha, -⟩ := forRoles_split roleIsolated s.isolationCaused r (List.getElem?_eq_some_iff.mp hd).1
  obtain ⟨hui, hun, hut, huw, hur⟩ := foldl_keeps_beside (fun u => u.peers.isolated = true ∧ u.now = s.now ∧ u.takeoverMs = s.takeoverMs
      ∧ u.onWireFor .takeover role.cfg.group = s.onWireFor .takeover role.cfg.group ∧ u.roles[r]? = some { role with drive := d })
    roleIsolated r (fun u q hq ⟨hui, hun, hut, huw, hur⟩ => ⟨by simpa using hui, by simpa using hun, by simpa [takeoverMs] using hut,
      (u.roleIsolated_onWireFor q _ _).trans huw, (u.roleIsolated_get_other q r hq.symm).trans hur⟩) before hb s.isolationCaused
    ⟨hisolated, hnow, by rw [takeoverMs, htiming, takeoverMs], by rw [onWireFor, htxq, onWireFor], hd⟩
  rw [← isolate_eq] at he
  generalize before.foldl roleIsolated s.isolationCaused = u at *
  have hself := u.roleIsolated_get_self r _ hur hui
  rw [hun, hut, huw] at hself
  refine ⟨⟨d, ?_, htaken⟩, fun hw hm => ?_⟩
  · rw [he, foldl_get_other roleIsolated roleIsolated_get_other r after ha]
    exact hself
  · rw [he]
    exact foldl_keeps (fun v => v.waits .takeover role.cfg.group = false) roleIsolated after _
      (fun v q hv => v.roleIsolated_waits q _ _ hv) (u.roleIsolated_givesUp r { role with drive := d } hur hui (huw.trans hw) hm)

/-- The beginning of an isolation offers nothing. -/
theorem isolate_sublist (s : State) : s.isolate.txq.Sublist s.txq := by
  obtain ⟨-, -, -, htxq, -, -⟩ := s.isolationCaused_kept
  rw [isolate_eq]
  exact forRoles_keeps (fun u => u.txq.Sublist s.txq) roleIsolated _ (fun u r hu => (u.roleIsolated_sublist r).trans hu) (by rw [htxq])

/-- Its notice is ISOLATED (R153). -/
theorem isolate_notices (s : State) :
    s.isolate.notices = s.notices.push s.timeBase .isolated 0 (some (s.peers.lastSender : Int)) := by
  obtain ⟨-, -, -, -, -, hnotices⟩ := s.isolationCaused_kept
  exact (forRoles_same (·.notices) roleIsolated _ fun u r => by simp).trans hnotices

theorem isolate_length (s : State) : s.isolate.roles.length = s.roles.length := by
  obtain ⟨-, -, -, -, hlength, -⟩ := s.isolationCaused_kept
  exact (forRoles_same (·.roles.length) roleIsolated _ roleIsolated_length).trans hlength

end State
end Sys2Proof.Machine
end

section
/-! SUPPORT. Frames of one kind that do not wait, at the end of an event (R45, R124, R143, R144). -/

namespace Sys2Proof.Machine

/-- A frame that waits after the head has been marked waited before. -/
theorem markHead_waiting (q : List QEntry) (x : QEntry) (hx : x ∈ markHead q) (hw : x.onWire = false) : x ∈ q := by
  induction q with
  | nil => exact hx
  | cons e es ih =>
    unfold markHead at hx
    split at hx
    · rcases List.mem_cons.mp hx with rfl | hx
      · exact List.mem_cons_self
      · exact List.mem_cons_of_mem _ (ih hx)
    · rcases List.mem_cons.mp hx with rfl | hx
      · exact nomatch hw
      · exact List.mem_cons_of_mem _ hx

namespace State

/-- An offered frame, in a queue with room, begins to wait as no frame of another kind. -/
theorem offer_waits (s : State) (p : Payload) (hl : s.txq.length < 8) (k : FrameKind) (g : Nat) (hk : payloadKind p ≠ k)
    (h : s.waits k g = false) : (s.offer p).waits k g = false := by
  rw [waits_eq_false_iff] at h ⊢
  intro x hx hw
  cases ht : s.transmits with
  | false => exact h x (s.offer_off p ht ▸ hx) hw
  | true =>
    cases hc : s.txq.any (coalesces p) with
    | true =>
      rw [offer_coalesce s p ht hc] at hx
      obtain ⟨y, hy, rfl⟩ := List.mem_map.mp hx
      unfold coalesce at hw ⊢
      split
      · next hcoalesces =>
        rw [if_pos hcoalesces] at hw
        split
        · next hy' =>
          rw [if_pos hy'] at hw
          split at hw <;> exact absurd hw (by simp [hy'])
        · simp [QEntry.isFor, hk]
      · next hcoalesces => exact h y hy (by simpa [hcoalesces] using hw)
    | false =>
      rw [offer_room s p ht hc hl] at hx
      have hmem : x ∈ insertEntry ⟨p, s.stamp, 0, false, none⟩ s.txq := by
        unfold enter startHead at hx
        split at hx
        · exact markHead_waiting _ x hx hw
        · exact hx
      rcases (insertEntry_mem _ _ _).mp hmem with rfl | hx
      · simp [QEntry.isFor, hk]
      · exact h x hx hw

/-- No frame but a STATUS begins to wait at the end of an event with room. -/
theorem finish_waits (s : State) (k : FrameKind) (g : Nat) (hk : .status ≠ k) (hl : s.txq.length + s.roles.length ≤ 8)
    (h : s.waits k g = false) : s.finish.waits k g = false := by
  refine flushes_keep (fun u => u.waits k g = false) _ s (by simpa using hl) (fun u q _ hroom hu => ?_) h
  cases hq : u.roles[q]? with
  | none => rwa [flushRole_none u q hq]
  | some role =>
    rw [flushRole_eq u q role hq]
    split
    · exact offer_waits (u.modDrive q (Drive.flushed u.now)) _ hroom k g hk hu
    · exact hu

end State
end Sys2Proof.Machine
end

section
/-! The link silence timer's expiry (R43, R69, R152, R153). -/

open Sys2Proof Sys2Proof.Machine

namespace Sys2Proof.Machine

/-- The link silence timer of a station that is not solitary runs out in RUNNING: the isolation begins, and the event ends (R153). -/
theorem exec_linkSilence_isolates (s : State) (due : Nat) (h : s.peers.linkTimer = .running due) (hsolitary : s.solitary = false)
    (hrunning : s.ctl.state = .running) (hconnected : s.peers.isolated = false) :
    exec .linkSilenceExpiry s = .next (s.until due).isolate.finish := by
  show execLinkSilenceExpiry s = _
  have hlate : (s.until due).solitary = false := hsolitary
  simp [execLinkSilenceExpiry, onExpiry, h, hlate, hrunning, hconnected]

end Sys2Proof.Machine

/-- Settles O52: an isolation begins at each role by `State.isolate_role`, and the end of the event changes of that the drives' reporting
alone. -/
theorem isolationBegins : Obligations.IsolationBegins := by
  intro s due hdue
  refine ⟨fun hsolitary => ?_, fun hsolitary hrunning hconnected _ _ hroom => ?_⟩
  · show execLinkSilenceExpiry s = _
    have hlate : (s.until due).solitary = true := hsolitary
    simp only [execLinkSilenceExpiry, onExpiry, hdue, hlate, if_true]
    rfl
  · let u := s.until due
    have hlength := u.isolate_sublist.length_le
    have hroles := u.isolate_length
    have hends : u.isolate.txq.length + u.isolate.roles.length ≤ 8 := by
      rw [hroles]
      exact (Nat.add_le_add_right hlength _).trans hroom
    refine ⟨u.isolate.finish, exec_linkSilence_isolates s due hdue hsolitary hrunning hconnected, by simp [u],
      by simp [u, State.isolate_peers], ?_, fun r role hr => ?_, by simp [u], by simp [u], by simp [u], by simp [u]⟩
    · exact (State.finish_notices _ hends).trans u.isolate_notices
    · obtain ⟨⟨d, hget, htaken⟩, hgivesUp⟩ := u.isolate_role r role hr
      have hwaits (hw : s.onWireFor .takeover role.cfg.group = false)
          (hm : role.ship.machine = .claiming ∨ role.ship.machine = .reclaim ∧ role.ship.forcing ≠ .clear) :
          u.isolate.finish.waits .takeover role.cfg.group = false :=
        State.finish_waits _ _ _ nofun hends (hgivesUp hw hm)
      refine ⟨_, State.finish_get _ r _ hget, ?_, rfl, fun hnew hdriven hfree => ?_, fun hreleased => ?_, ?_, ?_, fun hgoesOn => ?_,
        fun hm hw => ⟨?_, ?_, hwaits hw (.inl hm)⟩, fun hm hf hw => ⟨?_, ?_, hwaits hw (.inr ⟨hm, hf⟩)⟩⟩
      · simpa using htaken.isolated
      · simpa using htaken.driven hnew hdriven hfree
      · simpa using htaken.released hreleased
      · exact (Ship.isolated_timers ..).1
      · exact (Ship.isolated_timers ..).2
      · exact Ship.isolated_goesOn _ _ _ _ hgoesOn
      all_goals
        dsimp only
        rw [show u.onWireFor .takeover role.cfg.group = false from hw]
      · exact (Ship.isolated_claiming _ _ _ hm).1
      · exact (Ship.isolated_claiming _ _ _ hm).2
      · exact (Ship.isolated_forcing _ _ _ hm hf).1
      · exact (Ship.isolated_forcing _ _ _ hm hf).2

end

section
/-! SUPPORT. Out of isolation no role has the cause ISOLATED (R42, R154): every event keeps that. -/

namespace Sys2Proof.Machine

/-- A role's set of causes without ISOLATED. -/
def Role.Connected (role : Role) : Prop := role.drive.causes.isolated = false

theorem Role.conditionFree_connected : ConditionFree Role.Connected := by
  intro role now c h
  simpa [Role.Connected] using h

/-- While the station is not ISOLATED no role has the cause. -/
def State.CauseGone (s : State) : Prop := s.peers.isolated = false → ∀ role ∈ s.roles, role.Connected

namespace State.CauseGone

variable {s t : State}

/-- Each role's cause is that of some role before, or it has none. -/
theorem of_roles (h : s.CauseGone) (hi : t.peers.isolated = s.peers.isolated)
    (hr : ∀ role ∈ t.roles, role.Connected ∨ ∃ old ∈ s.roles, role.drive.causes.isolated = old.drive.causes.isolated) : t.CauseGone := by
  intro hconnected role hrole
  rcases hr role hrole with hgone | ⟨old, hold, he⟩
  · exact hgone
  · exact he.trans (h (hi ▸ hconnected) old hold)

theorem modShip (h : s.CauseGone) (r : Nat) (f : Ship → Ship) : (s.modShip r f).CauseGone := by
  refine h.of_roles rfl (forall_mem_of_get r (fun q x hne hx => ?_) fun x hx => ?_)
  · exact .inr ⟨x, List.mem_of_getElem? (i := q) (by simpa [Ne.symm hne] using hx), rfl⟩
  · obtain ⟨role, hr, rfl⟩ : ∃ role, s.roles[r]? = some role ∧ { role with ship := f role.ship } = x := by simpa using hx
    exact .inr ⟨role, List.mem_of_getElem? hr, rfl⟩

/-- An event of one drive that keeps the cause. -/
theorem driveEvent (h : s.CauseGone) (r : Nat) (f : RoleCfg → Drive → Drive)
    (hf : ∀ role, s.roles[r]? = some role → (f role.cfg role.drive).causes.isolated = role.drive.causes.isolated) :
    (s.driveEvent r f).CauseGone := by
  intro hi
  have hroles := h (by simpa using hi)
  exact driveEvent_roles Role.conditionFree_connected s r f (fun q role _ hq => hroles role (List.mem_of_getElem? hq)) fun role hr =>
    (hf role hr).trans (hroles role (List.mem_of_getElem? hr))

/-- A change of causes that keeps the cause. -/
theorem setCausesAll (h : s.CauseGone) (f : Causes → Causes) (hf : ∀ c, (f c).isolated = c.isolated) : (s.setCausesAll f).CauseGone := by
  intro hi
  have hroles := h (by simpa using hi)
  exact setCausesAll_roles Role.conditionFree_connected s f fun role hr now => by
    simpa [Role.Connected, hf] using hroles role hr

/-- The beginning or the end of an isolation: the cause is set as the station stands (R43, R44). -/
theorem linked (s : State) : (s.setCausesAll (fun c => { c with isolated := s.peers.isolated })).CauseGone := by
  intro hi
  have hconnected : s.peers.isolated = false := by simpa using hi
  exact setCausesAll_roles Role.conditionFree_connected s _ fun role _ now => by simp [Role.Connected, hconnected]

theorem enterFaulted (h : s.CauseGone) (cause : Cause) (item : Nat) : (s.enterFaulted cause item).CauseGone := by
  have hstops (u : State) : (u.forRoles State.stopActing).peers = u.peers := forRoles_same (·.peers) _ u fun v r => by simp
  refine h.of_roles (by simp [State.enterFaulted, blocksFault, hstops]) fun role hr => ?_
  obtain ⟨old, hold, rfl⟩ := enterFaulted_role s cause item role hr
  exact .inr ⟨old, hold, rfl⟩

theorem of_noRoles (h : s.roles = []) : s.CauseGone := fun _ role hr => by simp [h] at hr

/-- LOADING begins with the roles as they are (R160). -/
theorem beginLoading (h : s.CauseGone) (straps : Straps) : (s.beginLoading straps).CauseGone := by
  have hloading (c : Control) : State.CauseGone { s with ctl := c } := h
  unfold State.beginLoading
  dsimp only
  split
  · exact hloading _
  · exact (hloading _).enterFaulted _ _

end State.CauseGone

/-- Every event that acts on the drives keeps it. -/
theorem driveInvariant_causeGone : DriveInvariant State.CauseGone where
  same {s t} h hk := by
    refine h.of_roles hk.isolated fun role hr => ?_
    obtain ⟨old, hold, -, -, hdrive⟩ := hk.role_mem role hr
    have hcauses := congrArg Drive.causes hdrive
    exact .inr ⟨old, hold, congrArg Causes.isolated hcauses⟩
  ship r f _ h := h.modShip r f
  starts r level f _ h := (h.modShip r f).driveEvent r _ fun _ _ => by simp
  stops r f _ h := (h.modShip r f).driveEvent r _ fun _ _ => rfl
  event r f hf h := h.driveEvent r f fun role hr => by rw [(hf role hr).causes]
  fan {s} i f edges _ h := by
    intro hi
    have hroles := h (by simpa using hi)
    unfold State.measureFan
    dsimp only
    repeat' split
    · exact State.judgeGroup_roles Role.conditionFree_connected _ _ (by simpa using hroles)
    · simpa using hroles
    · exact hroles
  calm _ _ _ _ _ _ h := h
  alarm {s t} i c m _ _ _ hk h := by
    refine State.CauseGone.setCausesAll (h.of_roles hk.isolated fun role hr => ?_) _ fun _ => rfl
    obtain ⟨old, hold, -, -, hdrive⟩ := hk.role_mem role hr
    have hcauses := congrArg Drive.causes hdrive
    exact .inr ⟨old, hold, congrArg Causes.isolated hcauses⟩
  link {s t} isolated _ hk _ := by
    have hmarked : t.peers.isolated = isolated := hk.isolated
    exact hmarked ▸ State.CauseGone.linked t
  latches h := h
  fault cause item h := h.enterFaulted cause item
  runs _ h := h
  reads _ _ _ _ _ _ h := h
  unloads _ _ _ h := h
  joins {s t} l slot img _ _ _ _ := by
    intro _ role hr
    obtain ⟨cfg, -, rfl⟩ := List.mem_map.mp hr
    rfl
  held _ _ := fun _ role hr => nomatch hr
  begins {s} startAt straps _ h := by
    have hstarted : State.CauseGone { s with ctl := { s.ctl with state := .loading, startAt := startAt } } := h
    exact hstarted.beginLoading straps
  restart {s} straps _ := by
    refine State.CauseGone.beginLoading (State.CauseGone.of_noRoles ?_) straps
    rfl

end Sys2Proof.Machine
end

section
/-! SUPPORT. A frame of a peer at the Peer Unit's roster and link silence timer (R150, R152, R154), and what the other blocks leave beside
their own records (R51, R8). -/

namespace Sys2Proof.Machine

namespace State

/-- The roster after a frame of a station (R150). -/
def rosterAfter (s : State) (n : Nat) : List RosterEntry :=
  if s.peers.roster.any (fun x => x.station == n) = true then rosterRenewed s.peers.roster n s.timeBase s.now
  else rosterAppended s.peers.roster n s.timeBase s.now

/-- The notices after a frame of a station: PEER_JOINED for a new one (R150). -/
def noticesAfter (s : State) (n : Nat) (k : FrameKind) : Notices :=
  if s.peers.roster.any (fun x => x.station == n) = true then s.notices
  else s.notices.push s.timeBase .peerJoined n (some (kindCode k : Int))

theorem rosterTakes_eq (s : State) (n : Nat) (k : FrameKind) :
    s.rosterTakes n k = { s with
      peers := { s.peers with roster := s.rosterAfter n, lastSender := n }, notices := s.noticesAfter n k } := by
  unfold rosterTakes rosterAfter noticesAfter
  split <;> rfl

/-- The content of a frame leaves the roster and what the link silence timer acts on. -/
theorem peerContent_heard (s : State) (n : Nat) (p : Payload) :
    (s.peerContent n p).peers.roster = s.peers.roster ∧ (s.peerContent n p).peers.lastSender = s.peers.lastSender
      ∧ (s.peerContent n p).peers.linkTimer = s.peers.linkTimer ∧ (s.peerContent n p).peers.isolated = s.peers.isolated := by
  unfold peerContent takeView takeCritical takeSaturation dropMember modBoard
  dsimp only
  repeat' split
  all_goals exact ⟨rfl, rfl, rfl, rfl⟩

/-- The roster holds the sender, the link silence timer runs anew, and the station is not ISOLATED (R150, R152, R154). -/
structure HeardFrom (s t : State) (n : Nat) : Prop where
  roster : t.peers.roster = s.rosterAfter n
  lastSender : t.peers.lastSender = n
  linkTimer : t.peers.linkTimer = .running (s.now + s.isolationMs)
  isolated : t.peers.isolated = false

theorem HeardFrom.congr {s t t' : State} {n : Nat} (h : s.HeardFrom t n) (hp : t'.peers = t.peers) : s.HeardFrom t' n := by
  obtain ⟨hroster, hsender, htimer, hisolated⟩ := h
  exact ⟨hp ▸ hroster, hp ▸ hsender, hp ▸ htimer, hp ▸ hisolated⟩

/-- The Peer Unit takes a frame in JOINING or RUNNING. -/
theorem peerTakes_heard (s : State) (n : Nat) (p : Payload) (ht : s.transmits = true) : s.HeardFrom (s.peerTakes n p) n := by
  obtain ⟨hroster, hsender, htimer, hisolated⟩ := ((s.rosterTakes n (payloadKind p)).linkTakes n).peerContent_heard n p
  have hpeers := (s.rosterTakes n (payloadKind p)).linkTakes_peers n ((transmits_of_ctl (by simp)).trans ht)
  rw [hpeers] at hroster hsender htimer hisolated
  have htiming : (s.rosterTakes n (payloadKind p)).isolationMs = s.isolationMs := by simp [isolationMs]
  refine ⟨hroster.trans ?_, hsender.trans ?_, htimer.trans ?_, hisolated⟩
  · rw [rosterTakes_eq]
  · rw [rosterTakes_eq]
  · simp [htiming]

/-! ### What the other blocks leave -/

@[simp] theorem othersTake_frame (s : State) (n : Nat) (p : Payload) :
    (s.othersTake n p).now = s.now ∧ (s.othersTake n p).timing = s.timing ∧ (s.othersTake n p).temps = s.temps
      ∧ (s.othersTake n p).badCount = s.badCount ∧ (s.othersTake n p).port = s.port := by
  cases p with
  | demand items =>
    have hclaims := s.takeClaims_claimsOnly n items
    rw [othersTake, takeDemand_eq]
    simp only [handTargets_frame]
    rw [hclaims]
    simp
  | status c => simp [othersTake]
  | takeover g e => simp [othersTake]
  | handback g e => simp [othersTake]
  | yield g e a l => simp [othersTake]
  | alert k i v => simp [othersTake]

theorem hearOther_line (s : State) (r : Nat) (role : Role) (n : Nat) (e : Epoch) (h : s.line.state ≠ .idle) :
    (s.hearOther r role n e).line = s.line := by
  unfold hearOther
  dsimp only
  repeat' split
  · rfl
  · rw [queueHandback_line _ r (by simpa using h)]
    rfl
  · rfl

theorem roleFrame_line (s : State) (r : Nat) (role : Role) (n : Nat) (e : Epoch) (p : Payload) (h : s.line.state ≠ .idle) :
    (s.roleFrame r role n e p).line = s.line := by
  unfold roleFrame
  split
  case h_7 | h_8 | h_9 | h_10 => exact hearOther_line s r role n e h
  case h_18 =>
    unfold answerHandback
    dsimp only
    split
    · exact offer_line s _ h
    · rfl
  all_goals
    repeat' split
    all_goals simp

theorem checkTakeover_line (s : State) (r : Nat) : (s.checkTakeover r).line = s.line := by
  unfold checkTakeover
  repeat' split
  all_goals simp

/-- On a line that is not IDLE the blocks that take a frame start none. -/
theorem othersTake_line (s : State) (n : Nat) (p : Payload) (h : s.line.state ≠ .idle) : (s.othersTake n p).line = s.line := by
  have hdriver (p : Payload) : (s.driveshipTakes n p).line = s.line := by
    unfold driveshipTakes
    repeat' split
    · rfl
    · rfl
    · rfl
    · rw [checkTakeover_line]
      exact roleFrame_line s _ _ n _ p h
  cases p with
  | demand items =>
    obtain ⟨-, -, hline, -⟩ := s.takeDemand_frame n items
    exact hline
  | status c => exact hdriver (.status c)
  | takeover g e => exact hdriver (.takeover g e)
  | handback g e => exact hdriver (.handback g e)
  | yield g e a l => exact hdriver (.yield g e a l)
  | alert k i v => rfl

/-- A frame meets the Peer Unit and the other blocks in the one order or the other (R140, R154; log entry 5). -/
theorem deliverAll_orders (s : State) (n : Nat) (p : Payload) :
    ∃ k, s.deliverAll n p = (peerTakes { s with choices := k } n p).othersTake n p
      ∨ s.deliverAll n p = (othersTake { s with choices := k } n p).peerTakes n p := by
  unfold deliverAll
  dsimp only
  repeat' split
  · exact ⟨_, .inl rfl⟩
  · exact ⟨_, .inr rfl⟩
  · exact ⟨s.choices, .inl rfl⟩

end State

/-- What every frame that the station takes leaves, whichever block is first: it is heard by the Peer Unit, the line is NOT_IDLE, and the
blocks that take no frames are as they were. -/
structure FrameTaken (s t : State) (n : Nat) : Prop where
  heard : s.HeardFrom t n
  line : t.line = { s.line with state := .notIdle }
  ctl : t.ctl = s.ctl
  temps : t.temps = s.temps
  badCount : t.badCount = s.badCount
  now : t.now = s.now
  port : t.port = s.port

theorem frameTaken (s : State) (n : Nat) (p : Payload) (h : TakesFrame s n p) :
    FrameTaken s ((s.setLine .notIdle).deliverAll n p).finish n := by
  have ⟨_, ht, _⟩ := h
  obtain ⟨k, hw⟩ := (s.setLine .notIdle).deliverAll_orders n p
  let v : State := { s.setLine .notIdle with choices := k }
  have hline : v.line.state ≠ .idle := nofun
  suffices htaken : FrameTaken s ((s.setLine .notIdle).deliverAll n p) n by
    obtain ⟨hheard, hl, hctl, htemps, hbad, hnow, hport⟩ := htaken
    refine ⟨hheard.congr (by simp), ?_, ?_, ?_, ?_, ?_, ?_⟩
    · rw [State.finish_line _ (by simp [hl]), hl]
    · simpa using hctl
    · simpa using htemps
    · simpa using hbad
    · simpa using hnow
    · simpa using hport
  rcases hw with hw | hw <;> rw [hw]
  · have hheard : s.HeardFrom (v.peerTakes n p) n :=
      have ⟨hroster, hsender, htimer, hisolated⟩ := v.peerTakes_heard n p ht
      ⟨hroster, hsender, htimer, hisolated⟩
    have hl := v.peerTakes_line n p hline
    refine ⟨hheard.congr (by simp [v]), ?_, by simp, by simp, by simp, by simp, by simp⟩
    exact (State.othersTake_line _ n p (by rw [hl]; exact hline)).trans hl
  · have hl := v.othersTake_line n p hline
    have hsends : (v.othersTake n p).transmits = true := (transmits_of_ctl (by simp [v])).trans ht
    obtain ⟨hroster, hsender, htimer, hisolated⟩ := (v.othersTake n p).peerTakes_heard n p hsends
    refine ⟨⟨hroster.trans ?_, hsender, htimer.trans ?_, hisolated⟩, ?_, by simp, by simp, by simp, by simp, by simp⟩
    · simp [State.rosterAfter, State.timeBase, v]
    · simp [State.isolationMs, v]
    · exact (State.peerTakes_line _ n p (by rw [hl]; exact hline)).trans hl

end Sys2Proof.Machine
end

section
/-! SUPPORT. The end of an isolation at the role records and at a transmit queue with room (R58, R69, R154). -/

namespace Sys2Proof.Machine

/-- What a run over a list keeps true where the queue has room for what each of its parts may offer. -/
theorem State.foldl_with_room (P : State → Prop) (f : State → Nat → State) (xs : List Nat) (s : State)
    (hl : s.txq.length + xs.length ≤ 8)
    (h : ∀ (u : State) (q : Nat), q ∈ xs → u.txq.length < 8 → P u → P (f u q) ∧ (f u q).txq.length ≤ u.txq.length + 1) (hs : P s) :
    P (xs.foldl f s) ∧ (xs.foldl f s).txq.length ≤ s.txq.length + xs.length := by
  induction xs generalizing s with
  | nil => exact ⟨hs, le_rfl⟩
  | cons x xs ih =>
    rw [List.length_cons] at hl ⊢
    obtain ⟨hnext, hlength⟩ := h s x List.mem_cons_self (by omega) hs
    obtain ⟨hrest, hend⟩ := ih (f s x) (by omega) (fun u q hq => h u q (List.mem_cons_of_mem _ hq)) hnext
    refine ⟨hrest, ?_⟩
    rw [List.foldl_cons]
    omega

/-! ### A HANDBACK that is offered (R143) -/

namespace State

/-- On a line that is not IDLE a HANDBACK that finds room waits, and nothing else begins or ceases to wait. -/
theorem offer_handback_waits (s : State) (g g' : Nat) (e : Epoch) (hl : s.txq.length < 8) (hline : s.line.state ≠ .idle) (hg : g ≠ g') :
    (s.offer (.handback g e)).waits .handback g' = s.waits .handback g' := by
  cases ht : s.transmits with
  | false => rw [offer_off s _ ht]
  | true =>
    have hnone : s.txq.any (coalesces (.handback g e)) = false := List.any_eq_false.mpr fun _ _ => by simp [coalesces]
    have hentered : (s.enter (.handback g e)).txq = insertEntry ⟨.handback g e, s.stamp, 0, false, none⟩ s.txq := by
      simp [enter, startHead, hline]
    rw [offer_room s _ ht hnone hl, Bool.eq_iff_iff]
    simp only [waits, hentered, List.any_eq_true, insertEntry_mem, or_and_right, exists_or, exists_eq_left]
    simp [QEntry.isFor, payloadSubject, hg]

/-- A frame that is no STATUS stays in a queue with room at the end of the event. -/
theorem finish_keeps_frame (s : State) (n : Nat) (p : Payload) (hl : s.txq.length + s.roles.length ≤ 8) (hp : payloadKind p ≠ .status)
    (h : Queued s n p) : Queued s.finish n p := by
  refine flushes_keep (fun u => Queued u n p) _ s (by simpa using hl) (fun u q _ hroom hu => ?_) h
  cases hq : u.roles[q]? with
  | none => rwa [flushRole_none u q hq]
  | some role =>
    rw [flushRole_eq u q role hq]
    split
    · obtain ⟨e, he, rfl, hn⟩ := hu
      have hapart : coalesces (.status (u.statusContent role)) e = false := by
        rw [coalesces_status]
        simp [QEntry.isFor, hp]
      obtain ⟨x, hx, hxp, hxs⟩ := offer_keeps_entry (u.modDrive q (Drive.flushed u.now)) _ hroom e he hapart
      exact ⟨x, hx, hxp, hn.trans_eq hxs.symm⟩
    · exact hu

end State

/-! ### One role (R69) -/

/-- A primary asks for its group back at the end of an isolation: in RECLAIM with no HANDBACK waiting, no wait and the forcing mark
clear. -/
def Ship.asks (waits : Bool) (sh : Ship) : Bool :=
  decide (sh.machine = .reclaim ∧ waits = false ∧ sh.wait = .stopped ∧ sh.forcing = .clear)

/-- A role record at the end of an isolation: its frozen timers run on from what they had left, and a HANDBACK that is asked with is the
next attempt. -/
def Ship.rejoined (now : Nat) (waits : Bool) (sh : Ship) : Ship :=
  { sh with
    silence := sh.silence.unfreeze now, otherSilence := sh.otherSilence.unfreeze now, wait := sh.wait.unfreeze now
    attempts := if sh.asks waits then sh.attempts + 1 else sh.attempts }

/-- The HANDBACK of a role, with the acting other's epoch (R58). -/
def Role.handback (role : Role) : Payload := .handback role.cfg.group ((role.ship.other.map (·.2)).getD 0)

theorem Timer.unfreeze_eq_stopped (now : Nat) (t : Timer) : t.unfreeze now = .stopped ↔ t = .stopped := by
  cases t <;> simp [Timer.unfreeze]

namespace State

/-- The end of an isolation at a role of a station that is not ISOLATED any more. -/
theorem roleRejoined_eq (s : State) (r : Nat) (role : Role) (h : s.roles[r]? = some role) (hi : s.peers.isolated = false) :
    s.roleRejoined r =
      if role.ship.asks (s.waits .handback role.cfg.group)
      then (s.modShip r (Ship.rejoined s.now (s.waits .handback role.cfg.group))).offer role.handback
      else s.modShip r (Ship.rejoined s.now (s.waits .handback role.cfg.group)) := by
  have hship (f : Ship → Ship) (hf : f role.ship = role.ship.rejoined s.now (s.waits .handback role.cfg.group)) :
      s.modShip r f = s.modShip r (Ship.rejoined s.now (s.waits .handback role.cfg.group)) := by
    unfold modShip modRole
    rw [modify_congr_get]
    intro x hx
    obtain rfl := Option.some.inj (h.symm.trans hx)
    rw [hf]
  have hcondition : (role.ship.machine = .reclaim ∧ s.waits .handback role.cfg.group = false ∧ role.ship.wait.unfreeze s.now = .stopped
      ∧ role.ship.forcing = .clear) ↔ role.ship.asks (s.waits .handback role.cfg.group) = true := by
    simp [Ship.asks, Timer.unfreeze_eq_stopped]
  unfold roleRejoined
  rw [h]
  dsimp only
  simp only [hcondition]
  split
  · next hasks =>
    rw [modShip_queueHandback s r _ role h hi, hship _ (by simp [Ship.rejoined, hasks])]
    rfl
  · next hasks => exact hship _ (by simp [Ship.rejoined, hasks])

theorem roleRejoined_none (s : State) (r : Nat) (h : s.roles[r]? = none) : s.roleRejoined r = s := by simp [roleRejoined, h]

/-- With room the end of an isolation at a role changes of the roles its own record alone, and posts nothing. -/
theorem roleRejoined_with_room (s : State) (r : Nat) (hi : s.peers.isolated = false) (hl : s.txq.length < 8) :
    (∀ role, s.roles[r]? = some role → (s.roleRejoined r).roles[r]? =
        some { role with ship := role.ship.rejoined s.now (s.waits .handback role.cfg.group) })
      ∧ (∀ q, q ≠ r → (s.roleRejoined r).roles[q]? = s.roles[q]?)
      ∧ (s.roleRejoined r).notices = s.notices ∧ (s.roleRejoined r).txq.length ≤ s.txq.length + 1
      ∧ s.stamp ≤ (s.roleRejoined r).stamp := by
  cases h : s.roles[r]? with
  | none =>
    rw [roleRejoined_none s r h]
    exact ⟨fun role hr => (nomatch hr), fun _ _ => rfl, rfl, Nat.le_succ _, le_rfl⟩
  | some role =>
    have hself := s.modShip_get r (Ship.rejoined s.now (s.waits .handback role.cfg.group)) role h
    have hother (q : Nat) (hq : q ≠ r) :
        (s.modShip r (Ship.rejoined s.now (s.waits .handback role.cfg.group))).roles[q]? = s.roles[q]? := by simp [Ne.symm hq]
    rw [roleRejoined_eq s r role h hi]
    split
    · obtain ⟨hroles, hnotices, hlength, hstamp⟩ :=
        (s.modShip r (Ship.rejoined s.now (s.waits .handback role.cfg.group))).offer_with_room role.handback hl
      rw [hroles]
      exact ⟨fun x hx => Option.some.inj hx ▸ hself, hother, hnotices, hlength, hstamp⟩
    · exact ⟨fun x hx => Option.some.inj hx ▸ hself, hother, rfl, Nat.le_succ _, le_rfl⟩

/-- A primary that asks has its HANDBACK in the queue. -/
theorem roleRejoined_queued (s : State) (r : Nat) (role : Role) (h : s.roles[r]? = some role) (hi : s.peers.isolated = false)
    (hl : s.txq.length < 8) (ht : s.transmits = true) (ha : role.ship.asks (s.waits .handback role.cfg.group) = true) :
    Queued (s.roleRejoined r) s.stamp role.handback := by
  rw [roleRejoined_eq s r role h hi, if_pos ha]
  exact offer_queued (s.modShip r _) _ ht hl fun _ _ => by simp [Role.handback, coalesces]

/-- The HANDBACK of another role leaves a group's. -/
theorem roleRejoined_waits_other (s : State) (r g : Nat) (hi : s.peers.isolated = false) (hl : s.txq.length < 8)
    (hline : s.line.state ≠ .idle) (hg : ∀ role, s.roles[r]? = some role → role.cfg.group ≠ g) :
    (s.roleRejoined r).waits .handback g = s.waits .handback g := by
  cases h : s.roles[r]? with
  | none => rw [roleRejoined_none s r h]
  | some role =>
    rw [roleRejoined_eq s r role h hi]
    split
    · exact offer_handback_waits (s.modShip r _) _ g _ hl hline (hg role h)
    · rfl

/-- A HANDBACK in a queue with room stays in it. -/
theorem roleRejoined_keeps_frame (s : State) (r n : Nat) (p : Payload) (hi : s.peers.isolated = false) (hl : s.txq.length < 8)
    (hq : Queued s n p) : Queued (s.roleRejoined r) n p := by
  cases h : s.roles[r]? with
  | none => rwa [roleRejoined_none s r h]
  | some role =>
    rw [roleRejoined_eq s r role h hi]
    split
    · obtain ⟨e, he, hp, hn⟩ := hq
      obtain ⟨x, hx, hxp, hxs⟩ := offer_keeps_entry (s.modShip r (Ship.rejoined s.now (s.waits .handback role.cfg.group))) role.handback
        hl e he (by simp [Role.handback, coalesces])
      exact ⟨x, hx, hxp.trans hp, hn.trans_eq hxs.symm⟩
    · exact hq

/-! ### A role among the others -/

/-- What the end of an isolation at the other roles leaves a role: its record, the groups, the station's clock, control and line, and whether
its HANDBACK waits. -/
structure RejoinAwaits (v u : State) (r : Nat) (role : Role) : Prop where
  get : u.roles[r]? = some role
  sides : u.roles.map Role.claimSide = v.roles.map Role.claimSide
  connected : u.peers.isolated = false
  now : u.now = v.now
  ctl : u.ctl = v.ctl
  line : u.line.state ≠ .idle
  stamp : v.stamp ≤ u.stamp
  waits : u.waits .handback role.cfg.group = v.waits .handback role.cfg.group

/-- The groups of the roles are those of their claim sides. -/
theorem groups_nodup_of_sides {s t : State} (h : t.roles.map Role.claimSide = s.roles.map Role.claimSide)
    (hd : (s.roles.map (·.cfg.group)).Nodup) : (t.roles.map (·.cfg.group)).Nodup := by
  have hmap := congrArg (List.map (fun x : RoleCfg × ClaimTable × Nat => x.1.group)) h
  simp only [List.map_map] at hmap
  exact hmap ▸ hd

theorem RejoinAwaits.other {v u : State} {r : Nat} {role : Role} (h : RejoinAwaits v u r role) (hd : (v.roles.map (·.cfg.group)).Nodup)
    (q : Nat) (hq : q ≠ r) (hroom : u.txq.length < 8) : RejoinAwaits v (u.roleRejoined q) r role := by
  obtain ⟨hget, hsides, hconnected, hnow, hctl, hline, hstamp, hwaits⟩ := h
  obtain ⟨-, hother, -, -, hlater⟩ := u.roleRejoined_with_room q hconnected hroom
  refine ⟨(hother r hq.symm).trans hget, by simpa using hsides, by simpa using hconnected, by simpa using hnow, by simpa using hctl, ?_,
    hstamp.trans hlater, ?_⟩
  · rwa [u.roleRejoined_line q hline]
  · rw [u.roleRejoined_waits_other q _ hconnected hroom hline fun x hx => groups_differ (groups_nodup_of_sides hsides hd) hget hx hq]
    exact hwaits

/-- One role after all roles' records have run on, where the queue has room for a HANDBACK of each. -/
theorem forRoles_roleRejoined (v : State) (r : Nat) (role : Role) (h : v.roles[r]? = some role)
    (hd : (v.roles.map (·.cfg.group)).Nodup) (hi : v.peers.isolated = false) (ht : v.transmits = true) (hline : v.line.state ≠ .idle)
    (hl : v.txq.length + v.roles.length ≤ 8) :
    (v.forRoles roleRejoined).roles[r]? = some { role with ship := role.ship.rejoined v.now (v.waits .handback role.cfg.group) }
      ∧ (role.ship.asks (v.waits .handback role.cfg.group) = true → Queued (v.forRoles roleRejoined) v.stamp role.handback) := by
  obtain ⟨before, after, he, hb, ha, hlength⟩ := forRoles_split roleRejoined v r (List.getElem?_eq_some_iff.mp h).1
  obtain ⟨hreached, hshort⟩ := foldl_with_room (fun u => RejoinAwaits v u r role) roleRejoined before v (by omega)
    (fun u q hq hroom hu => by
      obtain ⟨-, -, -, hlonger, -⟩ := u.roleRejoined_with_room q hu.connected hroom
      exact ⟨hu.other hd q (ne_of_mem_of_not_mem hq hb) hroom, hlonger⟩)
    ⟨h, rfl, hi, rfl, rfl, hline, le_rfl, rfl⟩
  rw [he]
  generalize before.foldl roleRejoined v = u at hreached hshort
  have hroom : u.txq.length < 8 := by omega
  obtain ⟨hself, -, -, hlonger, -⟩ := u.roleRejoined_with_room r hreached.connected hroom
  have hget := hself role hreached.get
  rw [hreached.now, hreached.waits] at hget
  have hqueued (hasks : role.ship.asks (v.waits .handback role.cfg.group) = true) :
      Queued (u.roleRejoined r) v.stamp role.handback := by
    obtain ⟨x, hx, hp, hn⟩ := u.roleRejoined_queued r role hreached.get hreached.connected hroom
      ((transmits_of_ctl hreached.ctl).trans ht) (hreached.waits ▸ hasks)
    exact ⟨x, hx, hp, hreached.stamp.trans hn⟩
  refine (foldl_with_room (fun w => (w.roles[r]? = some { role with ship := role.ship.rejoined v.now (v.waits .handback role.cfg.group) }
      ∧ (role.ship.asks (v.waits .handback role.cfg.group) = true → Queued w v.stamp role.handback)) ∧ w.peers.isolated = false)
    roleRejoined after (u.roleRejoined r) (by omega) (fun w q hq hwroom ⟨⟨hw, hkept⟩, hwi⟩ => ?_)
    ⟨⟨hget, hqueued⟩, by simpa using hreached.connected⟩).1.1
  obtain ⟨-, hother, -, hmore, -⟩ := w.roleRejoined_with_room q hwi hwroom
  exact ⟨⟨⟨(hother r (ne_of_mem_of_not_mem hq ha).symm).trans hw,
    fun hasks => w.roleRejoined_keeps_frame q _ _ hwi hwroom (hkept hasks)⟩, by simpa using hwi⟩, hmore⟩

/-! ### The whole station (R154) -/

/-- The station out of isolation, REJOINED posted (R154). -/
def rejoinPosted (s : State) (n : Nat) : State :=
  (({ s with peers := { s.peers with isolated := false } } : State).restartLink).post
    .rejoined n (some (((s.now - s.peers.isolatedAt) / 1000 : Nat) : Int))

/-- The cause gone from every role's set as well, before the role records run on. -/
def rejoinCaused (s : State) (n : Nat) : State := (s.rejoinPosted n).setCausesAll (fun c => { c with isolated := false })

theorem rejoin_eq (s : State) (n : Nat) : s.rejoin n = (s.rejoinCaused n).forRoles roleRejoined := rfl

theorem rejoinCaused_kept (s : State) (n : Nat) :
    (s.rejoinCaused n).peers.isolated = false ∧ (s.rejoinCaused n).now = s.now ∧ (s.rejoinCaused n).ctl = s.ctl
      ∧ (s.rejoinCaused n).line = s.line ∧ (s.rejoinCaused n).txq = s.txq ∧ (s.rejoinCaused n).stamp = s.stamp
      ∧ (s.rejoinCaused n).roles.length = s.roles.length
      ∧ (s.rejoinCaused n).roles.map Role.claimSide = s.roles.map Role.claimSide
      ∧ (s.rejoinCaused n).notices
        = s.notices.push s.timeBase .rejoined n (some (((s.now - s.peers.isolatedAt) / 1000 : Nat) : Int)) := by
  refine ⟨?_, ?_, ?_, ?_, ?_, ?_, ?_, ?_, ?_⟩
  · simp [rejoinCaused, rejoinPosted, restartLink]
  · simp [rejoinCaused, rejoinPosted, restartLink]
  · simp [rejoinCaused, rejoinPosted, restartLink]
  · simp [rejoinCaused, rejoinPosted, restartLink]
  · simp [rejoinCaused, rejoinPosted, restartLink]
  · simp [rejoinCaused, rejoinPosted, restartLink]
  · exact setCausesAll_length _ _
  · simp [rejoinCaused, rejoinPosted, restartLink]
  · simp [rejoinCaused, rejoinPosted, restartLink, post, timeBase]

/-- With room for a HANDBACK of each role the end of an isolation posts REJOINED alone. -/
theorem rejoin_with_room (s : State) (n : Nat) (hl : s.txq.length + s.roles.length ≤ 8) :
    (s.rejoin n).notices = s.notices.push s.timeBase .rejoined n (some (((s.now - s.peers.isolatedAt) / 1000 : Nat) : Int))
      ∧ (s.rejoin n).txq.length ≤ s.txq.length + s.roles.length := by
  obtain ⟨hi, -, -, -, htxq, -, hlength, -, hnotices⟩ := s.rejoinCaused_kept n
  obtain ⟨⟨hn, -⟩, hq⟩ := foldl_with_room
    (fun u => u.notices = (s.rejoinCaused n).notices ∧ u.peers.isolated = false) roleRejoined
    (List.range (s.rejoinCaused n).roles.length) (s.rejoinCaused n) (by simpa [htxq, hlength] using hl)
    (fun u q _ hroom ⟨hun, hui⟩ => by
      obtain ⟨-, -, hposted, hlonger, -⟩ := u.roleRejoined_with_room q hui hroom
      exact ⟨⟨hposted.trans hun, by simpa using hui⟩, hlonger⟩) ⟨rfl, hi⟩
  rw [htxq, List.length_range] at hq
  exact ⟨hn.trans hnotices, hq.trans_eq (by rw [hlength])⟩

/-- A role after an isolation has ended, where the queue has room: its drive has taken its causes, its frozen timers run on, and a primary
that asks has its HANDBACK in the queue. -/
theorem rejoin_role (s : State) (n r : Nat) (role : Role) (h : s.roles[r]? = some role) (hd : (s.roles.map (·.cfg.group)).Nodup)
    (ht : s.transmits = true) (hline : s.line.state ≠ .idle) (hl : s.txq.length + s.roles.length ≤ 8) :
    ∃ d, (s.rejoin n).roles[r]? = some { role with
        drive := d, ship := role.ship.rejoined s.now (s.waits .handback role.cfg.group) }
      ∧ (role.ship.asks (s.waits .handback role.cfg.group) = true → Queued (s.rejoin n) s.stamp role.handback)
      ∧ (RoleJudged s r role → role.cfg.checkLevel ≤ 100 →
          d = role.drive.setCauses s.now role.cfg { role.drive.causes with isolated := false }) := by
  obtain ⟨hi, hnow, hctl, hkeptLine, htxq, hstamp, hlength, hsides, -⟩ := s.rejoinCaused_kept n
  obtain ⟨d, hget, -⟩ := (s.rejoinPosted n).setCausesAll_get r role (fun c => { c with isolated := false }) h
  have hwaits : (s.rejoinCaused n).waits .handback role.cfg.group = s.waits .handback role.cfg.group := by simp [waits, htxq]
  obtain ⟨hrole, hqueued⟩ := (s.rejoinCaused n).forRoles_roleRejoined r { role with drive := d } hget (groups_nodup_of_sides hsides hd) hi
    ((transmits_of_ctl hctl).trans ht) (hkeptLine ▸ hline) (by rwa [htxq, hlength])
  rw [hwaits, hnow] at hrole
  rw [hwaits, hstamp] at hqueued
  refine ⟨d, hrole, hqueued, fun hj hle => ?_⟩
  have hjudged := ((s.rejoinPosted n).setCausesAll_judged r role (fun c => { c with isolated := false }) h hj hle).1
  exact congrArg Role.drive (Option.some.inj (hget.symm.trans hjudged))

end State
end Sys2Proof.Machine
end

section
/-! SUPPORT. A frame that no block but the Peer Unit acts on (R150, R152, R154), and one that the roster alone takes (R140). -/

namespace Sys2Proof.Machine

namespace State

/-- A frame that only the Peer Unit acts on: of a group without a role, or a DEMAND at a station without roles. -/
def FrameUnused (s : State) (p : Payload) : Prop :=
  (∃ g e, frameEpoch p = some (g, e) ∧ s.roleIndex g = none) ∨ (payloadKind p = .demand ∧ s.roles = [])

theorem FrameUnused.of_standing {s t : State} {p : Payload} (h : s.FrameUnused p)
    (hs : t.roles.map Role.standing = s.roles.map Role.standing) : t.FrameUnused p := by
  rcases h with ⟨g, e, hp, hindex⟩ | ⟨hp, hroles⟩
  · exact .inl ⟨g, e, hp, (roleIndex_of_standing hs g).trans hindex⟩
  · exact .inr ⟨hp, by simpa [hroles] using hs⟩

theorem FrameUnused.not_alert {s : State} {p : Payload} (h : s.FrameUnused p) : payloadKind p ≠ .alert := by
  rcases h with ⟨g, e, hp, -⟩ | ⟨hp, -⟩
  · cases p with
    | alert k i v => exact nomatch hp
    | _ => exact nofun
  · rw [hp]
    exact nofun

/-- A drivership frame of a group without a role is not used (R51). -/
theorem driveshipTakes_unused (s : State) (n g : Nat) (e : Epoch) (p : Payload) (hp : frameEpoch p = some (g, e))
    (h : s.roleIndex g = none) : s.driveshipTakes n p = s := by
  simp [driveshipTakes, hp, h]

/-- A station without roles has no claim table that takes a DEMAND (R8). -/
theorem takeDemand_noRoles (s : State) (n : Nat) (items : List DemandItem) (h : s.roles = []) : s.takeDemand n items = s := by
  have hitems : items.foldl (takeItem n) s = s := by
    induction items with
    | nil => rfl
    | cons x xs ih =>
      have hindex : s.roleIndex x.group = none := by simp [roleIndex, h]
      rw [List.foldl_cons, takeItem, hindex]
      exact ih
  have hover (f : State → Nat → State) : s.forRoles f = s := by simp [forRoles, h]
  rw [takeDemand, hover, hitems, handTargets, hover]

theorem othersTake_unused (s : State) (n : Nat) (p : Payload) (h : s.FrameUnused p) : s.othersTake n p = s := by
  rcases h with ⟨g, e, hp, hindex⟩ | ⟨hp, hroles⟩
  · cases p with
    | demand items => exact nomatch hp
    | alert k i v => exact nomatch hp
    | _ => exact s.driveshipTakes_unused n g e _ hp hindex
  · cases p with
    | demand items => exact s.takeDemand_noRoles n items hroles
    | _ => exact nomatch hp

/-- In either order of the blocks the Peer Unit alone acts. -/
theorem deliverAll_unused (s : State) (n : Nat) (p : Payload) (h : s.FrameUnused p) :
    ∃ k, s.deliverAll n p = peerTakes { s with choices := k } n p := by
  obtain ⟨k, hfirst | hlast⟩ := s.deliverAll_orders n p
  · exact ⟨k, hfirst.trans (othersTake_unused _ n p (h.of_standing (peerTakes_standing { s with choices := k } n p)))⟩
  · exact ⟨k, hlast.trans (congrArg (peerTakes · n p) (othersTake_unused { s with choices := k } n p h))⟩

theorem peerContent_notices (s : State) (n : Nat) (p : Payload) (h : payloadKind p ≠ .alert) :
    (s.peerContent n p).notices = s.notices := by
  cases p with
  | status c =>
    dsimp only [peerContent]
    unfold takeView
    repeat' split
    all_goals rfl
  | alert k i v => exact absurd rfl h
  | _ => rfl

/-- The station that has taken a frame into its roster, its line NOT_IDLE (R150, R127). -/
def rostered (s : State) (n : Nat) (p : Payload) (k : Nat) : State :=
  rosterTakes { s.setLine .notIdle with choices := k } n (payloadKind p)

theorem rostered_kept (s : State) (n : Nat) (p : Payload) (k : Nat) :
    (s.rostered n p k).roles = s.roles ∧ (s.rostered n p k).fans = s.fans ∧ (s.rostered n p k).txq = s.txq
      ∧ (s.rostered n p k).stamp = s.stamp ∧ (s.rostered n p k).now = s.now ∧ (s.rostered n p k).ctl = s.ctl
      ∧ (s.rostered n p k).line.state = .notIdle ∧ (s.rostered n p k).peers.isolated = s.peers.isolated
      ∧ (s.rostered n p k).peers.isolatedAt = s.peers.isolatedAt
      ∧ (s.rostered n p k).notices = s.noticesAfter n (payloadKind p) := by
  unfold rostered
  rw [rosterTakes_eq]
  exact ⟨rfl, rfl, rfl, rfl, rfl, rfl, rfl, rfl, rfl, rfl⟩

/-- The end of the isolation, at a station that transmits. -/
theorem linkTakes_isolated (s : State) (n : Nat) (ht : s.transmits = true) (hi : s.peers.isolated = true) :
    s.linkTakes n = s.rejoin n := by
  rw [linkTakes, if_pos ht, if_pos hi]

theorem rejoin_length (s : State) (n : Nat) : (s.rejoin n).roles.length = s.roles.length := by
  simpa using congrArg List.length (s.rejoin_standing n)

/-- The event of an unused frame ends with the roles, the queue and the notices of the Peer Unit's link silence. -/
theorem exec_unused (s : State) (n : Nat) (p : Payload) (hu : s.FrameUnused p) :
    ∃ (k : Nat) (w : State), ((s.setLine .notIdle).deliverAll n p).finish = w.finish ∧ w.roles = ((s.rostered n p k).linkTakes n).roles
      ∧ w.txq = ((s.rostered n p k).linkTakes n).txq ∧ w.notices = ((s.rostered n p k).linkTakes n).notices ∧ w.now = s.now := by
  obtain ⟨k, hw⟩ := (s.setLine .notIdle).deliverAll_unused n p hu
  refine ⟨k, _, by rw [hw], ?_, ?_, ?_, by simp⟩
  · simp [peerTakes, rostered]
  · simp [peerTakes, rostered]
  · exact peerContent_notices _ n p hu.not_alert

/-- An unused frame posts PEER_JOINED for a new peer, REJOINED at the end of an isolation, and nothing else (R150, R154). -/
theorem notices_unused (s : State) (n : Nat) (p : Payload) (ht : s.transmits = true) (hu : s.FrameUnused p)
    (hl : s.txq.length + 2 * s.roles.length ≤ 8) :
    ((s.setLine .notIdle).deliverAll n p).finish.notices = if s.peers.isolated then
        (s.noticesAfter n (payloadKind p)).push s.timeBase .rejoined n (some (((s.now - s.peers.isolatedAt) / 1000 : Nat) : Int))
      else s.noticesAfter n (payloadKind p) := by
  obtain ⟨k, w, hfinish, hroles, htxq, hnotices, -⟩ := s.exec_unused n p hu
  obtain ⟨hsroles, -, hstxq, -, hnow, hctl, -, hisolated, hat, hposted⟩ := s.rostered_kept n p k
  have hends (hroom : w.txq.length + w.roles.length ≤ 8) : ((s.setLine .notIdle).deliverAll n p).finish.notices = w.notices :=
    hfinish ▸ w.finish_notices hroom
  cases hi : s.peers.isolated with
  | false =>
    obtain ⟨hlroles, -, hltxq, -, hlnotices⟩ := (s.rostered n p k).linkTakes_connected n (hisolated.trans hi)
    rw [hends (by rw [htxq, hroles, hltxq, hlroles, hstxq, hsroles]; omega), hnotices, hlnotices, hposted]
    rfl
  | true =>
    rw [linkTakes_isolated _ n ((transmits_of_ctl hctl).trans ht) (hisolated.trans hi)] at hroles htxq hnotices
    obtain ⟨hrejoined, hlength⟩ := (s.rostered n p k).rejoin_with_room n (by rw [hstxq, hsroles]; omega)
    have hcount : w.roles.length = s.roles.length := by rw [hroles, rejoin_length, hsroles]
    rw [hstxq, hsroles] at hlength
    rw [hends (by rw [htxq, hcount]; omega), hnotices, hrejoined, hposted, hnow, hat, timeBase_congr hctl hnow]
    rfl

/-- A role after the unused frame that ends an isolation (R69, R154). -/
theorem role_unused (s : State) (n r : Nat) (p : Payload) (role : Role) (ht : s.transmits = true) (hu : s.FrameUnused p)
    (hl : s.txq.length + 2 * s.roles.length ≤ 8) (hi : s.peers.isolated = true) (hd : (s.roles.map (·.cfg.group)).Nodup)
    (hr : s.roles[r]? = some role) :
    ∃ d, ((s.setLine .notIdle).deliverAll n p).finish.roles[r]? = some { role with
        drive := d.flushed s.now, ship := role.ship.rejoined s.now (s.waits .handback role.cfg.group) }
      ∧ (role.ship.asks (s.waits .handback role.cfg.group) = true →
          Queued ((s.setLine .notIdle).deliverAll n p).finish s.stamp role.handback)
      ∧ (RoleJudged s r role → role.cfg.checkLevel ≤ 100 →
          d = role.drive.setCauses s.now role.cfg { role.drive.causes with isolated := false }) := by
  obtain ⟨k, w, hfinish, hroles, htxq, -, hwnow⟩ := s.exec_unused n p hu
  obtain ⟨hsroles, hfans, hstxq, hstamp, hnow, hctl, hline, hisolated, -, -⟩ := s.rostered_kept n p k
  have hsends : (s.rostered n p k).transmits = true := (transmits_of_ctl hctl).trans ht
  rw [linkTakes_isolated _ n hsends (hisolated.trans hi)] at hroles htxq
  have hwaits : (s.rostered n p k).waits .handback role.cfg.group = s.waits .handback role.cfg.group := by simp [waits, hstxq]
  have hhealths : (s.rostered n p k).healths r = s.healths r := by simp [healths_eq, fansOf, hfans]
  have hroom : (s.rostered n p k).txq.length + (s.rostered n p k).roles.length ≤ 8 := by rw [hstxq, hsroles]; omega
  obtain ⟨d, hget, hqueued, hdrive⟩ := (s.rostered n p k).rejoin_role n r role (hsroles ▸ hr) (hsroles ▸ hd) hsends
    (by rw [hline]; exact nofun) hroom
  rw [hwaits, hnow] at hget
  rw [hwaits, hstamp] at hqueued
  have hcount : w.roles.length = s.roles.length := by rw [hroles, rejoin_length, hsroles]
  have hlength := ((s.rostered n p k).rejoin_with_room n hroom).2
  rw [hstxq, hsroles] at hlength
  rw [hfinish]
  refine ⟨d, ?_, fun hasks => ?_, fun hj hle => ?_⟩
  · rw [w.finish_get r _ (hroles ▸ hget), hwnow]
  · obtain ⟨x, hx, hp, hn⟩ := hqueued hasks
    exact w.finish_keeps_frame s.stamp role.handback (by rw [htxq, hcount]; omega) nofun ⟨x, htxq ▸ hx, hp, hn⟩
  · have hjudged : RoleJudged (s.rostered n p k) r role := by
      unfold RoleJudged
      rw [hhealths]
      exact hj
    rw [hdrive hjudged hle, hnow]

end State

/-- A drive whose one cause goes leaves FAILSAFE for TRACKING at 100 (R44). -/
theorem Drive.setCauses_leaves_failsafe (now : Nat) (cfg : RoleCfg) (d : Drive) (hs : d.state = .failsafe)
    (hc : d.causes = ⟨true, false, false⟩) :
    (d.setCauses now cfg { d.causes with isolated := false }).state = .tracking
      ∧ (d.setCauses now cfg { d.causes with isolated := false }).level = 100 := by
  simp [Drive.setCauses, hs, hc, Causes.empty, Drive.enterTracking]

/-- In FAULTED the roster alone takes a frame of another station that is no ALERT (R140). -/
theorem exec_frame_faulted (s : State) (n : Nat) (p : Payload) (hr : s.receiving = true) (hf : s.ctl.state = .faulted)
    (hn : stationOk n = true) (hp : p.wf = true) (ho : s.ctl.station ≠ some n) (h : Settled s) (ha : payloadKind p ≠ .alert) :
    exec (frameCommand n p) s = .next { s with
      line := { s.line with state := .notIdle }
      peers := { s.peers with roster := s.rosterAfter n, lastSender := n }
      notices := s.noticesAfter n (payloadKind p) } := by
  have hquiet (u : State) (hu : u.ctl = s.ctl) : u.transmits = false := by simp [State.transmits, hu, hf]
  have hcontent (u : State) (hu : u.ctl = s.ctl) : u.peerContent n p = u := by
    cases p with
    | status c => rw [State.peerContent, hquiet u hu, if_neg Bool.false_ne_true]
    | alert k i v => exact absurd rfl ha
    | _ => rfl
  have hdeliver : (s.setLine .notIdle).deliver n p = (s.setLine .notIdle).rosterTakes n (payloadKind p) := by
    have hlink : ((s.setLine .notIdle).rosterTakes n (payloadKind p)).linkTakes n = (s.setLine .notIdle).rosterTakes n (payloadKind p) := by
      rw [State.linkTakes, hquiet _ (by simp), if_neg Bool.false_ne_true]
    unfold State.deliver
    rw [State.setLine_ctl, hf]
    dsimp only
    rw [if_neg ho, State.peerTakes, hlink, hcontent _ (by simp)]
  have hsettled : Settled ((s.setLine .notIdle).deliver n p) := by
    rw [hdeliver]
    exact settled_of_roles (by simp) h
  rw [exec_frameCommand_receive, State.receive_settled hr hn hp hsettled, hdeliver, State.rosterTakes_eq]
  rfl

/-- After a frame that ended an isolation no role has the cause (R154). -/
theorem causes_gone_of_rejoin (s : State) (n : Nat) (p : Payload) (h : TakesFrame s n p) (hi : s.peers.isolated = true) :
    ∀ role ∈ ((s.setLine .notIdle).deliverAll n p).finish.roles, role.drive.causes.isolated = false := by
  have hgone : s.CauseGone := fun hconnected => absurd (hi.symm.trans hconnected) (by simp)
  obtain ⟨hends, -⟩ := driveInvariant_causeGone.receive n p hgone
  have hrun : s.receive n p = ((s.setLine .notIdle).deliverAll n p).finish := by
    have he := (exec_frameCommand_receive s n p).symm.trans (exec_frameCommand s n p h)
    exact Host.Outcome.next.inj he
  rw [← hrun]
  exact hends (hrun ▸ (frameTaken s n p h).heard.isolated)

end Sys2Proof.Machine
end

section
/-! O46: every valid frame of a peer reaches the roster and the link silence timer (R150, R152, R154). -/

namespace Sys2Proof.Machine

/-- Settles O46: the Peer Unit hears every frame, in either order of the blocks; a frame that no other block acts on leaves what the roster
and the end of an isolation leave, role by role; in FAULTED the roster alone takes it. -/
theorem frameReachesRoster : Obligations.FrameReachesRoster := by
  intro s n p known roster joined
  refine ⟨fun h => ?_, exec_frame_faulted s n p⟩
  have ⟨_, ht, _⟩ := h
  obtain ⟨⟨hroster, hsender, htimer, hisolated⟩, hline, hctl, htemps, hbad, hnow, hport⟩ := frameTaken s n p h
  refine ⟨_, exec_frameCommand s n p h, hroster, hsender, htimer, hisolated, causes_gone_of_rejoin s n p h, hline, hctl, htemps, hbad, hnow,
    hport, fun hu _ hl => ⟨s.notices_unused n p ht hu hl, fun hi hd r role hr => ?_⟩⟩
  intro runsOn asks
  obtain ⟨d, hget, hqueued, hdrive⟩ := s.role_unused n r p role ht hu hl hi hd hr
  have hruns (timer : Timer) : timer.unfreeze s.now = runsOn timer := by cases timer <;> rfl
  have hasks : role.ship.asks (s.waits .handback role.cfg.group) = true ↔ asks := decide_eq_true_iff
  refine ⟨_, hget, rfl, ?_, fun ha => hqueued (hasks.mpr ha), fun hj hs hc => ?_⟩
  · simp only [Ship.rejoined, hruns, hasks]
  · have hjudged := hj.role r role hr
    obtain ⟨-, htold, -, -⟩ := (judgedOk_iff s).mp hj
    obtain ⟨hstate, hlevel⟩ := role.drive.setCauses_leaves_failsafe s.now role.cfg hs hc
    obtain ⟨-, -, hle⟩ := htold r role hr
    rw [hdrive hjudged hle]
    simp [hstate, hlevel]

end Sys2Proof.Machine
end

section
/-! SUPPORT. The content checks of an image say what Table 10-3 asks (R162), section by section. -/

namespace Sys2Proof.Machine

/-! ### Ranges and lists of numbers -/

theorem inRange_iff {lo hi n : Nat} : inRange lo hi n = true ↔ lo ≤ n ∧ n ≤ hi := by simp [inRange]

theorem tempOk_iff {t : Int} : tempOk t = true ↔ -40 ≤ t ∧ t ≤ 150 := by simp [tempOk]

theorem groupOk_iff {g : Nat} : groupOk g = true ↔ g ≤ 15 := decide_eq_true_iff

theorem levelOk_iff {l : Nat} : levelOk l = true ↔ l ≤ 100 := decide_eq_true_iff

theorem otherStation_iff {own n : Nat} : (stationOk n && n != own) = true ↔ 1 ≤ n ∧ n ≤ 30 ∧ n ≠ own := by
  simp [stationOk, and_assoc]

theorem otherStations_iff {own : Nat} {stations : List Nat} :
    stations.all (fun n => stationOk n && n != own) = true ↔ ∀ n ∈ stations, 1 ≤ n ∧ n ≤ 30 ∧ n ≠ own := by
  simp only [List.all_eq_true, otherStation_iff]

/-- A role without a partner asks nothing of one. -/
theorem partnerOk_iff {own : Nat} {partner : Option Nat} :
    (partner.map (fun n => stationOk n && n != own)).getD true = true ↔
      ∀ n, partner = some n → 1 ≤ n ∧ n ≤ 30 ∧ n ≠ own := by
  cases partner with
  | none => simp
  | some n => simp only [Option.map_some, Option.getD_some, otherStation_iff, Option.some.injEq, forall_eq']

/-- No earlier record is of the group. -/
theorem groupNew_iff {α : Type} {groupOf : α → Nat} {earlier : List α} {g : Nat} :
    (!earlier.any (fun q => groupOf q == g)) = true ↔ ∀ q ∈ earlier, groupOf q ≠ g := by
  simp

/-- A role's fan channels exist and none is an earlier role's. -/
theorem channelsFree_iff {earlier : List RoleCfg} {channels : List Nat} :
    (channels.all (fun c => decide (c ≤ 5)) = true
        ∧ channels.all (fun c => !earlier.any (fun q => q.channels.contains c)) = true) ↔
      ∀ c ∈ channels, c ≤ 5 ∧ ∀ q ∈ earlier, c ∉ q.channels := by
  simp [forall_and]

/-! ### The sections -/

theorem timingOk_iff {own : Nat} {t : Timing} : timingOk own t = true ↔ TimingFits own t := by
  simp only [timingOk, TimingFits, Bool.and_eq_true, inRange_iff, decide_eq_true_eq, otherStations_iff]
  exact iff_of_eq (by ac_rfl)

theorem channelOk_iff {mode : Nat} {record : Option ChannelCfg} : channelOk mode record = true ↔ ChannelFits mode record := by
  cases record with
  | none => simp [channelOk, ChannelFits]
  | some c =>
    simp only [channelOk, ChannelFits, Bool.and_eq_true, tempOk_iff, decide_eq_true_eq, bne_iff_ne, Option.some.injEq, forall_eq']
    omega

theorem fanOk_iff {f : FanCfg} : fanOk f = true ↔ FanFits f := by simp [fanOk, FanFits, or_assoc]

/-- The conditions of a role are those of Table 10-3 in another order. -/
theorem roleChecked_iff {own channelCount requiredCount : Nat} {earlier : List RoleCfg} {r : RoleCfg} :
    roleOk own channelCount requiredCount earlier r = true ↔ RoleFits own channelCount requiredCount earlier r := by
  simp only [roleOk, RoleFits, Bool.and_eq_true, inRange_iff, decide_eq_true_eq, otherStations_iff, partnerOk_iff, groupOk_iff,
    levelOk_iff, groupNew_iff, ← channelsFree_iff]
  exact iff_of_eq (by ac_rfl)

theorem curveOk_iff {c : Curve} :
    curveOk c = true ↔ (-40 ≤ c.t1 ∧ c.t1 < c.t2 ∧ c.t2 < c.t3 ∧ c.t3 < c.t4 ∧ c.t4 ≤ 150)
      ∧ (c.l0 ≤ c.l1 ∧ c.l1 ≤ c.l2 ∧ c.l2 ≤ c.l3 ∧ c.l3 ≤ c.l4 ∧ c.l4 ≤ 100) := by
  simp only [curveOk, Bool.and_eq_true, tempOk_iff, levelOk_iff, decide_eq_true_eq]
  omega

/-- The channel of a curve is one that the image uses. -/
theorem channelUsed_iff {channels : List (Option ChannelCfg)} {i : Nat} :
    (channels.getD i none).isSome = true ↔ ∃ c, channels[i]? = some (some c) := by
  rw [List.getD_eq_getElem?_getD]
  rcases channels[i]? with _ | _ | c <;> simp

theorem curvesOk_iff {channels : List (Option ChannelCfg)} {curves : List Curve} :
    (curves.all (fun c => (channels.getD c.channel none).isSome) = true ∧ curves.all curveOk = true) ↔
      ∀ k ∈ curves, (∃ c, channels[k.channel]? = some (some c))
        ∧ (-40 ≤ k.t1 ∧ k.t1 < k.t2 ∧ k.t2 < k.t3 ∧ k.t3 < k.t4 ∧ k.t4 ≤ 150)
        ∧ (k.l0 ≤ k.l1 ∧ k.l1 ≤ k.l2 ∧ k.l2 ≤ k.l3 ∧ k.l3 ≤ k.l4 ∧ k.l4 ≤ 100) := by
  simp only [List.all_eq_true, channelUsed_iff, curveOk_iff, ← forall₂_and]

theorem neighboursOk_iff {own : Nat} {neighbours : List Nat} :
    neighbours.all (fun g => groupOk g && g != own) = true ↔ ∀ g ∈ neighbours, g ≤ 15 ∧ g ≠ own := by
  simp only [List.all_eq_true, Bool.and_eq_true, groupOk_iff, bne_iff_ne]

/-- The conditions of a demand group are those of Table 10-3 in another order. -/
theorem demandOk_iff {neighbourCount : Nat} {channels : List (Option ChannelCfg)} {earlier : List DemandCfg} {d : DemandCfg} :
    demandOk neighbourCount channels earlier d = true ↔ DemandFits neighbourCount channels earlier d := by
  simp only [demandOk, DemandFits, Bool.and_eq_true, inRange_iff, decide_eq_true_eq, groupOk_iff, levelOk_iff, groupNew_iff,
    neighboursOk_iff, ← curvesOk_iff]
  exact iff_of_eq (by ac_rfl)

/-- The room of the roles up to one: all their placeholders together, and those of that one role (R4, R162). -/
theorem roomOk_iff {demands : List DemandCfg} {roles : List RoleCfg} {i : Nat} {r : RoleCfg} (h : roles[i]? = some r) :
    (decide (((roles.take (i + 1)).map (placeholderCount demands)).sum ≤ 48) && decide (placeholderCount demands r ≤ 16)) = true ↔
      RoomFits demands (roles.take (i + 1)) := by
  have hlast : (roles.take (i + 1)).getLast? = some r := by
    rw [List.take_add_one, h]
    simp
  have hcount (q : RoleCfg) :
      (if ∃ d ∈ demands, d.group = q.group then 1 else 0) + q.required.length = placeholderCount demands q := by
    simp [placeholderCount]
  simp only [RoomFits, Bool.and_eq_true, decide_eq_true_eq, hlast, Option.some.injEq, forall_eq', hcount]

/-! ### The checks in their order -/

/-- A check read as a condition. -/
def asCondition (c : Nat × Bool) : Nat × Prop := (c.1, c.2 = true)

theorem asCondition_eq {item : Nat} {check : Bool} {condition : Prop} (h : check = true ↔ condition) :
    asCondition (item, check) = (item, condition) := by rw [asCondition, propext h]

theorem asConditions_hold {checks : List (Nat × Bool)} : (∀ x ∈ checks.map asCondition, x.2) ↔ ∀ c ∈ checks, c.2 = true :=
  List.forall_mem_map

/-- Records read by number are examined by number. -/
theorem mapIdx_map_range {α β : Type} (read : Nat → α) (f : Nat → α → β) (n : Nat) :
    ((List.range n).map read).mapIdx f = (List.range n).map (fun i => f i (read i)) :=
  List.ext_getElem (by simp) (by simp)

theorem readImage_roles (b : List Byte) : (readImage b).roles = (List.range (imageRoles b)).map (readRole b) := rfl

theorem readImage_demands (b : List Byte) : (readImage b).demands = (List.range (imageDemands b)).map (readDemand b) := rfl

/-- The placeholder checks of an image are the last conditions of Table 10-3. -/
theorem roomItems_eq (b : List Byte) :
    (List.range (readImage b).roles.length).map
        (fun i => (16 + i, RoomFits (readImage b).demands ((readImage b).roles.take (i + 1)))) =
      (List.range (imageRoles b)).map (fun i => asCondition (16 + i,
        decide ((((readImage b).roles.take (i + 1)).map (placeholderCount (readImage b).demands)).sum ≤ 48)
          && decide (placeholderCount (readImage b).demands (readRole b i) ≤ 16))) := by
  have hlen : (readImage b).roles.length = imageRoles b := by simp [readImage_roles]
  rw [hlen]
  refine List.map_congr_left fun i hi => (asCondition_eq (roomOk_iff ?_)).symm
  rw [readImage_roles, List.getElem?_map, List.getElem?_range (List.mem_range.mp hi), Option.map_some]

/-- The checks of an image are, item by item, the conditions of Table 10-3. -/
theorem contentItems_eq (own : Nat) (b : List Byte) : contentItems own b = (contentChecks own b).map asCondition := by
  have hroles (f : Nat → RoleCfg → Nat × Prop) :
      (readImage b).roles.mapIdx f = (List.range (imageRoles b)).map (fun i => f i (readRole b i)) := mapIdx_map_range _ f _
  have hdemands (f : Nat → DemandCfg → Nat × Prop) :
      (readImage b).demands.mapIdx f = (List.range (imageDemands b)).map (fun i => f i (readDemand b i)) := mapIdx_map_range _ f _
  simp only [contentItems, contentChecks, imageMode, hroles, hdemands, roomItems_eq, List.map_append, List.map_map,
    Function.comp_def, List.map_cons, List.map_nil, asCondition_eq timingOk_iff, asCondition_eq channelOk_iff,
    asCondition_eq fanOk_iff, asCondition_eq roleChecked_iff, asCondition_eq demandOk_iff]

/-- The first check that fails is the first condition that does. -/
theorem firstFailing_iff {checks : List (Nat × Bool)} {item : Nat} :
    (checks.find? (fun c => !c.2)).map (·.1) = some item ↔
      ∃ before after condition, checks.map asCondition = before ++ (item, condition) :: after
        ∧ (∀ x ∈ before, x.2) ∧ ¬condition := by
  constructor
  · intro h
    obtain ⟨⟨_, check⟩, hfind, rfl⟩ := Option.map_eq_some_iff.mp h
    obtain ⟨hfails, before, after, rfl, hpass⟩ := List.find?_eq_some_iff_append.mp hfind
    exact ⟨before.map asCondition, after.map asCondition, check = true, List.map_append,
      asConditions_hold.mpr (by simpa using hpass), by simpa using hfails⟩
  · rintro ⟨before, after, condition, heq, hpass, hfails⟩
    obtain ⟨before, rest, rfl, rfl, hrest⟩ := List.map_eq_append_iff.mp heq
    obtain ⟨⟨_, check⟩, after, rfl, hc, rfl⟩ := List.map_eq_cons_iff.mp hrest
    obtain ⟨rfl, rfl⟩ := Prod.mk.inj hc
    have hbefore := asConditions_hold.mp hpass
    exact Option.map_eq_some_iff.mpr
      ⟨_, List.find?_eq_some_iff_append.mpr ⟨by simpa using hfails, before, after, rfl, by simpa using hbefore⟩, rfl⟩

/-- An image has no content fault exactly when every condition of Table 10-3 holds. -/
theorem contentFault_none_iff (own : Nat) (b : List Byte) : contentFault own b = none ↔ ∀ x ∈ contentItems own b, x.2 := by
  rw [contentItems_eq, asConditions_hold]
  exact ⟨contentChecks_pass own b, fun h => by simpa [contentFault] using h⟩

/-- The content fault of an image is the item of the first condition that fails. -/
theorem contentFault_some_iff (own : Nat) (b : List Byte) (item : Nat) :
    contentFault own b = some item ↔
      ∃ before after condition, contentItems own b = before ++ (item, condition) :: after
        ∧ (∀ x ∈ before, x.2) ∧ ¬condition := by
  rw [contentItems_eq]
  exact firstFailing_iff

/-- The checks of an image whose counts find room bear the items 1 to 27. -/
theorem contentChecks_item {own : Nat} {b : List Byte} (hroles : imageRoles b ≤ 4) (hdemands : imageDemands b ≤ 8) :
    ∀ c ∈ contentChecks own b, 1 ≤ c.1 ∧ c.1 ≤ 27 := by
  simp only [contentChecks, List.forall_mem_append, List.forall_mem_map, List.mem_range, List.forall_mem_singleton]
  refine ⟨⟨⟨⟨⟨?_, ?_⟩, ?_⟩, ?_⟩, ?_⟩, ?_⟩ <;> omega

theorem contentFault_item {own : Nat} {b : List Byte} {item : Nat} (hroles : imageRoles b ≤ 4) (hdemands : imageDemands b ≤ 8)
    (h : contentFault own b = some item) : 1 ≤ item ∧ item ≤ 27 := by
  obtain ⟨c, hfind, rfl⟩ := Option.map_eq_some_iff.mp h
  exact contentChecks_item hroles hdemands c (List.mem_of_find?_eq_some hfind)

end Sys2Proof.Machine
end

section
/-! O17: the tests of a slot in their order (R161, R162). -/

namespace Sys2Proof.Machine

/-! ### The three tests before the content -/

theorem lengthRefused_iff {len : Nat} : lengthRefused len = true ↔ len < 7 ∨ 512 < len := decide_eq_true_iff

theorem imageCrcOk_eq_false_iff {b : List Byte} {len : Nat} :
    imageCrcOk b len = false ↔ (crcOf (bytesBits (imageBytes b (len - 2)))).toNat ≠ imageWord b (len - 2) :=
  beq_eq_false_iff_ne

theorem imageFormatOk_eq_false_iff {b : List Byte} {len : Nat} :
    imageFormatOk b len = false ↔ imageByte b 0 ≠ 0x26 ∨ 4 < imageRoles b ∨ 8 < imageDemands b ∨ len ≠ imageSize b := by
  simp only [imageFormatOk, Bool.and_eq_false_iff, beq_eq_false_iff_ne, decide_eq_false_iff_not, Nat.not_le, or_assoc]

/-- An image that passes the format test has at most 4 roles and 8 demand groups. -/
theorem counts_of_imageFormatOk {b : List Byte} {len : Nat} (h : ¬imageFormatOk b len = false) :
    imageRoles b ≤ 4 ∧ imageDemands b ≤ 8 := by
  rw [imageFormatOk_eq_false_iff] at h
  omega

/-! ### The judgement, branch by branch -/

section

variable {own : Nat} {b : List Byte}

theorem judgeSlot_lengthRefused (hlength : lengthRefused (imageWord b 1) = true) : judgeSlot own b = (.bad .imageFormat 0, none) :=
  if_pos hlength

theorem judgeSlot_crcWrong (hlength : ¬lengthRefused (imageWord b 1) = true) (hcrc : imageCrcOk b (imageWord b 1) = false) :
    judgeSlot own b = (.bad .imageCrc 0, none) := by
  rw [judgeSlot, if_neg hlength, if_pos hcrc]

theorem judgeSlot_formatWrong (hlength : ¬lengthRefused (imageWord b 1) = true) (hcrc : ¬imageCrcOk b (imageWord b 1) = false)
    (hformat : imageFormatOk b (imageWord b 1) = false) : judgeSlot own b = (.bad .imageFormat 0, none) := by
  rw [judgeSlot, if_neg hlength, if_neg hcrc, if_pos hformat]

theorem judgeSlot_contentWrong (hlength : ¬lengthRefused (imageWord b 1) = true) (hcrc : ¬imageCrcOk b (imageWord b 1) = false)
    (hformat : ¬imageFormatOk b (imageWord b 1) = false) {item : Nat} (hfault : contentFault own b = some item) :
    judgeSlot own b = (.bad .imageContent item, none) := by
  rw [judgeSlot, if_neg hlength, if_neg hcrc, if_neg hformat, hfault]

theorem judgeSlot_passes (hlength : ¬lengthRefused (imageWord b 1) = true) (hcrc : ¬imageCrcOk b (imageWord b 1) = false)
    (hformat : ¬imageFormatOk b (imageWord b 1) = false) (hfault : contentFault own b = none) :
    judgeSlot own b = (.valid, some (readImage b)) := by
  rw [judgeSlot, if_neg hlength, if_neg hcrc, if_neg hformat, hfault]

end

/-- Settles O17: the branches of the judgement are the tests in their order, and the content checks are those of Table 10-3. -/
theorem slotTestsInOrder : Obligations.SlotTestsInOrder := by
  intro own b len lengthBad crcBad formatBad
  have hlength : lengthRefused len = true ↔ lengthBad := lengthRefused_iff
  have hcrc : imageCrcOk b len = false ↔ crcBad := imageCrcOk_eq_false_iff
  have hformat : imageFormatOk b len = false ↔ formatBad := imageFormatOk_eq_false_iff
  rw [← hlength, ← hcrc, ← hformat]
  refine ⟨judgeSlot_lengthRefused, judgeSlot_crcWrong, judgeSlot_formatWrong, fun hl hc hf item hfault => ?_, judgeSlot_passes,
    contentFault_none_iff own b, contentFault_some_iff own b⟩
  obtain ⟨hroles, hdemands⟩ := counts_of_imageFormatOk hf
  exact ⟨judgeSlot_contentWrong hl hc hf hfault, contentFault_item hroles hdemands hfault⟩

end Sys2Proof.Machine
end

section
/-! SUPPORT. The form of the notice queue (R176, R177, R181) at a posting, at the removal of the head and at a start. -/

namespace Sys2Proof.Machine

/-! ### The sequence numbers -/

/-- The notices of a queue are numbered one after another up to the next sequence number (R176). -/
def Numbered (queue : List Notice) (next : BitVec 16) : Prop :=
  ∀ i n, queue[i]? = some n → n.seq + BitVec.ofNat 16 (queue.length - i) = next

theorem Numbered.append {queue : List Notice} {next : BitVec 16} (h : Numbered queue next) (record : Notice) (hseq : record.seq = next) :
    Numbered (queue ++ [record]) (next + 1) := by
  intro i n hn
  rw [List.length_append, List.length_singleton]
  obtain hlt | rfl | hgt := lt_trichotomy i queue.length
  · rw [List.getElem?_append_left hlt] at hn
    rw [Nat.sub_add_comm hlt.le, BitVec.ofNat_add, ← BitVec.add_assoc, h i n hn]
    rfl
  · obtain rfl : record = n := by simpa using hn
    rw [Nat.add_sub_cancel_left, hseq]
    rfl
  · simp [List.getElem?_append_right hgt.le, Nat.sub_ne_zero_of_lt hgt] at hn

/-- The notices behind the head keep their numbers. -/
theorem Numbered.drop {queue : List Notice} {next : BitVec 16} (h : Numbered queue next) : Numbered (queue.drop 1) next := by
  intro i n hn
  rw [List.getElem?_drop] at hn
  rw [List.length_drop, Nat.sub_sub]
  exact h (1 + i) n hn

theorem noticesOk_iff (s : State) :
    NoticesOk s ↔ s.notices.queue.length ≤ 16 ∧ s.notices.dropped ≤ 255 ∧ (s.notices.alertLine = true ↔ s.notices.queue ≠ [])
      ∧ Numbered s.notices.queue s.notices.next := Iff.rfl

theorem Notices.push_numbered (n : Notices) (time : Nat) (kind : NoticeKind) (subject : Nat) (value : Option Int)
    (h : Numbered n.queue n.next) : Numbered (n.push time kind subject value).queue (n.push time kind subject value).next := by
  unfold Notices.push
  dsimp only
  split
  · exact h.append _ rfl
  · exact h.drop.append _ rfl

end Sys2Proof.Machine
end

section
/-! SUPPORT. The operations of the blocks post notices and do nothing else to them: what a posting keeps, each of them keeps. -/

namespace Sys2Proof.Machine

/-- What has to be shown of a property for the operations of the blocks to keep it: it sees the notices alone, and a posting keeps
it (R176). -/
structure PostInvariant (P : State → Prop) : Prop where
  /-- Nothing but the notices is seen. -/
  same : ∀ {s t : State}, P s → t.notices = s.notices → P t
  /-- A notice is posted. -/
  post : ∀ (s : State) (kind : NoticeKind) (subject : Nat) (value : Option Int), P s → P (s.post kind subject value)

namespace PostInvariant

variable {P : State → Prop} (hP : PostInvariant P) {s : State} (h : P s)
include hP h

/-- A posting after changes that leave the notices. -/
theorem posted {t : State} {kind : NoticeKind} {subject : Nat} {value : Option Int} (ht : t.notices = s.notices) :
    P (t.post kind subject value) := hP.post t kind subject value (hP.same h ht)

/-! ### The transmit queue and the end of an event -/

theorem discard (p : Payload) : P (s.discard p) := by
  have hoverflow : P (s.postOverflow p) := hP.post s _ _ _ h
  exact hP.same hoverflow (by simp [State.discard])

/-- An offer posts TX_OVERFLOW of a discarded frame, or nothing (R146). -/
theorem offer {t : State} {p : Payload} (ht : t.notices = s.notices) : P (t.offer p) := by
  have hsame : P t := hP.same h ht
  unfold State.offer
  repeat' split
  · exact hsame
  · exact hP.same hsame (by simp)
  · exact hP.same hsame (by simp)
  · exact hP.discard (hP.same hsame (by simp)) _
  · exact hP.discard hsame p

theorem finish : P s.finish := by
  refine State.forRoles_keeps P _ s (fun u r hu => ?_) h
  unfold State.flushRole
  repeat' split
  · exact hu
  · exact hP.same hu (by simp)
  · exact hP.offer hu (by simp)
  · exact hu

/-! ### Claim Unit (01) -/

theorem endClaim (r n : Nat) : P (s.endClaim r n) := by
  unfold State.endClaim
  repeat' split
  · exact h
  · exact h
  · exact hP.same h (by simp)
  · exact hP.posted h (by simp)
  · exact hP.same h (by simp)
  · exact h
  · exact h

theorem refreshClaim (r n : Nat) (item : DemandItem) (e : ClaimEntry) : P (s.refreshClaim r n item e) := by
  unfold State.refreshClaim
  dsimp only
  repeat' split
  · exact h
  · exact hP.same h (by simp)
  · exact hP.posted h (by simp)
  · exact hP.same h (by simp)

theorem newClaim (r n : Nat) (role : Role) (item : DemandItem) : P (s.newClaim r n role item) := by
  have hfolded (level : Nat) : P (s.foldPeak r role level) := by
    unfold State.foldPeak
    dsimp only
    repeat' split
    · exact h
    · exact hP.posted h (by simp)
    · exact hP.same h (by simp)
  unfold State.newClaim
  repeat' split
  · exact hP.same h (by simp)
  · exact hP.same h (by simp)
  · exact hfolded _

theorem takeItem (n : Nat) (item : DemandItem) : P (s.takeItem n item) := by
  unfold State.takeItem
  repeat' split
  · exact h
  · exact h
  · exact hP.refreshClaim h _ n item _
  · exact hP.newClaim h _ n _ item

theorem takeDemand (n : Nat) (items : List DemandItem) : P (s.takeDemand n items) := by
  have hwithdrawn : P (s.forRoles (State.withdrawUnlisted n items)) := by
    refine State.forRoles_keeps P _ s (fun u r hu => ?_) h
    unfold State.withdrawUnlisted
    repeat' split
    · exact hu
    · exact hu
    · exact hP.endClaim hu r n
  have htaken := State.foldl_keeps P (State.takeItem n) items _ (fun _ item hu => hP.takeItem hu n item) hwithdrawn
  exact hP.same htaken (by simp [State.takeDemand])

theorem handTarget (r : Nat) : P (s.handTarget r) := hP.same h (by simp)

theorem reportAwaited (r : Nat) (role : Role) : P (s.reportAwaited r role) :=
  State.foldl_keeps P _ _ _ (fun u _ hu => hP.post u _ _ _ hu) (hP.same h (by simp))

/-! ### Drive Unit and Temperature Unit (02, 04) -/

theorem measureFan (c : Nat) (f : FanChannel) (edges : List Nat) : P (s.measureFan c f edges) := by
  have htold (u : State) (hu : P u) (after : FanChannel) : P (u.postFan c f after) := by
    unfold State.postFan
    repeat' split
    · exact hP.post u _ _ _ hu
    · exact hP.post u _ _ _ hu
    · exact hu
  unfold State.measureFan
  dsimp only
  generalize FanChannel.measured _ _ _ = after
  have hmeasured := htold { s with fans := s.fans.set c after } (hP.same h (by simp)) after
  repeat' split
  · exact hP.same hmeasured (by simp)
  · exact hmeasured
  · exact hP.same h (by simp)

theorem postHealth (i : Nat) (before after : TempChannel) : P (s.postHealth i before after) := by
  unfold State.postHealth
  repeat' split
  · exact hP.posted h (by simp)
  · exact hP.posted h (by simp)
  · exact h

theorem postWatch (i : Nat) (before after : TempChannel) : P (s.postWatch i before after) := by
  unfold State.postWatch
  repeat' split
  · exact h
  · exact h
  · exact hP.posted h (by simp)
  · exact hP.posted h (by simp)
  · exact h
  · exact h
  · exact hP.posted h (by simp)
  · exact h
  · exact h

/-- A notice that comes with a FAILSAFE cause set or cleared at every drive (R85, R153, R154). -/
theorem caused {t : State} {kind : NoticeKind} {subject : Nat} {value : Option Int} {f : Causes → Causes}
    (ht : t.notices = (s.post kind subject value).notices) : P (t.setCausesAll f) := by
  have hposted : P (s.post kind subject value) := hP.posted h (by simp)
  exact hP.same hposted (by simp [ht])

theorem enterCritical (i : Nat) (reading : Option Int) : P (s.enterCritical i reading) := by
  have hcaused : P (({ s.post .critical i reading with shutdown := true } : State).setCausesAll fun c => { c with critical := true }) :=
    hP.caused h (kind := .critical) (subject := i) (value := reading) rfl
  unfold State.enterCritical
  dsimp only
  split
  · exact hP.offer hcaused (by simp)
  · exact hcaused

theorem takeRound (ms : List Measurement) : P (s.takeRound ms) := by
  refine State.foldl_keeps P _ _ s (fun u i hu => ?_) h
  have htold (c after : TempChannel) : P (((u.modTemp i fun _ => after).postHealth i c after).postWatch i c after) :=
    hP.postWatch (hP.postHealth (hP.same hu (by simp)) _ _ _) _ _ _
  unfold State.takeChannel
  dsimp only
  repeat' split
  · exact hu
  · exact hP.enterCritical (htold _ _) i _
  · exact htold _ _
  · exact hu

/-! ### Demand Unit (05, 06) -/

theorem demandTransmitted (items : List DemandItem) : P (s.demandTransmitted items) := by
  unfold State.demandTransmitted
  dsimp only
  split
  · exact hP.offer h (by simp)
  · exact hP.same h (by simp)

/-- A monitor changes, with its notice, and THROTTLE is evaluated (R112, R114, R118). -/
theorem monitorTold (i : Nat) (f : DemandEntry → DemandEntry) (kind : NoticeKind) (n : Nat) (v : Option Int) :
    P ((s.modEntry i f).post kind n v).evaluateThrottle := by
  have hposted : P ((s.modEntry i f).post kind n v) := hP.posted h (by simp)
  exact hP.same hposted (by simp)

theorem enterSaturated (i : Nat) (d : DemandEntry) : P (s.enterSaturated i d) := by
  have htold := hP.monitorTold h i (fun d => { d with sat := .saturated, satCount := s.saturationQuarters }) .saturated d.cfg.group
    (some d.level)
  unfold State.enterSaturated
  dsimp only
  split
  · exact hP.offer htold (by simp)
  · exact htold

theorem leaveSaturated (i : Nat) (d : DemandEntry) : P (s.leaveSaturated i d) := by
  have htold := hP.monitorTold h i (fun d => { d with sat := .clear, satCount := 0, satRepeat := .stopped }) .saturationCleared
    d.cfg.group (some d.curvePart)
  unfold State.leaveSaturated
  dsimp only
  split
  · exact hP.offer htold (by simp)
  · exact htold

theorem takeMonitor (i : Nat) : P (s.takeMonitor i) := by
  unfold State.takeMonitor
  repeat' split
  · exact h
  · exact hP.leaveSaturated h i _
  · exact h
  · exact hP.same h (by simp)
  · exact hP.enterSaturated h i _
  · exact hP.same h (by simp)
  · exact hP.same h (by simp)
  · exact h
  · exact hP.same h (by simp)
  · exact hP.same h (by simp)

theorem computeDemand : P s.computeDemand := by
  have hposted {u : State} (hu : P u) : P u.postAtComputation := by
    unfold State.postAtComputation
    repeat' split
    · exact hP.offer hu (by simp)
    · exact hu
    · exact hP.offer hu (by simp)
    · exact hu
  unfold State.computeDemand
  dsimp only
  split
  · exact h
  · exact State.foldl_keeps P _ _ _ (fun _ i hu => hP.takeMonitor hu i) (hposted (hP.same h (by simp [State.updateOwnClaims])))

/-! ### Drivership Unit (03) -/

theorem queueTakeover {t : State} (r : Nat) (ht : t.notices = s.notices) : P (t.queueTakeover r) := by
  unfold State.queueTakeover
  split
  · exact hP.same h ht
  · exact hP.offer h ht

theorem queueHandback {t : State} (r : Nat) (ht : t.notices = s.notices) : P (t.queueHandback r) := by
  unfold State.queueHandback
  repeat' split
  · exact hP.same h ht
  · exact hP.same h ht
  · exact hP.offer h (by simp [ht])

theorem takeConflict (r : Nat) (role : Role) (n : Nat) (e : Epoch) (other : RoleKind) : P (s.takeConflict r role n e other) := by
  have htold : P (s.conflictTold role n e other) := by
    unfold State.conflictTold
    split
    · exact hP.posted h (by simp)
    · exact h
  have hlost {u : State} (hu : P u) : P (u.loseConflict r role n e) := by
    unfold State.loseConflict
    split
    · exact hP.posted hu (by simp)
    · exact hP.same hu (by simp)
  rw [s.takeConflict_eq]
  split
  · exact hP.same htold (by simp)
  · exact hlost htold

theorem hearOther (r : Nat) (role : Role) (n : Nat) (e : Epoch) : P (s.hearOther r role n e) := by
  unfold State.hearOther
  dsimp only
  repeat' split
  · exact h
  · exact hP.queueHandback h r (by simp)
  · exact hP.same h (by simp)

theorem answerHandback (role : Role) (n : Nat) (e : Epoch) : P (s.answerHandback role n e) := by
  unfold State.answerHandback
  dsimp only
  split
  · exact hP.offer h (by simp)
  · exact h

theorem roleFrame (r : Nat) (role : Role) (n : Nat) (e : Epoch) (p : Payload) : P (s.roleFrame r role n e p) := by
  have haccepted (level : Nat) : P (s.acceptYield r role e level) := hP.posted h (by simp)
  unfold State.roleFrame
  repeat' split
  -- LISTEN, then OWN and ACT, then DISPLACED and RECLAIM, at STATUS and TAKEOVER
  iterate 4 exact hP.same h (by simp)
  iterate 4 exact hP.takeConflict h r role n e _
  iterate 4 exact hP.hearOther h r role n e
  -- RECLAIM at YIELD
  · exact haccepted _
  · exact h
  · exact h
  -- WATCH and CLAIMING, then ACT at HANDBACK
  iterate 12 exact hP.same h (by simp)
  · exact hP.answerHandback h role n e
  · exact h

theorem driveshipTakes (n : Nat) (p : Payload) : P (s.driveshipTakes n p) := by
  unfold State.driveshipTakes
  repeat' split
  · exact h
  · exact h
  · exact h
  · next g e _ _ r _ _ role _ =>
    have hframe := hP.roleFrame h r role n e p
    exact hP.same hframe (by simp)

theorem reportTransmitted (p : Payload) : P (s.reportTransmitted p) := by
  have htakeover (g : Nat) (e : Epoch) : P (s.takeoverTransmitted g e) := by
    unfold State.takeoverTransmitted
    repeat' split
    · exact h
    · exact h
    · exact hP.posted h (by simp)
    · exact hP.posted h (by simp)
    all_goals exact h
  have hyield (g : Nat) (e : Epoch) : P (s.yieldTransmitted g e) := by
    unfold State.yieldTransmitted
    repeat' split
    · exact h
    · exact h
    · exact hP.posted h (by simp)
    all_goals exact h
  cases p with
  | demand items => exact hP.demandTransmitted h items
  | takeover g e => exact htakeover g e
  | handback g e => exact hP.same (t := s.handbackTransmitted g) h (by simp)
  | yield g e a l => exact hyield g e
  | status c => exact h
  | alert k n v => exact h

theorem roleRuns (r : Nat) : P (s.roleRuns r) := by
  unfold State.roleRuns
  repeat' split
  · exact h
  · exact hP.queueHandback h r (by simp)
  · exact hP.same h (by simp)
  · exact hP.queueTakeover h r (by simp)
  all_goals exact h

theorem roleRejoined (r : Nat) : P (s.roleRejoined r) := by
  unfold State.roleRejoined
  dsimp only
  repeat' split
  · exact h
  · exact hP.queueHandback h r (by simp)
  · exact hP.same h (by simp)

/-! ### Peer Unit (06, 09) -/

theorem isolate : P s.isolate := by
  unfold State.isolate
  exact State.forRoles_keeps P _ _ (fun _ _ hu => hP.same hu (by simp)) (hP.caused (hP.same h (by simp)) rfl)

theorem linkTakes (n : Nat) : P (s.linkTakes n) := by
  have hrejoined : P (s.rejoin n) := by
    unfold State.rejoin
    exact State.forRoles_keeps P _ _ (fun _ r hu => hP.roleRejoined hu r) (hP.caused (hP.same h (by simp)) rfl)
  unfold State.linkTakes
  repeat' split
  · exact hrejoined
  · exact hP.same h (by simp)
  · exact h

theorem peerContent (n : Nat) (p : Payload) : P (s.peerContent n p) := by
  have hsaturated (g : Nat) : P (s.takeSaturation n g) := by
    unfold State.takeSaturation
    dsimp only
    split
    · exact hP.same h (by simp)
    · exact hP.posted h (by simp)
  have hcritical (c : Nat) (v : Int) : P (s.takeCritical n c v) := by
    unfold State.takeCritical
    dsimp only
    split
    · exact hP.same h (by simp)
    · exact hP.posted h (by simp)
  unfold State.peerContent
  repeat' split
  · exact hP.same h (by simp)
  · exact h
  · exact hcritical _ _
  · exact hsaturated _
  · exact h
  · exact hP.same h (by simp)
  all_goals exact h

theorem peerTakes (n : Nat) (p : Payload) : P (s.peerTakes n p) := by
  have hroster (kind : FrameKind) : P (s.rosterTakes n kind) := by
    unfold State.rosterTakes
    split
    · exact hP.same h (by simp)
    · exact hP.posted h (by simp)
  exact hP.peerContent (hP.linkTakes (hroster _) n) n p

end PostInvariant
end Sys2Proof.Machine
end

section
/-! SUPPORT. What a command can do to the notices: one principle for their invariants. -/

namespace Sys2Proof.Machine

/-- What has to be shown of a property of the notices for every step to keep it: beside postings there are the removal of the head,
CLEAR_LATCHES and the entry into RESET_HELD. -/
structure NoticeInvariant (P : State → Prop) : Prop extends PostInvariant P where
  /-- TAKE_NOTICE (R173). -/
  takeHead : ∀ s : State, P s → P s.takeHead
  /-- CLEAR_LATCHES (R174). -/
  clearLatches : ∀ s : State, P s → P s.clearLatches
  /-- RESET_HELD is entered (R157, R180). -/
  held : ∀ (s : State) (delivered : Nat), P (s.resetHeld delivered)

namespace PostInvariant

variable {P : State → Prop} (hP : PostInvariant P) {s : State} (h : P s)
include hP h

/-! ### Starts and slots -/

/-- The entry into FAULTED posts FAULT (R166). -/
theorem enterFaulted {t : State} {cause : Cause} {item : Nat} (ht : t.notices = s.notices) : P (t.enterFaulted cause item) := by
  have hblocks {u : State} (hu : P u) : P u.blocksFault := by
    have hstopped : P (u.forRoles State.stopActing) := State.forRoles_keeps P _ u (fun _ _ hv => hP.same hv (by simp)) hu
    exact hP.same hstopped rfl
  exact hblocks (hP.posted h ht)

theorem enterJoining {t : State} {slot : Slot} {img : Image} (ht : t.notices = s.notices) : P (t.enterJoining slot img) :=
  hP.same h (by simp [State.enterJoining, ht])

theorem beginLoading {t : State} (straps : Straps) (ht : t.notices = s.notices) : P (t.beginLoading straps) := by
  unfold State.beginLoading
  dsimp only
  split
  · exact hP.same h ht
  · exact hP.enterFaulted h ht

/-- RESTART keeps the notices and posts RESTARTED (R159, R180). -/
theorem restart (straps : Straps) : P (s.restart straps) := by
  unfold State.restart
  exact hP.beginLoading (hP.posted h (by simp)) straps rfl

theorem slotJudged (l : Load) (result : SlotResult) (img : Option Image) : P (s.slotJudged l result img) := by
  have hchosen {u : State} (hu : P u) (a b : Option Image) : P (u.chooseImage a b) := by
    unfold State.chooseImage
    repeat' split
    · exact hP.enterJoining hu rfl
    · exact hP.enterJoining hu rfl
    · exact hP.enterJoining (hP.post u _ _ _ hu) rfl
    · exact hP.enterJoining (hP.post u _ _ _ hu) rfl
    · exact hP.enterFaulted hu rfl
    · exact hu
    · exact hu
  unfold State.slotJudged
  split
  · exact hP.same h (by simp)
  · exact hchosen (hP.same h (by simp)) _ _

theorem slotAnswered (l : Load) (bytes : List Byte) (ended : Bool) : P (s.slotAnswered l bytes ended) := by
  unfold State.slotAnswered
  dsimp only
  split
  · exact hP.slotJudged h l _ _
  · exact hP.same h (by simp)

/-! ### Frames and the line -/

theorem othersTake (n : Nat) (p : Payload) : P (s.othersTake n p) := by
  unfold State.othersTake
  split
  · exact hP.takeDemand h n _
  iterate 4 exact hP.driveshipTakes h n _
  · exact h

/-- A frame delivered, the blocks in either order (R140, R141, R154). -/
theorem deliver (n : Nat) (p : Payload) : P (s.deliver n p) := by
  have hall : P (s.deliverAll n p) := by
    unfold State.deliverAll
    dsimp only
    repeat' split
    · exact hP.othersTake (hP.peerTakes (hP.same h (by simp)) n p) n p
    · exact hP.peerTakes (hP.othersTake (hP.same h (by simp)) n p) n p
    · exact hP.othersTake (hP.peerTakes h n p) n p
  unfold State.deliver
  repeat' split
  · exact h
  · exact h
  · exact hP.enterFaulted h rfl
  · exact hall
  · exact hP.enterFaulted h rfl
  · exact hall
  · exact h
  · exact hP.peerTakes h n p

/-- A frame that ends at the receiver (R128, R138). -/
theorem receive (n : Nat) (p : Payload) : P (s.receive n p) := by
  unfold State.receive
  repeat' split
  · exact hP.finish (hP.deliver (hP.same h (by simp)) n p)
  · exact hP.same h (by simp)
  · exact h

/-- A frame that the checks discard (R139). -/
theorem discarded : P (if s.receiving then (s.setLine .notIdle).countBad else s) := by
  split
  · exact hP.same h (by simp)
  · exact h

/-- An overlap, and the fault that a third one is (R130, R131). -/
theorem meetOverlap (e : QEntry) : P (s.meetOverlap e) := by
  unfold State.meetOverlap
  dsimp only
  split
  · exact hP.enterFaulted h (by simp)
  · exact hP.same h (by simp)

/-- An expiry keeps what its effect keeps. -/
theorem onExpiry (timer : Timer) (k : State → State) (hk : ∀ u : State, P u → P (k u)) : P (Machine.onExpiry timer k s) := by
  unfold Machine.onExpiry
  split
  · exact hk _ (hP.same h (by simp))
  · exact h
  · exact h

end PostInvariant

namespace NoticeInvariant

variable {P : State → Prop} (hP : NoticeInvariant P) {s : State} (h : P s)
include hP h

/-! ### The service port -/

/-- The end of a transaction, and the action that it may bring (R170, R173 to R175). -/
theorem endTransfer (straps : Straps) : P (s.endTransfer straps) := by
  have hidle : P { s with port := { s.port with transfer := .idle } } := hP.same h rfl
  unfold State.endTransfer
  dsimp only
  repeat' split
  · next action _ =>
    cases action with
    | select v => exact hP.same h rfl
    | takeNotice => exact hP.takeHead _ hidle
    | clearLatches => exact hP.clearLatches _ hidle
    | restart => exact hP.restart hidle straps
  · exact hidle
  · exact h

theorem bringBytes (bytes : List Byte) : P (s.bringBytes bytes) := hP.same h rfl

theorem portWrite (straps : Straps) (bytes : List Byte) : P (s.portWrite straps bytes) := by
  unfold State.portWrite
  split
  · exact hP.endTransfer (hP.bringBytes (hP.endTransfer h _) bytes) straps
  · exact h

/-! ### Every command -/

theorem exec {t : State} (c : Instr) (he : exec c s = .next t) : P t := by
  cases c
  all_goals (injection he with he; subst he)
  -- Starts and slots
  case resetHeldEntry delivered => exact hP.held s delivered
  case resetHeldEnd straps =>
    split
    · exact hP.beginLoading h straps rfl
    all_goals exact h
  case memoryAnswerTimeout =>
    split
    · exact h
    · exact hP.onExpiry h _ _ fun _ hu => hP.slotJudged hu _ _ _
  case slotReadComplete bytes status ended =>
    split
    · exact h
    · next l _ =>
      dsimp only
      generalize (if l.ready then l else l.queried status) = l'
      split
      · exact hP.slotAnswered h l' bytes ended
      · exact hP.same h (by simp)
  case joinWindowExpiry =>
    refine hP.onExpiry h _ _ fun u hu => hP.finish ?_
    exact State.forRoles_keeps P _ _ (fun _ r hv => hP.roleRuns hv r) (hP.posted hu (by simp))
  -- The round, the demand record and its monitors
  case roundComplete ms =>
    refine hP.onExpiry h _ _ fun u hu => hP.finish ?_
    have hround : P (State.takeRound { u with roundTimer := .running (u.now + 250) } ms) := hP.takeRound (hP.same hu (by simp)) ms
    split
    · exact hP.computeDemand hround
    · exact hround
  case criticalAlertRepeatExpiry i =>
    split
    · exact h
    · refine hP.onExpiry h _ _ fun u hu => hP.finish ?_
      split
      · exact hP.same hu (by simp)
      · exact hP.offer hu (by simp)
  case refreshTimerExpiry =>
    refine hP.onExpiry h _ _ fun u hu => hP.finish ?_
    split
    · exact hP.same hu (by simp)
    · exact hP.offer hu (by simp)
  case saturationAlertRepeatExpiry g =>
    repeat' split
    · exact h
    · exact h
    · refine hP.onExpiry h _ _ fun u hu => hP.finish ?_
      split
      · exact hP.same hu (by simp)
      · exact hP.offer hu (by simp)
  -- Claims and drives
  case claimExpiry r n =>
    repeat' split
    · exact h
    · exact h
    · exact h
    · exact h
    · exact hP.finish (hP.handTarget (hP.endClaim (hP.same h (by simp)) r n) r)
  case joinGraceEnd r =>
    split
    · exact h
    · exact hP.onExpiry h _ _ fun _ hu => hP.finish (hP.handTarget (hP.reportAwaited hu r _) r)
  case tachMeasurement i edges =>
    split
    · exact h
    · exact hP.onExpiry h _ _ fun _ hu => hP.finish (hP.measureFan hu i _ edges)
  case peakExpiry | stopDelayExpiry | spinUpExpiry | statusTimerExpiry =>
    split
    · exact h
    · exact hP.onExpiry h _ _ fun _ hu => hP.finish (hP.same hu (by simp))
  case rampTimerExpiry r =>
    repeat' split
    · exact h
    · exact h
    · exact hP.finish (hP.same h (by simp))
    · exact hP.finish (hP.same h (by simp))
  -- The role machines
  case silenceTimerExpiry r =>
    split
    · exact h
    · refine hP.onExpiry h _ _ fun _ hu => ?_
      split
      · exact hP.finish (hP.queueTakeover hu r (by simp))
      · exact hP.same hu (by simp)
      all_goals exact hu
  case otherSilenceExpiry r =>
    split
    · exact h
    · refine hP.onExpiry h _ _ fun _ hu => ?_
      dsimp only
      repeat' split
      · exact hP.same hu (by simp)
      · exact hP.finish (hP.queueTakeover hu r (by simp))
      · exact hP.finish (hP.queueTakeover hu r (by simp))
      all_goals exact hP.same hu (by simp)
  case displacedHoldExpiry r =>
    split
    · exact h
    · exact hP.onExpiry h _ _ fun _ hu => hP.finish (hP.queueHandback hu r (by simp))
  case handbackWaitExpiry r =>
    split
    · exact h
    · refine hP.onExpiry h _ _ fun _ hu => hP.finish ?_
      repeat' split
      · exact hP.queueTakeover hu r (by simp)
      · exact hP.queueHandback hu r (by simp)
      · exact hP.queueTakeover hu r (by simp)
  -- The roster and the connection
  case rosterLoss n =>
    split
    · exact h
    · next e _ =>
      have hlate : P (s.until (e.heardAt + 30000)) := hP.same h (by simp)
      have hposted := hP.post _ .peerLost n (some (e.lastHeard : Int)) hlate
      exact hP.same hposted rfl
  case linkSilenceExpiry =>
    refine hP.onExpiry h _ _ fun _ hu => ?_
    repeat' split
    · exact hP.same hu (by simp)
    · exact hP.finish (hP.isolate hu)
    · exact hu
  -- Frames and the line
  case demandFrame n items => exact hP.receive h n _
  case statusFrame n content => exact hP.receive h n _
  case takeoverFrame n g e => exact hP.receive h n _
  case handbackFrame n g e => exact hP.receive h n _
  case yieldFrame n g e a l => exact hP.receive h n _
  case alertFrame n k i v => exact hP.receive h n _
  case badFrameReceived frame =>
    split
    · exact hP.receive h _ _
    · exact hP.discarded h
  case pulseError pulse =>
    split
    · split
      · exact hP.meetOverlap h _
      · exact hP.discarded h
    · exact h
  case overlap mismatch =>
    repeat' split
    · exact hP.meetOverlap h _
    · exact h
    · exact h
  case lineStuck =>
    dsimp only
    repeat' split
    · exact hP.same h rfl
    · exact hP.same h rfl
    · exact hP.posted h rfl
    · exact hP.posted h rfl
    · exact h
  case frameTransmitted =>
    split
    · exact h
    · exact hP.finish (hP.reportTransmitted (hP.same h (by simp)) _)
  -- The service port
  case restart | takeNotice | clearLatches | stationView | channelView | fanView | roleView | claimsView | groupviewView | rosterView
      | demandView | satboardView | noticeView | countsView => exact hP.portWrite h _ _
  case writeRefused address bytes ended =>
    dsimp only
    repeat' split
    · exact hP.endTransfer (hP.bringBytes h bytes) _
    · exact hP.bringBytes h bytes
    · exact hP.endTransfer h _
  case readTransaction address count =>
    dsimp only
    split
    · exact hP.same (hP.endTransfer h s.ctl.straps) rfl
    · exact hP.endTransfer h _
  -- The other commands leave the notices
  case viewStale | boardRenewalExpiry | rosterSilent | lineIdle | contentionLoss | startMark =>
    refine hP.same h ?_
    repeat' split
    all_goals simp

theorem step {t : State} (he : step s = .next t) : P t := by
  unfold Machine.step at he
  split at he
  · injection he with he
    exact he ▸ hP.same h (by simp)
  · next c rest _ =>
    have hrest : P { s with pending := rest } := hP.same h rfl
    exact hP.exec hrest c he

end NoticeInvariant
end Sys2Proof.Machine
end

section
/-! O5: every step keeps the form of the notice queue (R176, R177, R181). -/

namespace Sys2Proof.Machine

/-- A posting keeps the form. -/
theorem postInvariant_noticesOk : PostInvariant NoticesOk where
  same h ht := by rwa [NoticesOk, ht]
  post s kind subject value h := by
    obtain ⟨hlength, hdropped, -, hnumbered⟩ := (noticesOk_iff s).mp h
    obtain ⟨halert, hqueue⟩ := s.notices.push_alert s.timeBase kind subject value
    exact ⟨s.notices.push_length _ _ _ _ hlength, s.notices.push_dropped _ _ _ _ hdropped, iff_of_true halert hqueue,
      s.notices.push_numbered _ _ _ _ hnumbered⟩

/-- The form is kept by the removal of the head and by CLEAR_LATCHES, and an empty queue has it. -/
theorem noticeInvariant_noticesOk : NoticeInvariant NoticesOk where
  toPostInvariant := postInvariant_noticesOk
  takeHead s h := by
    obtain ⟨hlength, hdropped, -, hnumbered⟩ := (noticesOk_iff s).mp h
    refine ⟨(List.drop_sublist 1 _).length_le.trans hlength, hdropped, ?_, hnumbered.drop⟩
    rw [State.takeHead, decide_eq_true_iff, ← List.length_pos_iff, List.length_drop, Nat.sub_pos_iff_lt]
  clearLatches s h := by
    obtain ⟨hlength, -, halert, hnumbered⟩ := (noticesOk_iff s).mp h
    exact ⟨hlength, Nat.zero_le _, halert, hnumbered⟩
  held s delivered := ⟨Nat.zero_le _, Nat.zero_le _, iff_of_false Bool.false_ne_true fun hne => hne rfl, fun _ _ hn => nomatch hn⟩

end Sys2Proof.Machine

open Sys2Proof Sys2Proof.Machine

/-- Settles O5: the blocks post and nothing else touches the queue but the removal of the head, CLEAR_LATCHES and a start, each of
which keeps the form. -/
theorem stepKeepsNotices : Obligations.StepKeepsNotices := fun _ _ hs h => noticeInvariant_noticesOk.step hs h

end

section
/-! O59: TAKE_NOTICE (R173, R181). -/

open Sys2Proof Sys2Proof.Machine

namespace Sys2Proof.Machine

/-- TAKE_NOTICE is the removal of the head, on the state that the start of its transaction left. -/
theorem exec_takeNotice {s : State} (hs : s.started = true) : exec .takeNotice s = .next (newTransaction s).takeHead :=
  congrArg Host.Outcome.next (s.portWrite_bare s.ctl.straps 0x40 .takeNotice hs rfl)

theorem State.takeHead_cons {s : State} {head : Notice} {rest : List Notice} (hq : s.notices.queue = head :: rest) :
    s.takeHead = { s with notices := { s.notices with queue := rest, alertLine := decide (rest ≠ []) } } := by
  simp [State.takeHead, hq, List.length_pos_iff]

/-- On an empty queue ALERT is released already. -/
theorem State.takeHead_nil {s : State} (h : NoticesOk s) (hq : s.notices.queue = []) : s.takeHead = s := by
  obtain ⟨-, -, halert, -⟩ := h
  have hreleased : s.notices.alertLine = false := Bool.eq_false_iff.mpr fun hon => halert.mp hon hq
  have hnotices : (⟨s.notices.queue.drop 1, s.notices.next, s.notices.dropped, decide (1 < s.notices.queue.length)⟩ : Notices)
      = s.notices := by
    rw [hq]
    exact Notices.mk.injEq .. ▸ ⟨hq.symm, rfl, rfl, hreleased.symm⟩
  exact congrArg (fun n : Notices => { s with notices := n }) hnotices

end Sys2Proof.Machine

/-- Settles O59: the write of the code byte takes the head of the queue, and on an empty queue there is none to take. -/
theorem noticeTaken : Obligations.NoticeTaken := by
  intro s hs u
  rw [exec_takeNotice hs]
  refine ⟨fun head rest hq => ?_, fun hok hq => ?_, rfl⟩
  · exact congrArg Host.Outcome.next (State.takeHead_cons hq)
  · exact congrArg Host.Outcome.next (State.takeHead_nil hok hq)

end

section
/-! O15: RESET_HELD, its end, and RESTART (R157, R159, R160, R169). -/

open Sys2Proof Sys2Proof.Machine

namespace Sys2Proof.Machine

/-! ### LOADING begins (R160) -/

theorem stationOk_iff {n : Nat} : stationOk n = true ↔ 1 ≤ n ∧ n ≤ 30 := by simp [stationOk]

theorem not_stationOk_of_strap {n : Nat} (h : n = 0 ∨ n = 31) : ¬stationOk n = true := by
  rw [stationOk_iff]
  omega

namespace State

variable {s : State} {straps : Straps}

/-- A start that falls at the present instant: the straps are read, and slot A's reading begins. -/
theorem beginLoading_ok (hstart : s.ctl.startAt = s.now) (hok : stationOk straps.sn.toNat = true) :
    s.beginLoading straps = { s with ctl := loadingWith s.ctl straps s.now } := by
  rw [beginLoading, if_pos hok, loadingWith, ← hstart]
  rfl

/-- A station number that the straps cannot name faults the station. -/
theorem beginLoading_bad (hstart : s.ctl.startAt = s.now) (hbad : ¬stationOk straps.sn.toNat = true) :
    s.beginLoading straps = State.enterFaulted { s with ctl := loadingWith s.ctl straps s.now } .badStrap 0 := by
  rw [beginLoading, if_neg hbad, loadingWith, ← hstart]
  rfl

/-! ### The end of RESET_HELD (R157) -/

/-- The station as RESET_HELD ends, its straps still to be read. -/
def released (s : State) : State :=
  { s with ctl := { s.ctl with state := .loading, startAt := s.now }, port := { s.port with selection := .station } }

theorem exec_resetHeldEnd (hheld : s.ctl.state = .resetHeld) :
    exec (.resetHeldEnd straps) s = .next (s.released.beginLoading straps) := by
  simp only [exec, execResetHeldEnd, hheld, released]

/-! ### RESTART (R159) -/

/-- The station as it starts again, RESTARTED posted and its straps still to be read. -/
def restarted (s : State) : State :=
  { State.reset with
    pending := s.pending, now := s.now, choices := s.choices, stamp := s.stamp
    ctl := { State.reset.ctl with state := .loading, startAt := s.now }
    temps := s.temps.map (fun c => { TempChannel.reset with latch := c.latch })
    badCount := s.badCount, shutdown := s.shutdown
    notices := s.notices.push 0 .restarted 0 (some s.timeBase), port := { s.port with selection := .station } }

/-- The time base of RESTARTED is 0, for the start is at the present instant (R158). -/
theorem restart_eq : s.restart straps = s.restarted.beginLoading straps := by
  have htime : min 65535 ((s.now - s.now) / 1000) = 0 := by simp
  unfold restart restarted post timeBase
  dsimp only [resetHeld]
  rw [htime]
  rfl

theorem exec_restart (hs : s.started = true) : exec (.restart straps) s = .next ((newTransaction s).restarted.beginLoading straps) :=
  congrArg Host.Outcome.next ((s.portWrite_bare straps 0x4F .restart hs rfl).trans restart_eq)

/-- The start of a transaction, where no write is in progress. -/
theorem newTransaction_free (hs : s.started = true) (hheld : s.port.held = []) :
    newTransaction s = { s with port := { s.port with transfer := .idle } } :=
  s.endTransfer_of_none _ hs (by rw [hheld, writeAction_nil])

end State
end Sys2Proof.Machine

/-- Settles O15: both starts begin LOADING at the present instant, which reads the straps. -/
theorem stationStarts : Obligations.StationStarts := by
  refine ⟨fun s straps delivered => ⟨rfl, fun hheld h1 h30 => ?_, fun hheld hbad => ?_⟩, ?_⟩
  · rw [State.exec_resetHeldEnd hheld, State.beginLoading_ok rfl (stationOk_iff.mpr ⟨h1, h30⟩)]
    rfl
  · rw [State.exec_resetHeldEnd hheld, State.beginLoading_bad rfl (not_stationOk_of_strap hbad)]
    rfl
  · intro s straps hs u t
    rw [State.exec_restart hs]
    refine ⟨State.newTransaction_free hs, fun h1 h30 => ?_, fun hbad => ?_⟩
    · rw [State.beginLoading_ok rfl (stationOk_iff.mpr ⟨h1, h30⟩)]
      rfl
    · rw [State.beginLoading_bad rfl (not_stationOk_of_strap hbad)]
      rfl

end

section
/-! SUPPORT. Which bytes of a write the port acknowledges, and the action that a write takes at its end (R170, R171). -/

namespace Sys2Proof.Machine

/-! ### Code bytes and index bytes -/

theorem bareAction_isSome_iff (n : Nat) :
    (bareAction n).isSome = true ↔ n ∈ [0x01, 0x07, 0x08, 0x09, 0x0A, 0x0B, 0x40, 0x41, 0x4F] := by
  unfold bareAction
  split <;> simp_all

theorem bareAction_eq_none {n : Nat} (h : n ∉ [0x01, 0x07, 0x08, 0x09, 0x0A, 0x0B, 0x40, 0x41, 0x4F]) : bareAction n = none :=
  Option.not_isSome_iff_eq_none.mp (mt (bareAction_isSome_iff n).mp h)

/-- A code byte that takes an index has no action of its own. -/
theorem bareAction_eq_none_of_indexed {n : Nat} (h : n ∈ [2, 3, 4, 5, 6]) : bareAction n = none := by
  refine bareAction_eq_none fun hbare => ?_
  simp only [List.mem_cons, List.not_mem_nil, or_false] at h hbare
  omega

theorem takesIndex_iff (n : Nat) : takesIndex n = true ↔ n ∈ [2, 3, 4, 5, 6] := by
  simp only [takesIndex, Bool.and_eq_true, decide_eq_true_iff, List.mem_cons, List.not_mem_nil, or_false]
  omega

theorem takesIndex_of_indexedView {code index : Nat} {v : View} (h : indexedView code index = some v) : takesIndex code = true := by
  unfold indexedView at h
  split at h
  iterate 5 rfl
  · cases h

namespace State

variable {s : State}

/-- The first byte of a write is acknowledged if it is a code byte. -/
theorem acknowledges_first (byte : Byte) :
    s.acknowledges [] byte = true
      ↔ byte.toNat ∈ [0x01, 0x02, 0x03, 0x04, 0x05, 0x06, 0x07, 0x08, 0x09, 0x0A, 0x0B, 0x40, 0x41, 0x4F] := by
  rw [acknowledges, Bool.or_eq_true, takesIndex_iff, bareAction_isSome_iff]
  simp only [List.mem_cons, List.not_mem_nil, or_false]
  omega

/-- The second byte of a write is acknowledged if the code byte takes an index and it is in its range. -/
theorem acknowledges_second (code byte : Byte) :
    s.acknowledges [code] byte = true
      ↔ (code.toNat = 2 ∧ byte.toNat ≤ 7) ∨ (code.toNat = 3 ∧ byte.toNat ≤ 5)
        ∨ ((code.toNat = 4 ∨ code.toNat = 5) ∧ byte.toNat < s.roles.length) ∨ (code.toNat = 6 ∧ byte.toNat ≤ 15) := by
  change ((indexedView code.toNat byte.toNat).map s.indexAccepted).getD false = true ↔ _
  unfold indexedView
  split <;> simp_all [indexAccepted]

theorem acknowledges_later (a b : Byte) (before : List Byte) (byte : Byte) : s.acknowledges (a :: b :: before) byte = false := rfl

/-- A write that begins, of one byte and of two. -/
theorem judgeBytes_one (a : Byte) : s.judgeBytes [] [a] = [(a, s.acknowledges [] a)] := rfl

theorem judgeBytes_two (a b : Byte) : s.judgeBytes [] [a, b] = [(a, s.acknowledges [] a), (b, s.acknowledges [a] b)] := rfl

end State

/-! ### The action of a write -/

theorem writeAction_of_refused {held : List (Byte × Bool)} (h : ∃ x ∈ held, x.2 = false) : writeAction held = none := by
  refine if_neg fun hall => ?_
  obtain ⟨x, hx, hfalse⟩ := h
  simp [List.all_eq_true.mp hall x hx] at hfalse

/-- More than two bytes are no write of the port's. -/
theorem writeAction_of_long {held : List (Byte × Bool)} (h : 2 < held.length) : writeAction held = none := by
  match held, h with
  | a :: b :: c :: rest, _ => exact ite_self _

theorem writeAction_one (code : Byte) : writeAction [(code, true)] = bareAction code.toNat := rfl

theorem writeAction_two (code index : Byte) :
    writeAction [(code, true), (index, true)] = (indexedView code.toNat index.toNat).map .select := rfl

/-- A held write with a byte in error, without a byte, or without its index, takes no action. -/
theorem writeAction_incomplete {held : List (Byte × Bool)}
    (h : (∃ x ∈ held, x.2 = false) ∨ held = [] ∨ ∃ code ack, held = [(code, ack)] ∧ code.toNat ∈ [2, 3, 4, 5, 6]) :
    writeAction held = none := by
  obtain herror | rfl | ⟨code, ack, rfl, hcode⟩ := h
  · exact writeAction_of_refused herror
  · rfl
  · cases ack with
    | false => exact writeAction_of_refused ⟨_, List.mem_singleton_self _, rfl⟩
    | true => exact bareAction_eq_none_of_indexed hcode

theorem State.length_judgeBytes (s : State) (held : List (Byte × Bool)) (bytes : List Byte) :
    (s.judgeBytes held bytes).length = held.length + bytes.length := by
  induction bytes generalizing held with
  | nil => rfl
  | cons byte bytes ih => rw [s.judgeBytes_cons, ih, List.length_append, List.length_singleton, List.length_cons]; omega

/-- The bytes of a write that R170 refuses: none, an unknown code or one that wants an index, an index out of range, or too many. -/
def State.Refuses (s : State) : List Byte → Prop
  | [] => True
  | [code] => code.toNat ∉ [0x01, 0x07, 0x08, 0x09, 0x0A, 0x0B, 0x40, 0x41, 0x4F]
  | [code, index] => ¬((code.toNat = 2 ∧ index.toNat ≤ 7) ∨ (code.toNat = 3 ∧ index.toNat ≤ 5)
      ∨ ((code.toNat = 4 ∨ code.toNat = 5) ∧ index.toNat < s.roles.length) ∨ (code.toNat = 6 ∧ index.toNat ≤ 15))
  | _ => True

theorem State.Refuses.writeAction {s : State} {bytes : List Byte} (h : s.Refuses bytes) : writeAction (s.judgeBytes [] bytes) = none := by
  match bytes, h with
  | [], _ => rfl
  | [code], h =>
    rw [judgeBytes_one]
    cases hack : s.acknowledges [] code with
    | false => exact writeAction_of_refused ⟨_, List.mem_singleton_self _, rfl⟩
    | true => exact bareAction_eq_none h
  | [code, index], h =>
    have hack : s.acknowledges [code] index = false := Bool.eq_false_iff.mpr (mt (acknowledges_second code index).mp h)
    exact writeAction_of_refused ⟨(index, s.acknowledges [code] index), by simp [judgeBytes_two], hack⟩
  | a :: b :: c :: rest, _ => exact writeAction_of_long (by simp [s.length_judgeBytes])

namespace State

variable {s : State}

/-! ### Whole writes -/

/-- A write of a code byte and an index byte takes the view in the state that the start of its transaction left (R171). -/
theorem portWrite_indexed {straps : Straps} {code index : Byte} {v : View} (hs : s.started = true)
    (hv : indexedView code.toNat index.toNat = some v) :
    s.portWrite straps [code, index]
      = if (newTransaction s).indexAccepted v then (newTransaction s).portAct straps (.select v) else newTransaction s := by
  have hfirst : (newTransaction s).acknowledges [] code = true := by simp [acknowledges, takesIndex_of_indexedView hv]
  have hsecond : (newTransaction s).acknowledges [code] index = (newTransaction s).indexAccepted v := by simp [acknowledges, hv]
  rw [s.portWrite_eq straps _ hs, judgeBytes_two, hfirst, hsecond]
  cases (newTransaction s).indexAccepted v with
  | false => rfl
  | true => simp [writeAction_two, hv]

theorem selectView_taken {code index : Byte} {v : View} (hs : s.started = true) (hv : indexedView code.toNat index.toNat = some v)
    (haccepted : (newTransaction s).indexAccepted v = true) :
    s.selectView [code, index] = { newTransaction s with port := { (newTransaction s).port with selection := v } } :=
  (portWrite_indexed hs hv).trans (if_pos haccepted)

theorem selectView_refused {code index : Byte} {v : View} (hs : s.started = true) (hv : indexedView code.toNat index.toNat = some v)
    (hrefused : (newTransaction s).indexAccepted v = false) : s.selectView [code, index] = newTransaction s :=
  (portWrite_indexed hs hv).trans (if_neg (Bool.eq_false_iff.mp hrefused))

/-- In RESET_HELD the port takes no write (R169). -/
theorem portWrite_of_not_started (straps : Straps) (bytes : List Byte) (hs : s.started = false) : s.portWrite straps bytes = s :=
  if_neg (by simp [hs])

/-! ### Writes in parts -/

theorem portAddress_eq_some_iff {n : Nat} :
    s.portAddress = some n ↔ s.started = true ∧ s.ctl.offset.map (0x36 + ·) = some n := by
  rw [portAddress, Option.ite_none_right_eq_some]

/-- A port with a write in progress. -/
def withHeld (s : State) (held : List (Byte × Bool)) : State := { s with port := { s.port with transfer := .write held } }

theorem bringBytes_eq (bytes : List Byte) : s.bringBytes bytes = s.withHeld (s.judgeBytes s.port.held bytes) := rfl

/-- The bytes are judged one after another, for holding them changes nothing that the judgement sees. -/
theorem bringBytes_cons (byte : Byte) (bytes : List Byte) : s.bringBytes (byte :: bytes) = (s.bringBytes [byte]).bringBytes bytes := rfl

/-- A write in progress ends: its action is taken, or none. -/
theorem endTransfer_withHeld {straps : Straps} (held : List (Byte × Bool)) (hs : s.started = true) :
    (s.withHeld held).endTransfer straps
      = match writeAction held with
        | some action => ({ s with port := { s.port with transfer := .idle } } : State).portAct straps action
        | none => { s with port := { s.port with transfer := .idle } } := by
  have hheld : (s.withHeld held).started = true := hs
  cases ha : writeAction held with
  | none => exact endTransfer_of_none _ _ hheld ha
  | some action => exact endTransfer_of_some _ _ _ hheld ha

/-- A write of no more bytes ends the transaction in progress. -/
theorem endTransfer_held {straps : Straps} (hs : s.started = true) :
    (s.withHeld s.port.held).endTransfer straps = s.endTransfer straps := by
  rw [endTransfer_withHeld _ hs]
  cases ha : writeAction s.port.held with
  | none => rw [s.endTransfer_of_none straps hs ha]
  | some action => rw [s.endTransfer_of_some straps action hs ha]

/-- A write to another address changes nothing (R169). -/
theorem exec_writeRefused_other {a : BitVec 7} {bytes : List Byte} {ended : Bool} (h : s.portAddress ≠ some a.toNat) :
    exec (.writeRefused a bytes ended) s = .next (newTransaction s) :=
  congrArg Host.Outcome.next (if_neg h)

theorem exec_writeRefused_own {a : BitVec 7} {bytes : List Byte} {ended : Bool} (h : s.portAddress = some a.toNat) :
    exec (.writeRefused a bytes ended) s
      = .next (if ended then (s.bringBytes bytes).endTransfer s.ctl.straps else s.bringBytes bytes) :=
  congrArg Host.Outcome.next (if_pos h)

/-- A write that R170 refuses changes nothing. -/
theorem exec_writeRefused_refused {a : BitVec 7} {bytes : List Byte} (hheld : s.port.held = []) (h : s.Refuses bytes) :
    exec (.writeRefused a bytes true) s = .next (newTransaction s) := by
  by_cases haddress : s.portAddress = some a.toNat
  · obtain ⟨hs, -⟩ := portAddress_eq_some_iff.mp haddress
    rw [exec_writeRefused_own haddress, bringBytes_eq, hheld, if_pos rfl, endTransfer_withHeld _ hs, h.writeAction,
      newTransaction_free hs hheld]
  · exact exec_writeRefused_other haddress

end State
end Sys2Proof.Machine
end

section
/-! O57: view selections and writes at the service port (R169 to R171). -/

open Sys2Proof Sys2Proof.Machine

namespace Sys2Proof.Machine.State

variable {s : State}

/-- A byte of a write in progress: a code byte first, then its index, then none (R170). -/
theorem acknowledges_iff (held : List (Byte × Bool)) (byte : Byte) :
    s.acknowledges (held.map Prod.fst) byte = true
      ↔ (held = [] ∧ byte.toNat ∈ [0x01, 0x02, 0x03, 0x04, 0x05, 0x06, 0x07, 0x08, 0x09, 0x0A, 0x0B, 0x40, 0x41, 0x4F])
        ∨ ∃ code ack, held = [(code, ack)]
          ∧ ((code.toNat = 2 ∧ byte.toNat ≤ 7) ∨ (code.toNat = 3 ∧ byte.toNat ≤ 5)
            ∨ ((code.toNat = 4 ∨ code.toNat = 5) ∧ byte.toNat < s.roles.length) ∨ (code.toNat = 6 ∧ byte.toNat ≤ 15)) := by
  match held with
  | [] => simp [acknowledges_first]
  | [(code, ack)] => simp [acknowledges_second]
  | a :: b :: rest => simp [acknowledges_later]

section

variable (hs : s.started = true) (hfree : s.port.held = [])
include hs hfree

/-- The end of a write that a free port has come to hold. -/
theorem newTransaction_withHeld (held : List (Byte × Bool)) :
    newTransaction (s.withHeld held)
      = match writeAction held with
        | some action => (newTransaction s).portAct s.ctl.straps action
        | none => newTransaction s := by
  rw [newTransaction_free hs hfree]
  exact endTransfer_withHeld held hs

/-- A code byte without an index: its command is the write of that byte, held and ended. -/
theorem portWrite_eq_held {code : Byte} {action : PortAction} (ha : bareAction code.toNat = some action) :
    s.portWrite s.ctl.straps [code] = newTransaction (s.withHeld [(code, true)]) := by
  rw [s.portWrite_bare _ code action hs ha, newTransaction_withHeld hs hfree, writeAction_one, ha]

theorem newTransaction_view {code index : Byte} {v : View} (hv : indexedView code.toNat index.toNat = some v) :
    newTransaction (s.withHeld [(code, true), (index, true)])
      = { newTransaction s with port := { (newTransaction s).port with selection := v } } := by
  rw [newTransaction_withHeld hs hfree, writeAction_two, hv]
  rfl

theorem newTransaction_without_action {held : List (Byte × Bool)} (ha : writeAction held = none) :
    newTransaction (s.withHeld held) = newTransaction s := by
  rw [newTransaction_withHeld hs hfree, ha]

end

/-- Bytes of a write that arrive together do what they do one after another. -/
theorem exec_writeRefused_cons {a : BitVec 7} (haddress : s.portAddress = some a.toNat) (byte : Byte) (bytes : List Byte)
    (ended : Bool) : exec (.writeRefused a (byte :: bytes) ended) s = exec (.writeRefused a bytes ended) (s.bringBytes [byte]) := by
  have hbrought : (s.bringBytes [byte]).portAddress = some a.toNat := haddress
  rw [exec_writeRefused_own haddress, exec_writeRefused_own hbrought, bringBytes_cons]
  rfl

end Sys2Proof.Machine.State

/-- Settles O57: a whole write is its bytes judged and its end, and a write in parts is judged byte by byte to the same end. -/
theorem viewsSelected : Obligations.ViewsSelected := by
  intro s u taken own
  refine ⟨State.newTransaction_free, fun hs => ?_, fun a bytes => ⟨State.exec_writeRefused_refused, fun hno _ => ?_⟩,
    fun hs a ha => ?_, fun hs hfree => ?_, fun hs => ⟨State.endTransfer_of_not_started s _ hs, fun i straps => ?_⟩⟩
  · have htaken {code index : Byte} {v : View} (hv : indexedView code.toNat index.toNat = some v) (h : u.indexAccepted v = true) :
        taken v (.next (s.selectView [code, index])) := congrArg Host.Outcome.next (State.selectView_taken hs hv h)
    have hrefused {code index : Byte} {v : View} (hv : indexedView code.toNat index.toNat = some v) (h : u.indexAccepted v = false) :
        (.next (s.selectView [code, index]) : Host.Outcome State Fault Refusal) = .next u := congrArg _ (State.selectView_refused hs hv h)
    have hbare {code : Byte} {v : View} (hv : bareAction code.toNat = some (.select v)) : taken v (.next (s.selectView [code])) :=
      congrArg Host.Outcome.next (s.portWrite_bare _ code _ hs hv)
    refine ⟨hbare rfl, hbare rfl, hbare rfl, hbare rfl, hbare rfl, hbare rfl, fun i => ⟨?_, ?_, ?_, ?_, ?_, ?_, ?_, ?_⟩⟩
    · exact fun h => htaken rfl (decide_eq_true h)
    · exact fun h => hrefused rfl (decide_eq_false (not_le.mpr h))
    · exact fun h => htaken rfl (decide_eq_true h)
    · exact fun h => hrefused rfl (decide_eq_false (not_le.mpr h))
    · exact fun h => ⟨htaken rfl (decide_eq_true h), htaken rfl (decide_eq_true h)⟩
    · exact fun h => ⟨hrefused rfl (decide_eq_false (not_lt.mpr h)), hrefused rfl (decide_eq_false (not_lt.mpr h))⟩
    · exact fun h => htaken rfl (decide_eq_true h)
    · exact fun h => hrefused rfl (decide_eq_false (not_le.mpr h))
  · exact State.exec_writeRefused_other fun haddress => hno (State.portAddress_eq_some_iff.mp haddress).2
  · have haddress : s.portAddress = some a.toNat := State.portAddress_eq_some_iff.mpr ⟨hs, ha⟩
    refine ⟨fun byte => ⟨_, State.exec_writeRefused_own haddress, State.acknowledges_iff s.port.held byte⟩,
      fun byte bytes ended t ht => ?_, ?_⟩
    · rw [State.exec_writeRefused_own haddress] at ht
      injection ht with ht
      subst ht
      exact State.exec_writeRefused_cons haddress byte bytes ended
    · rw [State.exec_writeRefused_own haddress]
      exact congrArg Host.Outcome.next (State.endTransfer_held hs)
  · intro holding
    refine ⟨?_, fun i => ?_, fun held h => State.newTransaction_without_action hs hfree (writeAction_incomplete h)⟩
    · have hheld {code : Byte} {action : PortAction} (ha : bareAction code.toNat = some action) :
          (.next (s.portWrite s.ctl.straps [code]) : Host.Outcome State Fault Refusal) = .next (newTransaction (holding [code])) :=
        congrArg _ (State.portWrite_eq_held hs hfree ha)
      simp only [List.forall_mem_cons]
      exact ⟨hheld rfl, hheld rfl, hheld rfl, hheld rfl, hheld rfl, hheld rfl, hheld rfl, hheld rfl, hheld rfl, nofun⟩
    · have hview {code : Byte} {v : View} (hv : indexedView code.toNat i.toNat = some v) :
          newTransaction (holding [code, i]) = { u with port := { u.port with selection := v } } :=
        State.newTransaction_view hs hfree hv
      exact ⟨hview rfl, hview rfl, hview rfl, hview rfl, hview rfl⟩
  · have hnone (straps : Straps) (bytes : List Byte) : (.next (s.portWrite straps bytes) : Host.Outcome State Fault Refusal) = .next s :=
      congrArg _ (State.portWrite_of_not_started straps bytes hs)
    simp only [List.forall_mem_cons]
    exact ⟨hnone _ _, hnone _ _, hnone _ _, hnone _ _, hnone _ _, hnone _ _, hnone _ _, hnone _ _, hnone _ _, hnone _ _, hnone _ _,
      hnone _ _, hnone _ _, hnone _ _, nofun⟩

end

section
/-! SUPPORT. The bytes of the fields of a view, and their number (R183; 12, section 12.4). -/

namespace Sys2Proof.Machine

/-! ### Bytes of a field -/

@[simp] theorem byteOf_zero : byteOf 0 = 0 := rfl

@[simp] theorem byteOf_one : byteOf 1 = 1 := rfl

@[simp] theorem bytes2_zero : bytes2 0 = [0, 0] := rfl

@[simp] theorem laidOut_nil : laidOut [] = [] := rfl

theorem laidOut_cons (f : Field) (fs : List Field) : laidOut (f :: fs) = Field.bytes f.1 f.2 ++ laidOut fs := rfl

@[simp] theorem laidOut_one (n : Nat) (fs : List Field) : laidOut (one n :: fs) = byteOf n :: laidOut fs :=
  congrArg (· ++ laidOut fs) (Field.bytes_one n)

@[simp] theorem laidOut_two (n : Nat) (fs : List Field) : laidOut (two n :: fs) = bytes2 n ++ laidOut fs :=
  congrArg (· ++ laidOut fs) (Field.bytes_two n)

@[simp] theorem laidOut_mark (b : Bool) (fs : List Field) : laidOut (mark b :: fs) = byteOf (flagCode b) :: laidOut fs := laidOut_one _ _

@[simp] theorem laidOut_timeLeft (now : Nat) (t : Timer) (fs : List Field) :
    laidOut (timeLeft now t :: fs) = remaining now t ++ laidOut fs := by
  cases t <;> exact laidOut_two _ fs

/-- A signed value of one byte. -/
@[simp] theorem laidOut_signed_one (v : Int) (fs : List Field) : laidOut ((1, v) :: fs) = BitVec.ofInt 8 v :: laidOut fs := by
  simp [laidOut_cons, Field.bytes]

/-- A signed value of two bytes. -/
@[simp] theorem laidOut_signed_two (v : Int) (fs : List Field) : laidOut ((2, v) :: fs) = bytesInt v ++ laidOut fs :=
  congrArg (· ++ laidOut fs) (Field.bytes_signed v)

@[simp] theorem laidOut_zeros (n : Nat) : laidOut (List.replicate n (one 0)) = List.replicate n 0 := by
  induction n with
  | zero => rfl
  | succ n ih => rw [List.replicate_succ, List.replicate_succ, laidOut_one, ih, byteOf_zero]

@[simp] theorem laidOut_temp (t : Option Int) : laidOut (present t) = presentTemp t := by
  cases t <;> simp [present, presentTemp]

/-- An epoch is a number of two bytes. -/
@[simp] theorem presentTemp_epoch (e : Option Epoch) : presentTemp (e.map fun e => (e.toNat : Int)) = presentEpoch e := by
  cases e with
  | none => rfl
  | some e => exact congrArg (byteOf 1 :: ·) ((Field.bytes_signed e.toNat).symm.trans (Field.bytes_two e.toNat))

@[simp] theorem laidOut_slot (r : SlotResult) : laidOut (slotFields r) = slotBytes r := by
  cases r <;> simp [slotFields, slotBytes, slotCode]

@[simp] theorem laidOut_notice (n : Notice) : laidOut (noticeFields n) = noticeBytes n := by
  simp [noticeFields, noticeBytes]

/-! ### Lists of entries -/

theorem laidOut_flatMap {α : Type} (f : α → List Field) (xs : List α) :
    laidOut (xs.flatMap f) = xs.flatMap fun x => laidOut (f x) := by
  simp [laidOut, List.flatMap_assoc]

theorem laidOut_mapIdx {α : Type} (f : Nat → α → List Field) (xs : List α) :
    laidOut (xs.mapIdx f).flatten = (xs.mapIdx fun i x => laidOut (f i x)).flatten := by
  simp [laidOut, List.flatMap, List.mapIdx_eq_zipIdx_map, Function.comp_def, List.flatten_flatten]

end Sys2Proof.Machine
end

section
/-! SUPPORT. The bytes of each view are its fields laid out (Table 12-4). -/

namespace Sys2Proof.Machine.State

variable (s : State)

theorem stationBytes_eq : s.stationBytes = laidOut (viewFields s .station) := by
  cases htaken : s.ctl.taken with
  | none => simp [stationBytes, viewFields, htaken, laidOut_append]
  | some taken =>
    obtain ⟨slot, generation⟩ := taken
    cases slot <;> simp [stationBytes, viewFields, htaken, laidOut_append, slotNumber]

theorem channelBytes_eq (i : Nat) : s.channelBytes i = laidOut (viewFields s (.channel i)) := by
  simp [channelBytes, viewFields, laidOut_append]

theorem fanBytes_eq (i : Nat) : s.fanBytes i = laidOut (viewFields s (.fan i)) := by
  simp [fanBytes, viewFields]

theorem causesCode_eq (c : Causes) :
    causesCode c = (if c.isolated then 1 else 0) + (if c.groupFailed then 2 else 0) + (if c.critical then 4 else 0) := by
  obtain ⟨isolated, groupFailed, critical⟩ := c
  cases isolated <;> cases groupFailed <;> cases critical <;> rfl

theorem roleBytes_eq (i : Nat) : s.roleBytes i = laidOut (viewFields s (.role i)) := by
  cases hrole : s.roles[i]? with
  | none => simp [roleBytes, viewFields, hrole]
  | some role =>
    cases hother : role.ship.other <;> simp [roleBytes, viewFields, hrole, hother, laidOut_append, causesCode_eq]

theorem claimsBytes_eq (i : Nat) : s.claimsBytes i = laidOut (viewFields s (.claims i)) := by
  cases hrole : s.roles[i]? with
  | none => simp [claimsBytes, viewFields, hrole]
  | some role =>
    simp only [claimsBytes, viewFields, hrole, laidOut_append, laidOut_mapIdx]
    congr 1
    · simp
    · congr 2
      funext position e
      cases hlive : e.live <;> simp [claimBytes, hlive, tenthsDown]

theorem groupviewBytes_eq (g : Nat) : s.groupviewBytes g = laidOut (viewFields s (.groupview g)) := by
  cases hview : s.view g with
  | none => simp [groupviewBytes, viewFields, hview]
  | some v => simp [groupviewBytes, viewFields, hview, tenthsDown, List.range_succ]

theorem rosterViewBytes_eq : s.rosterViewBytes = laidOut (viewFields s .roster) := by
  simp only [rosterViewBytes, viewFields, laidOut_append, laidOut_mapIdx]
  congr 1
  · simp
  · congr 2
    funext position e
    simp [rosterBytes, tenthsDown]

theorem demandViewBytes_eq : s.demandViewBytes = laidOut (viewFields s .demand) := by
  simp only [demandViewBytes, viewFields, laidOut_append, laidOut_flatMap]
  congr 1
  · simp [demandPosition]
  · congr 1
    funext d
    cases hlast : d.last <;> simp [demandBytes, hlast]

theorem satboardBytes_eq : s.satboardBytes = laidOut (viewFields s .satboard) := by
  have hcrit : critBytes = fun e => laidOut [one e.station, one e.channel, (2, e.reading), mark e.listed] := by
    funext e
    simp [critBytes]
  simp [satboardBytes, viewFields, laidOut_append, laidOut_flatMap, boardBytes, hcrit, flagCode]

theorem noticeViewBytes_eq : s.noticeViewBytes = laidOut (viewFields s .notice) := by
  cases hqueue : s.notices.queue <;> simp [noticeViewBytes, viewFields, hqueue, laidOut_append]

theorem countsBytes_eq : s.countsBytes = laidOut (viewFields s .counts) := by
  simp [countsBytes, viewFields, laidOut_flatMap]

/-- The bytes of a view are its fields laid out. -/
theorem viewBytes_eq (v : View) : s.viewBytes v = laidOut (viewFields s v) := by
  cases v with
  | station => exact s.stationBytes_eq
  | channel i => exact s.channelBytes_eq i
  | fan i => exact s.fanBytes_eq i
  | role i => exact s.roleBytes_eq i
  | claims i => exact s.claimsBytes_eq i
  | groupview g => exact s.groupviewBytes_eq g
  | roster => exact s.rosterViewBytes_eq
  | demand => exact s.demandViewBytes_eq
  | satboard => exact s.satboardBytes_eq
  | notice => exact s.noticeViewBytes_eq
  | counts => exact s.countsBytes_eq

end Sys2Proof.Machine.State
end

section
/-! SUPPORT. The length of each view (Table 12-4). -/

namespace Sys2Proof.Machine

@[simp] theorem length_bytes2 (n : Nat) : (bytes2 n).length = 2 := rfl

@[simp] theorem length_bytesInt (v : Int) : (bytesInt v).length = 2 := rfl

@[simp] theorem length_remaining (now : Nat) (t : Timer) : (remaining now t).length = 2 := rfl

@[simp] theorem length_presentTemp (t : Option Int) : (presentTemp t).length = 3 := by cases t <;> rfl

@[simp] theorem length_presentEpoch (e : Option Epoch) : (presentEpoch e).length = 3 := by cases e <;> rfl

@[simp] theorem length_noticeBytes (n : Notice) : (noticeBytes n).length = 9 := rfl

/-- Entries of one length, one after another. -/
theorem length_flatten_mapIdx {α β : Type} {f : Nat → α → List β} {n : Nat} (hf : ∀ i x, (f i x).length = n) (xs : List α) :
    (xs.mapIdx f).flatten.length = n * xs.length := by
  induction xs generalizing f with
  | nil => rfl
  | cons x xs ih =>
    rw [List.mapIdx_cons, List.flatten_cons, List.length_append, hf, ih fun i x => hf (i + 1) x, List.length_cons]
    ring

theorem length_flatMap_of_length {α β : Type} {f : α → List β} {n : Nat} (hf : ∀ x, (f x).length = n) (xs : List α) :
    (xs.flatMap f).length = n * xs.length := by
  simp [List.length_flatMap, hf, Nat.mul_comm]

namespace State

variable (s : State)

theorem length_stationBytes : s.stationBytes.length = 16 := by simp [stationBytes, slotBytes]

theorem length_channelBytes (i : Nat) : (s.channelBytes i).length = 20 := by simp [channelBytes]

theorem length_fanBytes (i : Nat) : (s.fanBytes i).length = 7 := by simp [fanBytes]

variable {s} in
theorem length_roleBytes {i : Nat} (h : i < s.roles.length) : (s.roleBytes i).length = 31 := by
  simp [roleBytes, List.getElem?_eq_getElem h]

variable {s} in
theorem length_claimsBytes {i : Nat} {role : Role} (h : s.roles[i]? = some role) :
    (s.claimsBytes i).length = 4 + 8 * role.claims.entries.length := by
  have hclaim (position : Nat) (e : ClaimEntry) : (claimBytes s.now position e).length = 8 := by
    cases hlive : e.live <;> simp [claimBytes, hlive]
  simp +arith [claimsBytes, h, length_flatten_mapIdx hclaim]

theorem length_groupviewBytes (g : Nat) : (s.groupviewBytes g).length = 20 := by
  cases hview : s.view g <;> simp [groupviewBytes, hview, List.range_succ]

theorem length_rosterViewBytes : s.rosterViewBytes.length = 6 + 9 * s.peers.roster.length := by
  simp +arith [rosterViewBytes, length_flatten_mapIdx (f := rosterBytes s.now) (n := 9) fun _ _ => rfl]

theorem length_demandViewBytes : s.demandViewBytes.length = 6 + 12 * s.demand.entries.length := by
  have hentry (d : DemandEntry) : (demandBytes d).length = 12 := by cases hlast : d.last <;> simp [demandBytes, hlast]
  simp +arith [demandViewBytes, length_flatMap_of_length hentry]

theorem length_noticeViewBytes : s.noticeViewBytes.length = 14 := by
  cases hqueue : s.notices.queue <;> simp [noticeViewBytes, hqueue]

theorem length_countsBytes : s.countsBytes.length = 9 + 2 * s.txq.length := by
  simp +arith [countsBytes]

end State
end Sys2Proof.Machine
end

section
/-! O58: a read transaction (R172; 12, section 12.4). -/

open Sys2Proof Sys2Proof.Machine

namespace Sys2Proof.Machine

namespace State

variable {s : State} {a : BitVec 7} {count : Nat}

/-- A read of the own address takes the snapshot of the selected view in the state that its START left. -/
theorem exec_readTransaction_own (h : (newTransaction s).portAddress = some a.toNat) :
    exec (.readTransaction a count) s
      = .next { newTransaction s with port := { (newTransaction s).port with
          snapshot := (newTransaction s).viewBytes (newTransaction s).port.selection
          sent := readBytes ((newTransaction s).viewBytes (newTransaction s).port.selection) count
          transfer := .read } } :=
  congrArg Host.Outcome.next (if_pos h)

theorem exec_readTransaction_other (h : (newTransaction s).portAddress ≠ some a.toNat) :
    exec (.readTransaction a count) s = .next (newTransaction s) :=
  congrArg Host.Outcome.next (if_neg h)

end State

/-- The codes are those of the tables. -/
theorem codesOfViews : CodesOfViews := by
  unfold CodesOfViews
  decide

end Sys2Proof.Machine

/-- Settles O58: the snapshot is the selected view's bytes, which are its fields laid out, and their widths add up to its length. -/
theorem readReturns : Obligations.ReadReturns := by
  refine ⟨fun s a count => ?_, codesOfViews⟩
  intro u
  refine ⟨fun hs ha => ?_, fun h => ?_⟩
  · have haddress : u.portAddress = some a.toNat := State.portAddress_eq_some_iff.mpr ⟨hs, ha⟩
    refine ⟨_, State.exec_readTransaction_own haddress, rfl, u.viewBytes_eq _, ?_⟩
    cases u.port.selection with
    | station => exact u.length_stationBytes
    | channel i => exact u.length_channelBytes i
    | fan i => exact u.length_fanBytes i
    | role i => exact State.length_roleBytes
    | claims i => exact fun _ => State.length_claimsBytes
    | groupview g => exact u.length_groupviewBytes g
    | roster => exact u.length_rosterViewBytes
    | demand => exact u.length_demandViewBytes
    | satboard => trivial
    | notice => exact u.length_noticeViewBytes
    | counts => exact u.length_countsBytes
  · refine State.exec_readTransaction_other fun haddress => ?_
    obtain ⟨hs, ha⟩ := State.portAddress_eq_some_iff.mp haddress
    exact h.elim (by simp [u, hs]) fun hno => hno ha

end
